-- ==== Sys2Proof/Word.lean ====
section
/-! DEFINITION. The word types: what the manual treats as bits. -/

namespace Sys2Proof

/-- One byte of a frame or of a stored record (11.8). -/
abbrev Byte := BitVec 8

/-- A check value: CRC-16 (R187). -/
abbrev Crc := BitVec 16

end Sys2Proof
end

