-- ==== Sys2Proof/Syntax.lean ====
section
/-! DEFINITION. The commands: one constructor of `Instr` per row of spec/opcode_table.json, and the server's commands as the
Order Link hands them on.

Numbers that a frame carries are `Nat`; `WellFormed.lean` holds them to their bytes. An event timed in milliseconds carries `t`,
the moment it is taken, in microseconds on the model's clock (DESIGN CHOICE, log 5). -/

namespace Sys2Proof

/-- The two kiosk lines (09, 9.1). -/
inductive KioskLine where
  | ka
  | kb
  deriving DecidableEq, Repr

/-- Where a RESETN low or a loss of VDD falls among the steps of the part (R205, R206). -/
inductive StopMoment where
  /-- Between two steps; during a start, before its resolution has been written. -/
  | betweenSteps
  /-- While a step is being written to Retention Memory. -/
  | withinStep
  /-- During a start, once its resolution has been written. -/
  | resolutionWritten
  deriving DecidableEq, Repr

/-- A command of the order server as R189 hands it to the block that owns it, or the reason the Order Link answers it itself.
Fields in the order of 11.8. -/
inductive Command where
  | book (orderRef code : Nat) (slots : List Nat) (loadOffset : Nat)
  | amend (orderRef form value : Nat)
  | cancel (orderRef : Nat)
  | load (orderRef bay force : Nat)
  | clear (bay : Nat)
  | openOrder (keyKind key : Nat)
  | lockout (bay : Nat)
  | restore (bay : Nat)
  | query (keyKind key : Nat)
  | scan (startOption startCode : Nat)
  | status (clearOption : Nat)
  | configure (record : List Byte)
  | profileWrite (slot : Nat) (record : List Byte)
  | profileRead (slot : Nat)
  | restart (option : Nat)
  /-- A command byte that names no command (R189, check 2). -/
  | unknown (command : Byte)
  /-- A length that does not fit the command, or an empty frame with command byte 00h (R187, R189). -/
  | badLength (command : Byte)
  /-- A frame declared longer than 59 (R187). -/
  | tooLong (command : Byte)
  deriving DecidableEq, Repr

/-- The rows of spec/opcode_table.json. -/
inductive Instr where
  -- Server commands: a whole good frame for this bank arrives (log 1).
  | book (orderRef code : Nat) (slots : List Nat) (loadOffset : Nat)
  | amendNewCode (orderRef value : Nat)
  | amendExtend (orderRef value : Nat)
  | amendNewLoad (orderRef value : Nat)
  | cancel (orderRef : Nat)
  | load (orderRef bay force : Nat)
  | clear (bay : Nat)
  | openOrder (keyKind key : Nat)
  | lockout (bay : Nat)
  | restore (bay : Nat)
  | query (keyKind key : Nat)
  | scan (startOption startCode : Nat)
  | status (clearOption : Nat)
  | configure (record : List Byte)
  | profileWrite (slot : Nat) (record : List Byte)
  | profileRead (slot : Nat)
  | restart (broadcast : Bool) (option : Nat)
  | unknownCommand (command : Byte)
  -- Order link characters and line events.
  | linkAddressCharacter (address : Byte) (t : Nat)
  | linkDataCharacter (data : Byte) (stopBit : Bool) (t : Nat)
  | frameEnd (data : Byte) (stopBit : Bool) (t : Nat)
  | frameGapTimeout (t : Nat)
  | replySend (t : Nat)
  | replyDone (t : Nat)
  -- Supplies and reset.
  | powerOn
  | resetnLow (moment : StopMoment)
  | resetnRelease
  -- Kiosk lines.
  | kioskCharacter (line : KioskLine) (data : Byte) (stopBit : Bool)
  | kioskEntry (line : KioskLine)
  | kioskFrameTimeout (line : KioskLine)
  | kioskReplyDone (line : KioskLine)
  -- Doors, by door number.
  | doorSwitchChange (door : Nat) (closed : Bool) (t : Nat)
  | doorOpened (door t : Nat)
  | doorClosed (door t : Nat)
  | doorAlarmExpiry (door : Nat)
  -- Latches, by drive channel.
  | latchGrant (t : Nat)
  | unlockPulseEnd (channel t : Nat)
  | lockPulseEnd (channel t : Nat)
  | stallTimerExpiry (t : Nat)
  -- Sensor scanner. `code` is what the converter gives.
  | passPeriodExpiry (t : Nat)
  | settlingConversionEnd (t : Nat)
  | keptConversionEnd (code t : Nat)
  -- Mains.
  | zcCrossing (t : Nat)
  | absenceWatchExpiry (t : Nat)
  -- Bay expiries.
  | preheatStartExpiry (bay : Nat)
  | lapseExpiry (bay : Nat)
  | loadWindowExpiry (bay : Nat)
  | deadlineExpiry (bay : Nat)
  | releaseTimerExpiry (bay : Nat)
  | clearingWindowExpiry (bay : Nat)
  -- Store, bank time, supplies.
  | storeWriteComplete (t : Nat)
  | bankTimeTick
  | lossOfVdd (moment : StopMoment)
  | lossOfVret
  deriving DecidableEq, Repr

end Sys2Proof
end

