-- ==== Sys2Proof/Decode.lean ====
section
/-! DEFINITION. The command a word of the opcode table spells. Every row of spec/opcode_table.json has an empty list of fields and no
fixed bits: the HC-48 has no instruction words, so no word spells a command (log 32). How the bytes of an order-link
frame are read is in Machine/Operands.lean (`parseCommand`). -/

namespace Sys2Proof

/-- No row of the table gives bits: no word spells a command. -/
def decodeTableWord (_nbits _w : Nat) : Option Instr := none

end Sys2Proof
end

