-- ==== Sys2Proof/Machine/State.lean ====
section
/-! DEFINITION. The state of the HC-48 as plain data, and `State.reset`. One structure per block of 00_scope.md. Numbers the
manual counts are `Nat` (each docstring gives the range), temperatures are `Int` deci-degrees, bank times are `Nat` ticks. -/

namespace Sys2Proof.Machine

/-! ### The Hold Table (01) -/

/-- The ten bay states (1.2), in the order of their codes 0 to 9 (11.8). -/
inductive BayState where
  | vacant | booked | preheating | ready | loading | holding | releasing | collecting | withdrawn | outOfService
  deriving DecidableEq, Repr, Inhabited

/-- Why a meal was withdrawn (R172), in the order of their codes 1 to 7 (11.8). -/
inductive WithdrawReason where
  | cold | hot | deadline | sensor | forced | cancelled | restart
  deriving DecidableEq, Repr, Inhabited

/-- Why a bay is out of service (R9, R10). -/
inductive OosReason where
  | lockout | sensor
  deriving DecidableEq, Repr, Inhabited

/-- The bay record of R1. An absent field is `none`. -/
structure Bay where
  state : BayState
  /-- Code of the directory entry the bay belongs to. -/
  entry : Option Nat
  /-- Profile slot bound at booking, 0..15. -/
  profile : Option Nat
  expectedLoad : Option Nat
  preheatStart : Option Nat
  lapseAt : Option Nat
  loadTime : Option Nat
  deadline : Option Nat
  /-- Minutes, 0..120. -/
  extUsed : Option Nat
  /-- Deci-degree-ticks, 0..16,777,215. -/
  qCold : Nat
  qHot : Nat
  lastTemp : Option Int
  lastRound : Option Nat
  /-- Ticks, 0..6000. -/
  restartPenaltyPending : Nat
  /-- 0..3. -/
  faultStreak : Nat
  /-- Half-cycles, 0..16. -/
  demand : Nat
  withdrawReason : Option WithdrawReason
  oosReason : Option OosReason
  draining : Bool
  sensorFault : Bool
  clearing : Bool
  rearOpened : Bool
  /-- The running window timer: load window, release timer or clearing window (R2). -/
  timer : Option Nat
  deriving DecidableEq, Repr, Inhabited

/-- The record of R20: VACANT, every optional field absent, counts 0, flags clear. -/
def Bay.empty : Bay :=
  { state := .vacant, entry := none, profile := none, expectedLoad := none, preheatStart := none, lapseAt := none,
    loadTime := none, deadline := none, extUsed := none, qCold := 0, qHot := 0, lastTemp := none, lastRound := none,
    restartPenaltyPending := 0, faultStreak := 0, demand := 0, withdrawReason := none, oosReason := none,
    draining := false, sensorFault := false, clearing := false, rearOpened := false, timer := none }

/-! ### The Notice Store (1.6) -/

/-- The passenger-side and kitchen-side doors of a bay. -/
inductive Side where
  | front | rear
  deriving DecidableEq, Repr

/-- The bank notices of R17. -/
inductive BankNotice where
  | coldStart | warmStart | mainsLost | mainsReturned | scanOverrun | configDefaulted | storeDone
  deriving DecidableEq, Repr

/-- The bank notice set: at most one member of each kind (R17). -/
structure BankNotices where
  coldStart : Bool
  warmStart : Bool
  mainsLost : Bool
  mainsReturned : Bool
  scanOverrun : Bool
  configDefaulted : Bool
  storeDone : Bool
  deriving DecidableEq, Repr, Inhabited

/-- The bay notices of R16. -/
inductive BayNotice where
  | ready | lapsed | loaded | collected | releaseTimeout
  | withdrawn (reason : WithdrawReason)
  | bayFault
  | doorForced (side : Side)
  | doorLeftOpen (side : Side)
  | lockFailed (side : Side)
  deriving DecidableEq, Repr

/-- A bay notice set: at most one member per kind, and for a door kind per door; WITHDRAWN carries its reason (R16). -/
structure BayNotices where
  ready : Bool
  lapsed : Bool
  loaded : Bool
  collected : Bool
  releaseTimeout : Bool
  withdrawn : Option WithdrawReason
  bayFault : Bool
  doorForcedFront : Bool
  doorForcedRear : Bool
  doorLeftOpenFront : Bool
  doorLeftOpenRear : Bool
  lockFailedFront : Bool
  lockFailedRear : Bool
  deriving DecidableEq, Repr, Inhabited

def BankNotices.empty : BankNotices := ⟨false, false, false, false, false, false, false⟩

def BayNotices.empty : BayNotices :=
  ⟨false, false, false, false, false, none, false, false, false, false, false, false, false⟩

/-! ### The Code Directory (02) -/

/-- A directory entry (R23). -/
structure Entry where
  code : Nat
  orderRef : Nat
  /-- 1 to 4 bay numbers, ascending. -/
  bays : List Nat
  created : Nat
  deriving DecidableEq, Repr, Inhabited

/-- The directory: entries in ascending code order (R24) and the generation, 0..65,535, wrapping (R33). -/
structure Directory where
  entries : List Entry
  generation : Nat
  deriving DecidableEq, Repr

/-! ### Door Sense (8.1) -/

/-- A switch level that differs from the door state, and when it was first seen (R135). -/
structure Candidate where
  closed : Bool
  since : Nat
  deriving DecidableEq, Repr

/-- What Door Sense holds for one door (8.1). -/
structure Door where
  closed : Bool
  candidate : Option Candidate
  /-- Expiry of the door-open alarm, a bank time (R137). -/
  alarm : Option Nat
  deriving DecidableEq, Repr

/-! ### The Latch Arbiter (8.2 to 8.6) -/

/-- The four states of a latch record (R139). -/
inductive LatchPosition where
  | locked | unlocking | unlocked | locking
  deriving DecidableEq, Repr

/-- A latch record, and whether its door is open after a failed lock (R139). -/
structure LatchRecord where
  position : LatchPosition
  openAfterFailedLock : Bool
  deriving DecidableEq, Repr

/-- The action of a latch request or pulse (R140). -/
inductive LatchAction where
  | lock | unlock
  deriving DecidableEq, Repr

/-- The class of a latch request (R140). -/
inductive RequestClass where
  | lock | service | collection | load
  deriving DecidableEq, Repr

/-- A pending latch request (R140). `arrival` numbers requests in the order they came. -/
structure LatchRequest where
  door : Nat
  action : LatchAction
  cls : RequestClass
  arrival : Nat
  deriving DecidableEq, Repr

/-- A latch pulse running on a channel, with the length it was granted with, in microseconds (R143). -/
structure Pulse where
  door : Nat
  action : LatchAction
  startedAt : Nat
  length : Nat
  deriving DecidableEq, Repr

structure LatchArbiter where
  records : Vector LatchRecord 96
  queue : List LatchRequest
  nextArrival : Nat
  channels : Vector (Option Pulse) 4
  /-- Absent, or the time it started (8.6). -/
  stallTimer : Option Nat
  /-- The guard flag: engaged or clear (8.6). -/
  guard : Bool
  deriving DecidableEq, Repr

/-! ### The Sensor Scanner (05) -/

/-- The reduction modes of R86. -/
inductive RoundMode where
  | first | min | max | mean
  deriving DecidableEq, Repr

/-- The samples gathered toward a round, at least one (R85). -/
structure Samples where
  count : Nat
  first : Int
  lowest : Int
  highest : Int
  sum : Int
  deriving DecidableEq, Repr

/-- The two conversions of a pair (R79). -/
inductive ConversionPhase where
  | settling | kept
  deriving DecidableEq, Repr

/-- The conversion in progress, with the filter time its pair began with, in microseconds (R79). -/
structure Conversion where
  bay : Nat
  phase : ConversionPhase
  since : Nat
  filter : Nat
  deriving DecidableEq, Repr

/-- The pass in progress: its list, and the part of it whose kept conversion has not ended (5.1). -/
structure Pass where
  due : List Nat
  remaining : List Nat
  deriving DecidableEq, Repr

structure Scanner where
  /-- 0..100 ticks. -/
  passTimer : Nat
  pass : Option Pass
  conversion : Option Conversion
  /-- The bay of the conversion in progress has entered OUT_OF_SERVICE since its pair began, so that the kept code is discarded (R76).
  Clear while no conversion is in progress. -/
  discard : Bool
  /-- One per bay, 0..15. -/
  skip : Vector Nat 48
  /-- The round in progress of each bay; `none` has no samples (R85). -/
  rounds : Vector (Option Samples) 48
  /-- 0..65,535, saturating. -/
  overruns : Nat
  deriving DecidableEq, Repr

/-! ### The Mains Monitor and the Heater Allocator (07) -/

structure MainsMonitor where
  present : Bool
  /-- 0..8. -/
  settle : Nat
  lastCrossing : Option Nat
  /-- Whether the absence watch runs; it expires 25 ms after `lastCrossing`. -/
  watch : Bool
  /-- Half-cycle position, 0..15. -/
  position : Option Nat
  deriving DecidableEq, Repr

/-- A power budget: B, Lmax_eff and H (R122). -/
structure Budget where
  b : Nat
  lmaxEff : Nat
  h : Nat
  deriving DecidableEq, Repr

/-- One bay's run in the schedule (R127), with its cut mark (R130). -/
structure HeaterRun where
  bay : Nat
  first : Nat
  length : Nat
  cut : Bool
  deriving DecidableEq, Repr

structure HeaterAllocator where
  /-- The budget in effect. -/
  budget : Budget
  /-- The rotation pointer p, 0..47. -/
  rotation : Nat
  schedule : List HeaterRun
  /-- Drive states of HG0 to HG47. -/
  gates : Vector Bool 48
  deriving DecidableEq, Repr

/-! ### The Kiosk Ports (09) -/

inductive KioskPhase where
  | idle | receiving | replying
  deriving DecidableEq, Repr

/-- One Kiosk Port (R153). -/
structure KioskPort where
  phase : KioskPhase
  /-- 0 to 6 digits, each 0..9. -/
  digits : List Nat
  malformed : Bool
  lastCharacter : Nat
  /-- Bank times of recent failed entries, oldest first, at most 5. -/
  failures : List Nat
  lockout : Option Nat
  /-- The characters of the reply while REPLYING. -/
  reply : List Byte
  deriving DecidableEq, Repr

/-! ### The Order Link (11) -/

inductive ReceiverPhase where
  | asleep | receiving | counting
  deriving DecidableEq, Repr

/-- The receiver and the frame being received (11.2). -/
structure Receiver where
  phase : ReceiverPhase
  broadcast : Bool
  /-- The declared length L, absent until the length character has been taken. -/
  declared : Option Nat
  /-- Bytes still expected after the length: command, payload and two CRC bytes. -/
  expected : Nat
  crc : Crc
  corrupt : Bool
  /-- The frame buffer; a frame being counted stores only its length and command byte. -/
  buffer : List Byte
  /-- The first CRC byte received. -/
  crcHigh : Byte
  deriving DecidableEq, Repr

/-- Result bytes of a reply, in the order of their codes 00h to 0Dh (11.8). -/
inductive Result where
  | done | unknownCommand | badLength | badValue | tooLong | codeInUse | orderInUse | noBays | notFound | wrongState
  | releaseInProgress | profileInvalid | profileInUse | storeBusy
  deriving DecidableEq, Repr

/-- A frame in the command queue: addressed or broadcast, and its command (11.3, log 3). -/
structure QueuedFrame where
  broadcast : Bool
  command : Command
  deriving DecidableEq, Repr

/-- The reply formed for the head frame (R190): echoed command byte, result and data. -/
structure Reply where
  command : Byte
  result : Result
  data : List Byte
  deriving DecidableEq, Repr

structure OrderLink where
  /-- The bank's own address as read at the start, 0..31; 0 is no address (R185). -/
  address : Nat
  receiver : Receiver
  /-- End of the last character received, on the clock (R184). -/
  lastCharacter : Option Nat
  /-- At most four frames (R188). -/
  queue : List QueuedFrame
  /-- The reply waiting or being sent (R190). -/
  reply : Option Reply
  /-- While the reply is being sent: the moment on the clock at which its last stop bit ends. LDE is high until then (R190). -/
  sending : Option Nat
  truncated : Bool
  crcError : Bool
  overrun : Bool
  truncatedCount : Nat
  crcCount : Nat
  discardedCount : Nat
  broadcastCount : Nat
  deriving DecidableEq, Repr

/-! ### The Profile Store (12) -/

/-- What a store write is writing (12.3). -/
inductive StoreTarget where
  | slot (n : Nat)
  | configuration
  deriving DecidableEq, Repr

/-- The write in flight (12.3): `began` is the bank time it began at, `startedAt` the same moment on the clock. -/
structure StoreWrite where
  target : StoreTarget
  contents : List Byte
  began : Nat
  startedAt : Nat
  deriving DecidableEq, Repr

structure ProfileStore where
  /-- 16 records of 25 stored bytes. -/
  slots : Vector (List Byte) 16
  /-- The record of 39 stored bytes. -/
  configuration : List Byte
  write : Option StoreWrite
  deriving DecidableEq, Repr

/-- The configuration in effect (R198), in the units of its record (11.8). -/
structure BankConfig where
  budget : Nat
  lmax : Nat
  passPeriod : Nat
  /-- 0 for 4 ms, 1 for 8 ms, 2 for 16 ms, 3 for 32 ms. -/
  filterCode : Nat
  idleSkip : Nat
  releaseTimeout : Nat
  loadWindow : Nat
  clearingWindow : Nat
  alarmFront : Nat
  alarmRear : Nat
  /-- In units of 10 ms. -/
  pulseUnits : Nat
  restartPenalty : Nat
  lapseGrace : Nat
  /-- P[0] to P[8]. -/
  points : List Int
  deriving DecidableEq, Repr

/-! ### The pins that commands change, and the whole state -/

structure Pins where
  vdd : Bool
  resetn : Bool
  /-- ADR0 to ADR4 as a number. -/
  straps : Nat
  /-- DSW0 to DSW95, high (true) when the door is closed. -/
  switches : Vector Bool 96
  deriving DecidableEq, Repr

/-- The whole state of the block. -/
structure State where
  /-- The commands waiting, first in first out (this row's form; not the spec's). -/
  pending : List Instr
  /-- Microseconds on the millisecond timing (the model's own field, log 5). -/
  clock : Nat
  /-- Free values taken so far (the model's own field, log 10). -/
  freeCount : Nat
  pins : Pins
  /-- The retention check value agrees with the contents (R205, log 12). -/
  retentionAgrees : Bool
  /-- A start has begun and has not ended; set where it was asked to be cold (R206, log 15). -/
  starting : Option Bool
  bankTime : Nat
  bays : Vector Bay 48
  lockedOut : Vector Bool 12
  directory : Directory
  bankNotices : BankNotices
  bayNotices : Vector BayNotices 48
  doors : Vector Door 96
  latch : LatchArbiter
  scanner : Scanner
  mains : MainsMonitor
  heater : HeaterAllocator
  ka : KioskPort
  kb : KioskPort
  link : OrderLink
  store : ProfileStore
  config : BankConfig
  deriving DecidableEq, Repr

/-- What Retention Memory holds (R205), with the widths of bank time (00 Conventions) and of the generation (R33). -/
structure Retained where
  bankTime : BitVec 32
  bays : Vector Bay 48
  lockedOut : Vector Bool 12
  entries : List Entry
  generation : BitVec 16
  bankNotices : BankNotices
  bayNotices : Vector BayNotices 48
  deriving DecidableEq, Repr, Inhabited

/-- The HC-48 never stops: every case the manual describes leaves a next state (INVENTORY.md, Faults). No constructor, so nobody
raises a fault; safe. -/
inductive Fault where
  deriving DecidableEq, Repr

/-- Why a command has no meaning. Every row has one, so nobody raises it. -/
inductive Refusal where
  /-- For `exec` alone, of a row whose meaning is not written yet; safe: the machine stops. -/
  | notModelled (mnemonic : String)
  deriving DecidableEq, Repr

/-! ### Start values -/

/-- R195: the Order Link at every start, with the address read from the straps. -/
def OrderLink.start (address : Nat) : OrderLink :=
  { address := address
    receiver := { phase := .asleep, broadcast := false, declared := none, expected := 0, crc := 0xFFFF, corrupt := false,
                  buffer := [], crcHigh := 0 }
    lastCharacter := none, queue := [], reply := none, sending := none
    truncated := false, crcError := false, overrun := false
    truncatedCount := 0, crcCount := 0, discardedCount := 0, broadcastCount := 0 }

/-- R170: a Kiosk Port at every start. The last character time has no reset value in the manual: DESIGN CHOICE 0 (log 29). -/
def KioskPort.start : KioskPort :=
  { phase := .idle, digits := [], malformed := false, lastCharacter := 0, failures := [], lockout := none, reply := [] }

/-- R133: the Mains Monitor at every start. -/
def MainsMonitor.start : MainsMonitor :=
  { present := false, settle := 0, lastCrossing := none, watch := false, position := none }

/-- R134: the Heater Allocator at every start, with the budget in effect. -/
def HeaterAllocator.start (budget : Budget) : HeaterAllocator :=
  { budget := budget, rotation := 0, schedule := [], gates := Vector.replicate 48 false }

/-- R94: the Sensor Scanner at every start, with the pass period in effect. -/
def Scanner.start (passPeriod : Nat) : Scanner :=
  { passTimer := passPeriod, pass := none, conversion := none, discard := false, skip := Vector.replicate 48 0
    rounds := Vector.replicate 48 none, overruns := 0 }

/-- R151: the Latch Arbiter at every start, before the relock sweep, all doors closed. -/
def LatchArbiter.start : LatchArbiter :=
  { records := Vector.replicate 96 { position := .unlocked, openAfterFailedLock := false }
    queue := [], nextArrival := 0, channels := Vector.replicate 4 none, stallTimer := none, guard := false }

/-- The defaults of R198 with the factory table of R84. -/
def BankConfig.defaults : BankConfig :=
  { budget := 12, lmax := 2, passPeriod := 10, filterCode := 1, idleSkip := 7, releaseTimeout := 20, loadWindow := 60
    clearingWindow := 120, alarmFront := 90, alarmRear := 300, pulseUnits := 40, restartPenalty := 600, lapseGrace := 900
    points := [1500, 1020, 860, 760, 680, 610, 540, 420, -400] }

/-- The configuration record the part leaves the factory with (R198): the defaults in the layout of 11.8, and their check value. -/
def factoryConfiguration : List Byte :=
  [12, 2, 10, 1, 7, 20, 0, 60, 0, 120, 0, 90, 1, 44, 40, 2, 88, 3, 132,
   0x05, 0xDC, 0x03, 0xFC, 0x03, 0x5C, 0x02, 0xF8, 0x02, 0xA8, 0x02, 0x62, 0x02, 0x1C, 0x01, 0xA4, 0xFE, 0x70,
   0x1A, 0xA8]

/-- The machine right after reset: the end of a cold start (R20, R38, R94, R133, R134, R138, R151, R152, R170, R195, R198, R207) of a
factory-fresh part whose doors are all closed. DESIGN CHOICE (log 8, log 9): closed doors, strap address 1, EMPTY slots of zeros. -/
def State.reset : State :=
  { pending := []
    clock := 0
    freeCount := 0
    pins := { vdd := true, resetn := true, straps := 1, switches := Vector.replicate 96 true }
    retentionAgrees := true
    starting := none
    bankTime := 0
    bays := Vector.replicate 48 Bay.empty
    lockedOut := Vector.replicate 12 false
    directory := { entries := [], generation := 0 }
    bankNotices := { BankNotices.empty with coldStart := true }
    bayNotices := Vector.replicate 48 BayNotices.empty
    doors := Vector.replicate 96 { closed := true, candidate := none, alarm := none }
    latch := { LatchArbiter.start with
      queue := (List.range 96).map fun d => { door := d, action := .lock, cls := .lock, arrival := d }
      nextArrival := 96 }
    scanner := Scanner.start 10
    mains := MainsMonitor.start
    heater := HeaterAllocator.start { b := 12, lmaxEff := 2, h := 10 }
    ka := KioskPort.start
    kb := KioskPort.start
    link := OrderLink.start 1
    store := { slots := Vector.replicate 16 (List.replicate 25 0), configuration := factoryConfiguration, write := none }
    config := BankConfig.defaults }

end Sys2Proof.Machine
end

