-- ==== Sys2Proof/Config.lean ====
section
/-! DEFINITION. What the manual leaves open: the free values. A constant here has no body, so no proof can see what it is. -/

namespace Sys2Proof

/-- FREE VALUE (log 10). Byte `offset` of what the `n`-th interrupted store write leaves in its target. R207: "Its target keeps
whatever the interrupted write left"; the manual does not say what that is. `Machine.interruptedSlot` and
`Machine.interruptedConfiguration` bound it by what R207 does say. -/
opaque Config.interruptedByte : (n offset : Nat) → Byte

/-- FREE VALUE (log 13). What Retention Memory holds once VRET has been lost, the `n`-th free value taken. R205: "A loss of VRET leaves the
contents and the check value undefined." -/
opaque Config.lostRetention : (n : Nat) → Machine.Retained

/-- FREE VALUE (log 22). The level of LTX at a moment of the clock while the part runs and sends no reply, which the manual does not
give: LDE is low then, and the line driver is off. -/
opaque Config.ltxIdle : (clock : Nat) → Bool

end Sys2Proof
end

