-- ==== Sys2Proof/Machine/Operands.lean ====
section
/-! DEFINITION. The forms of what comes in and goes out: multi-byte numbers and CRC-16, the order-link command frame, the reply frame
and its data items, the kiosk reply, the profile and configuration records (11.8, 12). -/

namespace Sys2Proof.Machine

/-! ### Bytes and numbers (11.8: high byte first) -/

/-- `n` in `k` bytes, high byte first, cut to their width. -/
def bytesOf : (k n : Nat) → List Byte
  | 0, _ => []
  | k + 1, n => BitVec.ofNat 8 (n / 256 ^ k) :: bytesOf k n

/-- The number that bytes spell, high byte first. -/
def numberOf (bs : List Byte) : Nat :=
  bs.foldl (fun n b => n * 256 + b.toNat) 0

/-- The two's-complement number that bytes spell (11.8). -/
def signedOf (bs : List Byte) : Int :=
  if 2 * numberOf bs < 256 ^ bs.length then (numberOf bs : Int) else (numberOf bs : Int) - (256 ^ bs.length : Nat)

/-- `v` in `k` bytes of two's complement. -/
def signedBytesOf (k : Nat) (v : Int) : List Byte :=
  bytesOf k (v % (256 ^ k : Nat)).toNat

/-- An item that may be absent: FFh, or FFFFh in two bytes (11.8). -/
def optionalBytesOf (k : Nat) : Option Nat → List Byte
  | some n => bytesOf k n
  | none => List.replicate k 0xFF

/-- A temperature that may be absent: 8000h (11.8). -/
def temperatureBytesOf : Option Int → List Byte
  | some t => signedBytesOf 2 t
  | none => [0x80, 0x00]

/-- A mark or flag: 00h clear, 01h set (11.8). -/
def flagByte (b : Bool) : Byte := if b then 1 else 0

/-! ### CRC-16 (R187) -/

/-- One bit of the CRC: polynomial x^16 + x^12 + x^5 + 1, most significant bit first. -/
def crcShift (c : Crc) : Crc :=
  if c.msb then (c <<< 1) ^^^ 0x1021 else c <<< 1

/-- The CRC after one more byte. -/
def crcByte (c : Crc) (b : Byte) : Crc :=
  crcShift (crcShift (crcShift (crcShift (crcShift (crcShift (crcShift (crcShift (c ^^^ (b.zeroExtend 16 <<< 8)))))))))

/-- R187: initial value FFFFh, no final inversion. -/
def crcStart : Crc := 0xFFFF

def crcOf (bs : List Byte) : Crc := bs.foldl crcByte crcStart

/-- A CRC in two bytes, high byte first (R187). -/
def crcBytes (c : Crc) : List Byte := bytesOf 2 c.toNat

/-! ### Codes of names (11.8) -/

def BayState.code : BayState → Nat
  | .vacant => 0 | .booked => 1 | .preheating => 2 | .ready => 3 | .loading => 4 | .holding => 5 | .releasing => 6
  | .collecting => 7 | .withdrawn => 8 | .outOfService => 9

def WithdrawReason.code : WithdrawReason → Nat
  | .cold => 1 | .hot => 2 | .deadline => 3 | .sensor => 4 | .forced => 5 | .cancelled => 6 | .restart => 7

def OosReason.code : OosReason → Nat
  | .lockout => 1 | .sensor => 2

def Result.code : Result → Nat
  | .done => 0 | .unknownCommand => 1 | .badLength => 2 | .badValue => 3 | .tooLong => 4 | .codeInUse => 5 | .orderInUse => 6
  | .noBays => 7 | .notFound => 8 | .wrongState => 9 | .releaseInProgress => 10 | .profileInvalid => 11 | .profileInUse => 12
  | .storeBusy => 13

/-- One byte of a number that fits it. -/
def byteOf (n : Nat) : Byte := BitVec.ofNat 8 n

def stateByte (st : BayState) : Byte := byteOf st.code

/-- A withdrawal reason, FFh where absent. -/
def reasonBytes (r : Option WithdrawReason) : List Byte := optionalBytesOf 1 (r.map WithdrawReason.code)

/-- An oos_reason, FFh where absent. -/
def oosBytes (r : Option OosReason) : List Byte := optionalBytesOf 1 (r.map OosReason.code)

/-! ### Order-link command frames (11.8, R189) -/

/-- The command byte a command's reply echoes (R190). -/
def Command.byte : Command → Byte
  | .book _ _ _ _ => 0x10
  | .amend _ _ _ => 0x11
  | .cancel _ => 0x12
  | .load _ _ _ => 0x13
  | .clear _ => 0x14
  | .openOrder _ _ => 0x15
  | .lockout _ => 0x20
  | .restore _ => 0x21
  | .query _ _ => 0x30
  | .scan _ _ => 0x31
  | .status _ => 0x32
  | .configure _ => 0x40
  | .profileWrite _ _ => 0x41
  | .profileRead _ => 0x42
  | .restart _ => 0x50
  | .unknown c => c
  | .badLength c => c
  | .tooLong c => c

/-- The number in `size` bytes of a payload from `offset` on. -/
def fieldOf (p : List Byte) (offset size : Nat) : Nat := numberOf ((p.drop offset).take size)

/-- R189, checks 2 and 3, on the bytes 1 to L of a frame: which command they are, or why the Order Link refuses them. No bytes at all
are the empty frame of R187, answered BAD_LENGTH with command byte 00h. -/
def parseCommand : List Byte → Command
  | [] => .badLength 0
  | c :: p =>
    let l := p.length + 1
    let fits (want : Nat) (k : Command) : Command := if l = want then k else .badLength c
    if c = 0x10 then
      if 9 ≤ l ∧ l = 11 + fieldOf p 7 1 then
        .book (fieldOf p 0 4) (fieldOf p 4 3) (((p.drop 8).take (fieldOf p 7 1)).map BitVec.toNat) (fieldOf p (8 + fieldOf p 7 1) 2)
      else .badLength c
    else if c = 0x11 then fits 9 (.amend (fieldOf p 0 4) (fieldOf p 4 1) (fieldOf p 5 3))
    else if c = 0x12 then fits 5 (.cancel (fieldOf p 0 4))
    else if c = 0x13 then fits 7 (.load (fieldOf p 0 4) (fieldOf p 4 1) (fieldOf p 5 1))
    else if c = 0x14 then fits 2 (.clear (fieldOf p 0 1))
    else if c = 0x15 then fits 6 (.openOrder (fieldOf p 0 1) (fieldOf p 1 4))
    else if c = 0x20 then fits 2 (.lockout (fieldOf p 0 1))
    else if c = 0x21 then fits 2 (.restore (fieldOf p 0 1))
    else if c = 0x30 then fits 6 (.query (fieldOf p 0 1) (fieldOf p 1 4))
    else if c = 0x31 then fits 5 (.scan (fieldOf p 0 1) (fieldOf p 1 3))
    else if c = 0x32 then fits 2 (.status (fieldOf p 0 1))
    else if c = 0x40 then fits 38 (.configure p)
    else if c = 0x41 then fits 25 (.profileWrite (fieldOf p 0 1) (p.drop 1))
    else if c = 0x42 then fits 2 (.profileRead (fieldOf p 0 1))
    else if c = 0x50 then fits 2 (.restart (fieldOf p 0 1))
    else .unknown c

/-- Bytes 1 to L of the frame in which the server sends a command (11.8). The three refusals the Order Link makes itself are no
commands: a frame so refused is not rebuilt from them. -/
def Command.bytes : Command → List Byte
  | .book r c ss o => 0x10 :: (bytesOf 4 r ++ bytesOf 3 c ++ [byteOf ss.length] ++ ss.map byteOf ++ bytesOf 2 o)
  | .amend r f v => 0x11 :: (bytesOf 4 r ++ [byteOf f] ++ bytesOf 3 v)
  | .cancel r => 0x12 :: bytesOf 4 r
  | .load r b f => 0x13 :: (bytesOf 4 r ++ [byteOf b, byteOf f])
  | .clear b => [0x14, byteOf b]
  | .openOrder k v => 0x15 :: byteOf k :: bytesOf 4 v
  | .lockout b => [0x20, byteOf b]
  | .restore b => [0x21, byteOf b]
  | .query k v => 0x30 :: byteOf k :: bytesOf 4 v
  | .scan o c => 0x31 :: byteOf o :: bytesOf 3 c
  | .status o => [0x32, byteOf o]
  | .configure bs => 0x40 :: bs
  | .profileWrite n bs => 0x41 :: byteOf n :: bs
  | .profileRead n => [0x42, byteOf n]
  | .restart o => [0x50, byteOf o]
  | .unknown c => [c]
  | .badLength _ => []
  | .tooLong c => [c]

/-- The data characters of a frame that carries the bytes 1 to L: the length, the bytes, the CRC (11.8, R187). -/
def frameOf (bs : List Byte) : List Byte := byteOf bs.length :: bs ++ crcBytes (crcOf (byteOf bs.length :: bs))

/-- The AMEND forms of 11.8. -/
def amendFormNewCode : Nat := 0
def amendFormExtend : Nat := 1
def amendFormNewLoad : Nat := 2

/-! ### The reply frame (R190) -/

/-- The reply frame's bytes after its address character: length, command, result, data, CRC. -/
def Reply.frame (r : Reply) : List Byte :=
  let body := byteOf (r.data.length + 2) :: r.command :: byteOf r.result.code :: r.data
  body ++ crcBytes (crcOf body)

/-- A character on the order link: its data bits and its address flag (11.1). -/
structure LinkCharacter where
  data : Byte
  address : Bool
  deriving DecidableEq, Repr

/-- R190: the characters of a reply, the bank's own address with its flag set and then the frame. -/
def Reply.characters (r : Reply) (address : Nat) : List LinkCharacter :=
  { data := byteOf address, address := true } :: r.frame.map fun b => { data := b, address := false }

/-- R184, R190: how long a reply is on the line, sent without gaps in characters of 11 / 38,400 s, in microseconds, rounded up to a whole one. -/
def Reply.duration (r : Reply) : Nat := (11000000 * (r.frame.length + 1) + 38399) / 38400

/-! ### The kiosk frames (11.8) -/

/-- The results of a code entry (R155, R158). -/
inductive EntryResult where
  | opened | notReady | withdrawn | unknown | malformed | lockedOut
  deriving DecidableEq, Repr

def EntryResult.letter : EntryResult → Byte
  | .opened => 0x4F | .notReady => 0x4E | .withdrawn => 0x57 | .unknown => 0x55 | .malformed => 0x4D | .lockedOut => 0x4C

/-- The ASCII digit of a number below 10. -/
def digitByte (n : Nat) : Byte := byteOf (0x30 + n)

/-- The reply to a panel: A, the result letter, the count and the two-digit bays, the withdrawn count, CR. -/
def kioskReply (r : EntryResult) (bays : List Nat) (withdrawn : Nat) : List Byte :=
  [0x41, r.letter, digitByte bays.length] ++ bays.flatMap (fun b => [digitByte (b / 10), digitByte (b % 10)]) ++
    [digitByte withdrawn, 0x0D]

/-! ### Stored records (11.8, R196, R198) -/

/-- One numeric field of a stored record and the range it is clamped to (R200, R202). -/
structure FieldSpec where
  offset : Nat
  size : Nat
  signed : Bool
  low : Int
  high : Int
  deriving DecidableEq, Repr

def FieldSpec.read (f : FieldSpec) (r : List Byte) : Int :=
  if f.signed then signedOf ((r.drop f.offset).take f.size) else (fieldOf r f.offset f.size : Int)

def FieldSpec.write (f : FieldSpec) (r : List Byte) (v : Int) : List Byte :=
  r.take f.offset ++ signedBytesOf f.size v ++ r.drop (f.offset + f.size)

/-- 00 Conventions: a where x < a, b where x > b, x otherwise. -/
def clampTo (x low high : Int) : Int := if x < low then low else if high < x then high else x

/-- A record with each of the fields brought to the nearer end of its range, and the offsets of the fields changed, in the order of
the list. -/
def clampFields : List FieldSpec → List Byte → List Byte × List Nat
  | [], r => (r, [])
  | f :: fs, r =>
    let v := f.read r
    let w := clampTo v f.low f.high
    if v = w then clampFields fs r
    else
      let rest := clampFields fs (f.write r w)
      (rest.1, f.offset :: rest.2)

/-- The ten clamped fields of a profile record (R200), in ascending offset. -/
def profileFields : List FieldSpec :=
  [⟨1, 2, true, -400, 1500⟩, ⟨3, 2, true, -400, 1500⟩, ⟨5, 2, true, -400, 1500⟩, ⟨7, 1, false, 0, 200⟩, ⟨10, 1, false, 1, 4⟩,
   ⟨11, 1, false, 0, 3⟩, ⟨12, 1, false, 0, 60⟩, ⟨13, 1, false, 5, 240⟩, ⟨14, 1, false, 0, 120⟩, ⟨21, 2, false, 0, 500⟩]

/-- The 22 clamped fields of the configuration record (R202), in ascending offset. -/
def configFields : List FieldSpec :=
  [⟨0, 1, false, 2, 52⟩, ⟨1, 1, false, 1, 4⟩, ⟨2, 1, false, 5, 100⟩, ⟨3, 1, false, 0, 3⟩, ⟨4, 1, false, 0, 15⟩, ⟨5, 1, false, 5, 60⟩,
   ⟨6, 2, false, 10, 300⟩, ⟨8, 2, false, 10, 300⟩, ⟨10, 2, false, 10, 3600⟩, ⟨12, 2, false, 10, 3600⟩, ⟨14, 1, false, 10, 150⟩,
   ⟨15, 2, false, 0, 6000⟩, ⟨17, 2, false, 60, 3600⟩] ++
  (List.range 9).map fun k => ⟨19 + 2 * k, 2, true, -400, 1500⟩

/-- A record's fields with the check value the part computes over them (R199). That it is the CRC-16 of R187, high byte first, is
DEDUCED (log 11). -/
def withCheck (fields : List Byte) : List Byte := fields ++ crcBytes (crcOf fields)

/-- Whether the check value of a stored record of `n` field bytes agrees with its contents (R196, R198). -/
def checkAgrees (n : Nat) (r : List Byte) : Bool := (r.drop n).take 2 = crcBytes (crcOf (r.take n))

/-- The meal heat profile of a slot (R196). -/
structure Profile where
  setpoint : Int
  floor : Int
  ceiling : Int
  margin : Nat
  gain : Nat
  mode : RoundMode
  count : Nat
  skip : Nat
  lead : Nat
  maxHold : Nat
  allowance : Nat
  qmaxCold : Nat
  qmaxHot : Nat
  penalty : Nat
  deriving DecidableEq, Repr

/-- Mode codes of 11.8. An IN_SERVICE slot holds one of the four (R200, check 4). -/
def modeOf (n : Nat) : RoundMode :=
  if n = 0 then .first else if n = 1 then .min else if n = 2 then .max else .mean

/-- The fields of a stored profile record (11.8). -/
def profileOf (r : List Byte) : Profile :=
  { setpoint := signedOf ((r.drop 1).take 2), floor := signedOf ((r.drop 3).take 2), ceiling := signedOf ((r.drop 5).take 2)
    margin := fieldOf r 7 1, gain := fieldOf r 8 1, mode := modeOf (fieldOf r 9 1), count := fieldOf r 10 1, skip := fieldOf r 11 1
    lead := fieldOf r 12 1, maxHold := fieldOf r 13 1, allowance := fieldOf r 14 1, qmaxCold := fieldOf r 15 3
    qmaxHot := fieldOf r 18 3, penalty := fieldOf r 21 2 }

/-- The in-service marker (11.8). -/
def inServiceMarker : Byte := 0x5A

/-- The three conditions a slot reads as (R196), with their codes in PROFILE_READ (11.8). -/
inductive SlotCondition where
  | inService | empty | failed
  deriving DecidableEq, Repr

def SlotCondition.code : SlotCondition → Nat
  | .inService => 0 | .empty => 1 | .failed => 2

/-- R196: EMPTY by the marker alone, otherwise by the check value. -/
def conditionOf (r : List Byte) : SlotCondition :=
  if r.head? ≠ some inServiceMarker then .empty else if checkAgrees 23 r then .inService else .failed

/-- The configuration that a stored record holds (11.8, R198). -/
def configOf (r : List Byte) : BankConfig :=
  { budget := fieldOf r 0 1, lmax := fieldOf r 1 1, passPeriod := fieldOf r 2 1, filterCode := fieldOf r 3 1, idleSkip := fieldOf r 4 1
    releaseTimeout := fieldOf r 5 1, loadWindow := fieldOf r 6 2, clearingWindow := fieldOf r 8 2, alarmFront := fieldOf r 10 2
    alarmRear := fieldOf r 12 2, pulseUnits := fieldOf r 14 1, restartPenalty := fieldOf r 15 2, lapseGrace := fieldOf r 17 2
    points := (List.range 9).map fun k => signedOf ((r.drop (19 + 2 * k)).take 2) }

/-- The last byte of a record changed, so that a check value that agreed no longer does. -/
def spoilCheck (r : List Byte) : List Byte :=
  r.dropLast ++ (r.drop (r.length - 1)).map (· ^^^ 0xFF)

/-- What the `n`-th interrupted store write leaves in a profile slot: free bytes, held to what R207 states, that the slot "reads
FAILED or EMPTY". -/
def interruptedSlot (n : Nat) : List Byte :=
  let r := (List.range 25).map (Config.interruptedByte n)
  if conditionOf r = .inService then spoilCheck r else r

/-- What the `n`-th interrupted store write leaves in the configuration record: free bytes, held to what R207 states, that the record
"fails its check". -/
def interruptedConfiguration (n : Nat) : List Byte :=
  let r := (List.range 39).map (Config.interruptedByte n)
  if checkAgrees 37 r then spoilCheck r else r

end Sys2Proof.Machine
end

