-- ==== Sys2Proof/Machine/Flags.lean ====
section
/-! DEFINITION. The flag-like state and the outputs that follow it: notice sets and ATTN (1.6), sticky flags and counters (R193), and
the output pins as functions of the state (log 22). -/

namespace Sys2Proof.Machine

/-! ### Saturating counts (00 Conventions) -/

/-- Bank time's maximum, 32 bits. -/
def maxBankTime : Nat := 4294967295

/-- A sum of bank time, saturating. -/
def satTime (n : Nat) : Nat := min n maxBankTime

/-- One more on a 16-bit saturating counter (R77, R193). -/
def countUp (n : Nat) : Nat := min (n + 1) 65535

/-- The deficits' maximum (R105). -/
def maxDeficit : Nat := 16777215

/-! ### Notice sets (R16, R17) -/

/-- R17: a notice joins the bank set, or merges with the member of its kind. -/
def BankNotices.raise (n : BankNotices) : BankNotice → BankNotices
  | .coldStart => { n with coldStart := true }
  | .warmStart => { n with warmStart := true }
  | .mainsLost => { n with mainsLost := true }
  | .mainsReturned => { n with mainsReturned := true }
  | .scanOverrun => { n with scanOverrun := true }
  | .configDefaulted => { n with configDefaulted := true }
  | .storeDone => { n with storeDone := true }

/-- R16: a notice joins a bay's set, or merges with the member of its kind and door; WITHDRAWN carries the reason raised last. -/
def BayNotices.raise (n : BayNotices) : BayNotice → BayNotices
  | .ready => { n with ready := true }
  | .lapsed => { n with lapsed := true }
  | .loaded => { n with loaded := true }
  | .collected => { n with collected := true }
  | .releaseTimeout => { n with releaseTimeout := true }
  | .withdrawn r => { n with withdrawn := some r }
  | .bayFault => { n with bayFault := true }
  | .doorForced .front => { n with doorForcedFront := true }
  | .doorForced .rear => { n with doorForcedRear := true }
  | .doorLeftOpen .front => { n with doorLeftOpenFront := true }
  | .doorLeftOpen .rear => { n with doorLeftOpenRear := true }
  | .lockFailed .front => { n with lockFailedFront := true }
  | .lockFailed .rear => { n with lockFailedRear := true }

def BankNotices.isEmpty (n : BankNotices) : Bool := n = BankNotices.empty

def BayNotices.isEmpty (n : BayNotices) : Bool := n = BayNotices.empty

/-- A number whose bit i is the i-th flag. -/
def bitsOf : List Bool → Nat
  | [] => 0
  | b :: bs => b.toNat + 2 * bitsOf bs

/-- The bank set in a STATUS reply: bits 0 to 6 (11.8). -/
def BankNotices.bits (n : BankNotices) : Nat :=
  bitsOf [n.coldStart, n.warmStart, n.mainsLost, n.mainsReturned, n.scanOverrun, n.configDefaulted, n.storeDone]

/-- A bay set in a STATUS reply: bits 0 to 12 (11.8). -/
def BayNotices.bits (n : BayNotices) : Nat :=
  bitsOf [n.ready, n.lapsed, n.loaded, n.collected, n.releaseTimeout, n.withdrawn.isSome, n.bayFault, n.doorForcedFront,
    n.doorForcedRear, n.doorLeftOpenFront, n.doorLeftOpenRear, n.lockFailedFront, n.lockFailedRear]

/-- The notice set of bay `b`. -/
def State.notices (s : State) (b : Nat) : BayNotices := s.bayNotices.getD b BayNotices.empty

def State.setNotices (s : State) (b : Nat) (n : BayNotices) : State := { s with bayNotices := s.bayNotices.setIfInBounds b n }

/-- A notice raised for a bay (R16). -/
def State.raiseBay (s : State) (b : Nat) (n : BayNotice) : State := s.setNotices b ((s.notices b).raise n)

/-- A notice raised for the bank (R17). -/
def State.raiseBank (s : State) (n : BankNotice) : State := { s with bankNotices := s.bankNotices.raise n }

/-! ### The link's sticky flags and counters (R193) -/

/-- The sticky flags in a STATUS reply: bit 0 TRUNCATED, bit 1 CRC_ERROR, bit 2 OVERRUN (11.8). -/
def OrderLink.stickyBits (l : OrderLink) : Nat := bitsOf [l.truncated, l.crcError, l.overrun]

/-- A frame abandoned as truncated (R185, R186). -/
def OrderLink.noteTruncated (l : OrderLink) : OrderLink :=
  { l with truncated := true, truncatedCount := countUp l.truncatedCount }

/-- A frame that is corrupt or fails its CRC (R187). -/
def OrderLink.noteCrcError (l : OrderLink) : OrderLink := { l with crcError := true, crcCount := countUp l.crcCount }

/-- A frame offered to a full queue (R188). -/
def OrderLink.noteOverrun (l : OrderLink) : OrderLink := { l with overrun := true, discardedCount := countUp l.discardedCount }

/-- A broadcast frame discarded (R191). -/
def OrderLink.noteBroadcast (l : OrderLink) : OrderLink := { l with broadcastCount := countUp l.broadcastCount }

/-- R194: the flags and counters as the clear option leaves them. -/
def OrderLink.cleared (l : OrderLink) : OrderLink :=
  { l with truncated := false, crcError := false, overrun := false
           truncatedCount := 0, crcCount := 0, discardedCount := 0, broadcastCount := 0 }

/-! ### Power and outputs -/

/-- The part is powered and not held in reset. -/
def State.powered (s : State) : Bool := s.pins.vdd && s.pins.resetn

/-- The part runs: VDD is present, RESETN is high and no start is in progress (R206, R207). -/
def State.running (s : State) : Bool := s.powered && s.starting.isNone

/-- ATTN (R18): high while one of the 49 notice sets holds a member, in a reset and during a start too; low without VDD, which supplies the
outputs (log 22). -/
def State.attn (s : State) : Bool :=
  s.pins.vdd && (!s.bankNotices.isEmpty || s.bayNotices.toList.any (fun n => !n.isEmpty))

/-- RDY (R188, R195): high while the command queue holds fewer than four frames; low while the part does not run. -/
def State.rdy (s : State) : Bool := s.running && decide (s.link.queue.length < 4)

/-- R190: the bank is sending; the last stop bit of its reply has not ended. -/
def State.transmits (s : State) : Bool := s.link.sending.any fun e => s.clock < e

/-- LDE (R190, R195): high from the first bit of a reply to the end of its last stop bit. -/
def State.lde (s : State) : Bool := s.running && s.transmits

/-- What a serial output does: it stands at a level, or sends characters. -/
inductive SerialOut (α : Type) where
  | level (high : Bool)
  | sends (characters : List α)
  deriving DecidableEq, Repr

/-- The stop level of a serial line: high, as a framing error is a stop bit that reads low (R184). -/
def stopLevel : Bool := true

/-- LTX (R190, R195): low while RESETN is low or power absent; the characters of the reply while it is sent. Otherwise LDE is low and the manual
gives no level: a free value (log 22). -/
def State.ltx (s : State) : SerialOut LinkCharacter :=
  if s.powered then
    match s.transmits, s.link.reply with
    | true, some r => .sends (r.characters s.link.address)
    | _, _ => .level (Config.ltxIdle s.clock)
  else .level false

/-- KATX or KBTX (R153, R170): the characters of the reply while the port replies, and the stop level otherwise, with RESETN low too. -/
def State.kioskTx (s : State) (p : KioskPort) : SerialOut Byte :=
  if s.running && p.phase = .replying then .sends p.reply else .level stopLevel

/-- KATX (R170). -/
def State.katx (s : State) : SerialOut Byte := s.kioskTx s.ka

/-- KBTX (R170). -/
def State.kbtx (s : State) : SerialOut Byte := s.kioskTx s.kb

/-- How many latch pulses are energised (R144). -/
def State.energised (s : State) : Nat := s.latch.channels.toList.countP Option.isSome

/-- LSEL of a door (R144): high while a pulse runs for it. -/
def State.lsel (s : State) (door : Nat) : Bool :=
  s.running && s.latch.channels.toList.any fun c => c.any fun p => p.door = door

/-- LDA of a channel (R144): high while its pulse is a LOCK. -/
def State.lda (s : State) (channel : Nat) : Bool :=
  s.running && (s.latch.channels.getD channel none).any fun p => p.action = .lock

/-- LDB of a channel (R144): high while its pulse is an UNLOCK. -/
def State.ldb (s : State) (channel : Nat) : Bool :=
  s.running && (s.latch.channels.getD channel none).any fun p => p.action = .unlock

/-- HG of a bay (R129, R134). -/
def State.gate (s : State) (b : Nat) : Bool := s.running && s.heater.gates.getD b false

end Sys2Proof.Machine
end

