-- ==== Sys2Proof/Machine/Ops.lean ====
section
/-! DEFINITION. The named operations over the state that the meanings share: reading and writing records, the changes of bay state that
every chapter uses (R4 to R9, R168, R171), the directory's changes (R24 to R33) and the latch requests (R140 to R142). -/

namespace Sys2Proof.Machine

/-! ### Outcomes -/

/-- The outcome `t` of a command whose operands the hardware has. A term that names no door, bay, channel or code of the part, or that no
frame can carry, stands for nothing that reaches the part: nothing changes (log 7). -/
def nextIf (exists' : Bool) (s t : State) : Host.Outcome State Fault Refusal := .next (if exists' then t else s)

/-! ### The millisecond clock (log 5) -/

/-- The present moment moves on to `t`; it never goes back. -/
def State.advance (s : State) (t : Nat) : State := { s with clock := max s.clock t }

/-- A mechanism begun at `since` and lasting `length` microseconds has ended. -/
def State.elapsed (s : State) (since length : Nat) : Bool := decide (since + length ≤ s.clock)

/-- A bank-time expiry is due: it is present and bank time has reached it (R2). -/
def State.reached (s : State) : Option Nat → Bool
  | some e => decide (e ≤ s.bankTime)
  | none => false

/-- Seconds until an expiry: floor((e - now) / 10), 0 from the tick it is reached (R36). -/
def State.secondsUntil (s : State) (e : Nat) : Nat := (e - s.bankTime) / 10

/-- A window, timer or alarm of `seconds` started now; its expiry saturates like every bank time (log 30). -/
def State.after (s : State) (seconds : Nat) : Nat := satTime (s.bankTime + 10 * seconds)

/-! ### Bays, doors and latches by number -/

/-- The record of bay `b`. -/
def State.bay (s : State) (b : Nat) : Bay := s.bays.getD b Bay.empty

def State.setBay (s : State) (b : Nat) (r : Bay) : State := { s with bays := s.bays.setIfInBounds b r }

/-- The door number of a side of a bay (00 Terms). -/
def doorOf (b : Nat) : Side → Nat
  | .front => 2 * b
  | .rear => 2 * b + 1

/-- The bay a door belongs to. -/
def bayOfDoor (d : Nat) : Nat := d / 2

/-- The side a door is on. -/
def sideOfDoor (d : Nat) : Side := if d % 2 = 0 then .front else .rear

/-- The module a bay lies in (00 Terms). -/
def moduleOf (b : Nat) : Nat := b / 4

/-- The four bays of a module (1.5). -/
def baysOfModule (m : Nat) : List Nat := [4 * m, 4 * m + 1, 4 * m + 2, 4 * m + 3]

/-- What Door Sense holds for door `d`. -/
def State.door (s : State) (d : Nat) : Door := s.doors.getD d { closed := true, candidate := none, alarm := none }

def State.setDoor (s : State) (d : Nat) (r : Door) : State := { s with doors := s.doors.setIfInBounds d r }

/-- Both doors of a bay are held closed by Door Sense (R41, R124). -/
def State.doorsClosed (s : State) (b : Nat) : Bool := (s.door (doorOf b .front)).closed && (s.door (doorOf b .rear)).closed

/-- The latch record of door `d`. -/
def State.latchRecord (s : State) (d : Nat) : LatchRecord :=
  s.latch.records.getD d { position := .unlocked, openAfterFailedLock := false }

def State.setLatchRecord (s : State) (d : Nat) (r : LatchRecord) : State :=
  { s with latch := { s.latch with records := s.latch.records.setIfInBounds d r } }

/-- The position in the latch record of door `d` (R139). -/
def State.latchPosition (s : State) (d : Nat) : LatchPosition := (s.latchRecord d).position

def State.setLatchPosition (s : State) (d : Nat) (p : LatchPosition) : State :=
  s.setLatchRecord d { s.latchRecord d with position := p }

def State.setOpenAfterFailedLock (s : State) (d : Nat) (v : Bool) : State :=
  s.setLatchRecord d { s.latchRecord d with openAfterFailedLock := v }

/-! ### Profiles -/

/-- The stored bytes of a profile slot. -/
def State.slotRecord (s : State) (n : Nat) : List Byte := s.store.slots.getD n []

/-- The profile a slot holds. -/
def State.profile (s : State) (n : Nat) : Profile := profileOf (s.slotRecord n)

/-- The profile bound to a bay. A bay whose rules read one always has one (R1, log 24). -/
def State.boundProfile (s : State) (b : Nat) : Profile := s.profile ((s.bay b).profile.getD 0)

/-- R197: a slot is in use while a bay's profile field names it. -/
def State.slotInUse (s : State) (n : Nat) : Bool := s.bays.toList.any fun r => r.profile = some n

/-! ### The characters of the ten states (1.2) -/

/-- R4: PREHEATING, READY, HOLDING and RELEASING. -/
def BayState.heating : BayState → Bool
  | .preheating | .ready | .holding | .releasing => true
  | .vacant | .booked | .loading | .collecting | .withdrawn | .outOfService => false

/-- The two scanning groups of R6. -/
inductive ScanGroup where
  | idle | profile
  deriving DecidableEq, Repr

/-- R6: a bay in OUT_OF_SERVICE is in no group. -/
def BayState.group : BayState → Option ScanGroup
  | .vacant | .booked | .withdrawn => some .idle
  | .preheating | .ready | .loading | .holding | .releasing | .collecting => some .profile
  | .outOfService => none

/-! ### Changing a bay's state -/

/-- R6: the samples gathered for a bay's round in progress are discarded. -/
def State.discardRound (s : State) (b : Nat) : State :=
  { s with scanner := { s.scanner with rounds := s.scanner.rounds.setIfInBounds b none } }

/-- R130: a bay's run is cut for the rest of the window and its gate goes off at once. -/
def State.cutRun (s : State) (b : Nat) : State :=
  { s with heater := { s.heater with
      schedule := s.heater.schedule.map fun r => if r.bay = b then { r with cut := true } else r
      gates := s.heater.gates.setIfInBounds b false } }

/-- R4, R121: the demand of a record after a change from a state. -/
def demandAfter (old : BayState) (new : Bay) : Nat :=
  if new.state.heating then (if old.heating then new.demand else 16) else 0

/-- A change of a bay record with what belongs to every change of state: the demand (R4), the round in progress (R6) and the heater run
(R130). -/
def State.changeBay (s : State) (b : Nat) (f : Bay → Bay) : State :=
  let old := s.bay b
  let new := f old
  let s := s.setBay b { new with demand := demandAfter old.state new }
  let s := if old.state.group = new.state.group then s else s.discardRound b
  if old.state.heating && !new.state.heating then s.cutRun b else s

/-! ### The Code Directory (02) -/

/-- R33: one more, wrapping from 65,535 to 0. -/
def nextGeneration (g : Nat) : Nat := (g + 1) % 65536

/-- R24: an entry placed at the position its code gives. -/
def insertEntry (e : Entry) : List Entry → List Entry
  | [] => [e]
  | x :: xs => if e.code < x.code then e :: x :: xs else x :: insertEntry e xs

/-- R27: an entry is added. -/
def Directory.add (d : Directory) (e : Entry) : Directory :=
  { entries := insertEntry e d.entries, generation := nextGeneration d.generation }

/-- R30: a bay leaves the entry of a code; the entry shortens, or is removed when the bay was its last. -/
def Directory.removeBay (d : Directory) (code b : Nat) : Directory :=
  { entries := d.entries.filterMap fun e =>
      if e.code = code then
        let rest := e.bays.filter (· ≠ b)
        if rest = [] then none else some { e with bays := rest }
      else some e
    generation := nextGeneration d.generation }

/-- R31: the entry of a code is removed. -/
def Directory.remove (d : Directory) (code : Nat) : Directory :=
  { entries := d.entries.filter (·.code ≠ code), generation := nextGeneration d.generation }

/-- R28: an entry takes a new code and the position it gives. -/
def Directory.rekey (d : Directory) (e : Entry) (code : Nat) : Directory :=
  { entries := insertEntry { e with code := code } (d.entries.filter (·.code ≠ e.code)), generation := nextGeneration d.generation }

/-- R26: lookup by code. -/
def State.findCode (s : State) (code : Nat) : Option Entry := s.directory.entries.find? (·.code = code)

/-- R26: lookup by order reference. -/
def State.findOrder (s : State) (ref : Nat) : Option Entry := s.directory.entries.find? (·.orderRef = ref)

/-- R30: a bay that belongs to an entry leaves it. -/
def State.leaveEntry (s : State) (b : Nat) : State :=
  match (s.bay b).entry with
  | some code => { s with directory := s.directory.removeBay code b }
  | none => s

/-! ### Leaving a hold (1.4) -/

/-- R8: the record of a bay that enters VACANT. -/
def Bay.vacated (r : Bay) : Bay :=
  { Bay.empty with
      lastRound := r.lastRound, faultStreak := r.faultStreak, clearing := r.clearing
      timer := if r.clearing then r.timer else none }

/-- R9: the record of a bay that enters OUT_OF_SERVICE. -/
def Bay.outOfService (r : Bay) (why : OosReason) : Bay :=
  { r.vacated with state := .outOfService, oosReason := some why, sensorFault := r.sensorFault }

/-- R8: a bay enters VACANT. -/
def State.enterVacant (s : State) (b : Nat) : State := (s.leaveEntry b).changeBay b Bay.vacated

/-- R76: a bay whose conversion pair is running enters OUT_OF_SERVICE: the pair's kept code will be discarded, whatever becomes of the
bay. -/
def State.markDiscard (s : State) (b : Nat) : State :=
  if s.scanner.conversion.any fun c => c.bay = b then { s with scanner := { s.scanner with discard := true } } else s

/-- R9: a bay enters OUT_OF_SERVICE. -/
def State.enterOutOfService (s : State) (b : Nat) (why : OosReason) : State :=
  ((s.leaveEntry b).changeBay b (·.outOfService why)).markDiscard b

/-- R7: a bay is sent to VACANT, or diverted to OUT_OF_SERVICE. -/
def State.sendToVacant (s : State) (b : Nat) : State :=
  if (s.bay b).draining then s.enterOutOfService b .lockout
  else if (s.bay b).sensorFault then s.enterOutOfService b .sensor
  else s.enterVacant b

/-! ### Latch requests (8.3) -/

/-- The rank of a class in the queue (R140). -/
def RequestClass.rank : RequestClass → Nat
  | .lock => 0 | .service => 1 | .collection => 2 | .load => 3

/-- The order of the queue: by class, then by arrival (R140). -/
def LatchRequest.precedes (a b : LatchRequest) : Bool :=
  decide (a.cls.rank < b.cls.rank) || (decide (a.cls.rank = b.cls.rank) && decide (a.arrival < b.arrival))

/-- A request placed in the queue. -/
def insertRequest (r : LatchRequest) : List LatchRequest → List LatchRequest
  | [] => [r]
  | x :: xs => if r.precedes x then r :: x :: xs else x :: insertRequest r xs

/-- The pending request for a door. -/
def State.pendingFor (s : State) (d : Nat) : Option LatchRequest := s.latch.queue.find? (·.door = d)

/-- Whether a pulse runs for a door. -/
def State.pulseRuns (s : State) (d : Nat) : Bool := s.latch.channels.toList.any fun c => c.any fun p => p.door = d

/-- R139: the side a position is at or being driven to. -/
def LatchPosition.side : LatchPosition → LatchAction
  | .locked | .locking => .lock
  | .unlocked | .unlocking => .unlock

def State.setLatchQueue (s : State) (q : List LatchRequest) : State := { s with latch := { s.latch with queue := q } }

/-- The pending request for a door leaves the queue. -/
def State.dropRequest (s : State) (d : Nat) : State := s.setLatchQueue (s.latch.queue.filter (·.door ≠ d))

/-- R142: a pending request of an action for a door is withdrawn; where there is none, nothing changes. -/
def State.withdrawRequest (s : State) (d : Nat) (a : LatchAction) : State :=
  match s.pendingFor d with
  | some r => if r.action = a then s.dropRequest d else s
  | none => s

/-- A new request joins the queue (R140, R141). -/
def State.enqueue (s : State) (d : Nat) (a : LatchAction) (c : RequestClass) : State :=
  { s with latch := { s.latch with
      queue := insertRequest { door := d, action := a, cls := c, arrival := s.latch.nextArrival } s.latch.queue
      nextArrival := s.latch.nextArrival + 1 } }

/-- The higher of two classes (R141). -/
def RequestClass.higher (a b : RequestClass) : RequestClass := if a.rank ≤ b.rank then a else b

/-- R141: a request merged into a pending one keeps its arrival and takes the higher class. -/
def State.mergeRequest (s : State) (r : LatchRequest) (c : RequestClass) : State :=
  let s := s.dropRequest r.door
  s.setLatchQueue (insertRequest { r with cls := r.cls.higher c } s.latch.queue)

/-- R161, R180: the Hold Table takes an UNLOCK completion for a door by the bay at that moment. -/
def State.unlockCompletion (s : State) (d : Nat) : State :=
  let b := bayOfDoor d
  let r := s.bay b
  match sideOfDoor d with
  | .front =>
    if r.state = .releasing ∧ r.timer = none then s.setBay b { r with timer := some (s.after s.config.releaseTimeout) } else s
  | .rear =>
    if r.state = .loading ∧ r.timer = none then s.setBay b { r with timer := some (s.after s.config.loadWindow) }
    else if r.clearing = true ∧ r.timer = none ∧ (r.state = .withdrawn ∨ r.state = .outOfService ∨ r.state = .vacant) then
      s.setBay b { r with timer := some (s.after s.config.clearingWindow) }
    else s

/-- A request satisfied at once: an UNLOCK delivers its completion, a LOCK delivers nothing (R141). -/
def State.satisfied (s : State) (d : Nat) : LatchAction → State
  | .unlock => s.unlockCompletion d
  | .lock => s

/-- R141: a new request for a door against its record and its pending request. -/
def State.request (s : State) (d : Nat) (a : LatchAction) (c : RequestClass) : State :=
  match s.pendingFor d with
  | none =>
    if a = (s.latchPosition d).side then (if s.pulseRuns d then s else s.satisfied d a)
    else s.enqueue d a c
  | some r =>
    if a = (s.latchPosition d).side then
      let s' := s.dropRequest d
      if s.pulseRuns d then s' else s'.satisfied d a
    else s.mergeRequest r c

/-- A LOCK request; every LOCK has class LOCK (R140). -/
def State.requestLock (s : State) (d : Nat) : State := s.request d .lock .lock

/-! ### Entering WITHDRAWN (10.1) -/

/-- R171: the record of a bay that enters WITHDRAWN. -/
def Bay.withdrawnFor (r : Bay) (why : WithdrawReason) : Bay :=
  { r with
      state := .withdrawn, withdrawReason := some why, expectedLoad := none, lapseAt := none, restartPenaltyPending := 0
      timer := none, rearOpened := false }

/-- R171: a bay enters WITHDRAWN and its notice is raised. Latch requests belong to the causing rule. -/
def State.enterWithdrawn (s : State) (b : Nat) (why : WithdrawReason) : State :=
  (s.changeBay b (·.withdrawnFor why)).raiseBay b (.withdrawn why)

/-- R168: the front latch of a bay withdrawn from RELEASING. Against a LOCKING record, which R168's table does not list, the waiting
UNLOCK is withdrawn as it is against a LOCKED one: DEDUCED (log 18). -/
def State.returnFrontLatch (s : State) (b : Nat) : State :=
  match (s.latchPosition (doorOf b .front)).side with
  | .lock => s.withdrawRequest (doorOf b .front) .unlock
  | .unlock => s.requestLock (doorOf b .front)

/-- A HOLDING or RELEASING bay is withdrawn: R171 with the latch handling of R103 (none) or R168. -/
def State.withdrawHeld (s : State) (b : Nat) (why : WithdrawReason) : State :=
  if (s.bay b).state = .releasing then (s.enterWithdrawn b why).returnFrontLatch b else s.enterWithdrawn b why

/-! ### Lists of bays -/

/-- The 48 bays in ascending order. -/
def allBays : List Nat := List.range 48

/-- An operation on each bay of a list, in order. -/
def State.forBays (s : State) (bs : List Nat) (f : State → Nat → State) : State := bs.foldl f s

/-! ### The power budget (R122) -/

/-- Lmax_eff = min(Lmax, B - 1) and H = B - Lmax_eff. -/
def budgetOf (c : BankConfig) : Budget :=
  { b := c.budget, lmaxEff := min c.lmax (c.budget - 1), h := c.budget - min c.lmax (c.budget - 1) }

end Sys2Proof.Machine
end

