-- ==== Sys2Proof/Machine/Booking.lean ====
section
/-! DEFINITION. Booking and Preheat (03): BOOK, AMEND NEW_CODE, AMEND NEW_LOAD, and AMEND EXTEND of Hold Accounting (6.6). -/

namespace Sys2Proof.Machine

/-- What carrying out a server command gives: the state it leaves, and the result byte and data of its reply (R189, R190). -/
structure Served where
  state : State
  result : Result
  data : List Byte
  deriving DecidableEq, Repr

/-- A refusal: nothing changes (R189). -/
def refuse (s : State) (r : Result) (data : List Byte := []) : Served := ⟨s, r, data⟩

/-! ### Choosing the bays (3.2) -/

/-- A door whose latch record is LOCKED with no request pending (R41). -/
def State.lockedAtRest (s : State) (d : Nat) : Bool := s.latchPosition d = .locked && (s.pendingFor d).isNone

/-- R41. -/
def State.candidate (s : State) (b : Nat) : Bool :=
  (s.bay b).state = .vacant && !s.lockedOut.getD (moduleOf b) false && !(s.bay b).clearing && s.doorsClosed b &&
    s.lockedAtRest (doorOf b .front) && s.lockedAtRest (doorOf b .rear)

def State.candidates (s : State) : List Nat := allBays.filter s.candidate

/-- The candidates of one module. -/
def State.candidatesIn (s : State) (m : Nat) : List Nat := s.candidates.filter fun b => moduleOf b = m

/-- R42: the lowest module with `k` candidates, or the `k` lowest candidates of the bank. -/
def State.chooseBays (s : State) (k : Nat) : List Nat :=
  match (List.range 12).find? fun m => decide (k ≤ (s.candidatesIn m).length) with
  | some m => (s.candidatesIn m).take k
  | none => s.candidates.take k

/-! ### The booked bay (3.3, 3.4) -/

/-- R43: expected_load. -/
def State.expectedLoadFor (s : State) (offset : Nat) : Nat := s.after offset

/-- R43: preheat_start, 0 where the difference would be negative. -/
def preheatStartFor (expected lead : Nat) : Nat := expected - 600 * lead

/-- R43: lapse_at, with the lapse grace in effect. -/
def State.lapseAtFor (s : State) (expected : Nat) : Nat := satTime (expected + 10 * s.config.lapseGrace)

/-- R45: a BOOKED bay enters PREHEATING. -/
def State.enterPreheating (s : State) (b : Nat) : State :=
  s.changeBay b fun r => { r with state := .preheating, preheatStart := none, lastTemp := none }

/-- R45: where preheat_start is already reached. -/
def State.preheatIfReached (s : State) (b : Nat) : State :=
  if s.reached (s.bay b).preheatStart then s.enterPreheating b else s

/-- R43, R45: a chosen bay is filled and bound to its slot. -/
def State.bindBay (s : State) (code offset b slot : Nat) : State :=
  let expected := s.expectedLoadFor offset
  let s := s.changeBay b fun r =>
    { r with
        state := .booked, entry := some code, profile := some slot, expectedLoad := some expected
        preheatStart := some (preheatStartFor expected (s.profile slot).lead), lapseAt := some (s.lapseAtFor expected) }
  s.preheatIfReached b

/-- The condition a slot reads as (R196). -/
def State.slotCondition (s : State) (n : Nat) : SlotCondition := conditionOf (s.slotRecord n)

/-- A slot is the target of the store write in flight. -/
def State.slotBeingWritten (s : State) (n : Nat) : Bool := s.store.write.any fun w => w.target = .slot n

/-- BOOK (R39 to R45). -/
def serveBook (s : State) (ref code : Nat) (slots : List Nat) (offset : Nat) : Served :=
  if ref = 0 ∨ 999999 < code ∨ slots.length = 0 ∨ 4 < slots.length ∨ slots.any (15 < ·) ∨ 7200 < offset then refuse s .badValue
  else if (s.findOrder ref).isSome then refuse s .orderInUse
  else if (s.findCode code).isSome then refuse s .codeInUse
  else match slots.findIdx? fun n => s.slotCondition n ≠ .inService with
    | some i => refuse s .profileInvalid [byteOf (i + 1)]
    | none =>
      match slots.findIdx? s.slotBeingWritten with
      | some i => refuse s .storeBusy [byteOf (i + 1)]
      | none =>
        let bays := s.chooseBays slots.length
        if bays.length < slots.length then refuse s .noBays
        else
          let bound := bays.zip slots
          let s1 := bound.foldl (fun s p => s.bindBay code offset p.1 p.2) s
          let s2 := { s1 with directory := s1.directory.add { code := code, orderRef := ref, bays := bays, created := s.bankTime } }
          ⟨s2, .done, byteOf bays.length :: bound.flatMap fun p => [byteOf p.1, byteOf p.2, stateByte (s2.bay p.1).state]⟩

/-! ### AMEND (3.7) -/

/-- R28, R55: NEW_CODE on the order's entry. -/
def serveNewCode (s : State) (e : Entry) (code : Nat) : Served :=
  if (s.findCode code).isSome then refuse s .codeInUse
  else
    let s1 := { s with directory := s.directory.rekey e code }
    let s2 := s1.forBays e.bays fun s b => s.setBay b { s.bay b with entry := some code }
    ⟨s2, .done, bytesOf 3 code⟩

/-- R56: the states whose times NEW_LOAD sets again. -/
def BayState.retimed : BayState → Bool
  | .booked | .preheating | .ready => true
  | .vacant | .loading | .holding | .releasing | .collecting | .withdrawn | .outOfService => false

/-- R56: NEW_LOAD on one bay. -/
def State.retimeBay (s : State) (offset : Nat) (b : Nat) : State :=
  let expected := s.expectedLoadFor offset
  let r := s.bay b
  let timed := { r with expectedLoad := some expected, lapseAt := some (s.lapseAtFor expected) }
  match r.state with
  | .booked =>
    (s.setBay b { timed with preheatStart := some (preheatStartFor expected (s.boundProfile b).lead) }).preheatIfReached b
  | .preheating | .ready => s.setBay b timed
  | .vacant | .loading | .holding | .releasing | .collecting | .withdrawn | .outOfService => s

/-- R56: NEW_LOAD on the order's entry. -/
def serveNewLoad (s : State) (e : Entry) (offset : Nat) : Served :=
  let s1 := s.forBays e.bays fun s b => s.retimeBay offset b
  ⟨s1, .done, byteOf e.bays.length ::
    e.bays.flatMap fun b => [byteOf b, stateByte (s1.bay b).state, flagByte (s.bay b).state.retimed]⟩

/-- R110: the minutes granted to a bay. -/
def State.granted (s : State) (minutes b : Nat) : Nat :=
  match (s.bay b).state with
  | .holding | .releasing => min minutes ((s.boundProfile b).allowance - (s.bay b).extUsed.getD 0)
  | .vacant | .booked | .preheating | .ready | .loading | .collecting | .withdrawn | .outOfService => 0

/-- R110: EXTEND on one bay. -/
def State.extendBay (s : State) (minutes : Nat) (b : Nat) : State :=
  let r := s.bay b
  let g := s.granted minutes b
  match r.state with
  | .holding | .releasing =>
    s.setBay b { r with extUsed := r.extUsed.map (· + g), deadline := r.deadline.map fun d => satTime (d + 600 * g) }
  | .vacant | .booked | .preheating | .ready | .loading | .collecting | .withdrawn | .outOfService => s

/-- R111: the seconds left until the deadline, for a HOLDING or RELEASING bay. -/
def State.extendRemaining (s : State) (b : Nat) : Option Nat :=
  match (s.bay b).state with
  | .holding | .releasing => (s.bay b).deadline.map s.secondsUntil
  | .vacant | .booked | .preheating | .ready | .loading | .collecting | .withdrawn | .outOfService => none

/-- R110, R111: EXTEND on the order's entry. -/
def serveExtend (s : State) (e : Entry) (minutes : Nat) : Served :=
  let s1 := s.forBays e.bays fun s b => s.extendBay minutes b
  ⟨s1, .done, byteOf e.bays.length ::
    e.bays.flatMap fun b =>
      [byteOf b, stateByte (s1.bay b).state, byteOf (s.granted minutes b)] ++ optionalBytesOf 1 (s1.bay b).extUsed ++
        optionalBytesOf 2 (s1.extendRemaining b)⟩

/-- R54: the value ranges of the three forms. -/
def amendValueFits (form value : Nat) : Bool :=
  if form = amendFormNewCode then value ≤ 999999
  else if form = amendFormExtend then 1 ≤ value && value ≤ 120
  else value ≤ 7200

/-- AMEND (R54), each form by its rule. -/
def serveAmend (s : State) (ref form value : Nat) : Served :=
  if 2 < form ∨ ref = 0 ∨ ¬ amendValueFits form value then refuse s .badValue
  else match s.findOrder ref with
    | none => refuse s .notFound
    | some e =>
      if form = amendFormNewCode then serveNewCode s e value
      else if form = amendFormExtend then serveExtend s e value
      else serveNewLoad s e value

end Sys2Proof.Machine
end

