-- ==== Sys2Proof/Machine/Release.lean ====
section
/-! DEFINITION. Release and Collection (09) on the Hold Table's side: the examination of an entry's bays, OPEN, the collection and the
release timer. -/

namespace Sys2Proof.Machine

/-- R162: a bay enters COLLECTING. -/
def State.beginCollection (s : State) (b : Nat) : State :=
  s.changeBay b fun r => { r with state := .collecting, timer := none, restartPenaltyPending := 0 }

/-- R160: a HOLDING bay is released. -/
def State.releaseBay (s : State) (b : Nat) : State :=
  let s := s.changeBay b fun r => { r with state := .releasing }
  if (s.door (doorOf b .front)).closed then s.request (doorOf b .front) .unlock .collection else s.beginCollection b

/-- What a bay counts as when its code is entered (R157). -/
inductive CountsAs where
  | released | opening | notReady | withdrawn
  deriving DecidableEq, Repr

/-- R157. VACANT and OUT_OF_SERVICE stand in no entry (R25); they count as not ready. -/
def BayState.countsAs : BayState → CountsAs
  | .holding => .released
  | .releasing | .collecting => .opening
  | .booked | .preheating | .ready | .loading | .vacant | .outOfService => .notReady
  | .withdrawn => .withdrawn

/-- R157: each bay of the entry by its state, in ascending order. -/
def State.releaseEntry (s : State) (e : Entry) : State :=
  s.forBays e.bays fun s b => if (s.bay b).state = .holding then s.releaseBay b else s

/-- R158: the reply, from what the bays counted as. -/
def State.entryResult (s : State) (e : Entry) : EntryResult :=
  let counts := e.bays.map fun b => (s.bay b).state.countsAs
  if counts.contains .released || counts.contains .opening then .opened
  else if counts.contains .notReady then .notReady
  else .withdrawn

/-- R158: the bays a reply of OPENED lists. -/
def State.openingBays (s : State) (e : Entry) : List Nat :=
  e.bays.filter fun b => (s.bay b).state = .releasing || (s.bay b).state = .collecting

/-- R158: the entry's bays that are WITHDRAWN. -/
def State.withdrawnCount (s : State) (e : Entry) : Nat := e.bays.countP fun b => (s.bay b).state = .withdrawn

/-- R34: the checks of a key kind and key, shared by QUERY and OPEN: BAD_VALUE, or the lookup. -/
def State.findKey (s : State) (kind key : Nat) : Except Result Entry :=
  if 1 < kind ∨ (kind = 0 ∧ 999999 < key) ∨ (kind = 1 ∧ key = 0) then .error .badValue
  else match if kind = 0 then s.findCode key else s.findOrder key with
    | some e => .ok e
    | none => .error .notFound

/-- The code of an OPEN result (11.8). -/
def EntryResult.openCode : EntryResult → Nat
  | .opened => 0 | .notReady => 1 | .withdrawn => 2 | .unknown | .malformed | .lockedOut => 1

/-- OPEN (R159). -/
def serveOpen (s : State) (kind key : Nat) : Served :=
  match s.findKey kind key with
  | .error r => refuse s r
  | .ok e =>
    let s1 := s.releaseEntry e
    ⟨s1, .done, byteOf (s.entryResult e).openCode :: byteOf e.bays.length ::
      e.bays.flatMap fun b => [byteOf b, stateByte (s1.bay b).state]⟩

/-- R166: the front close that ends the hold, before the relock test. A COLLECTION UNLOCK still pending, behind a LOCK pulse, is withdrawn
(R142), so that the latch is not released on a bay that R139 wants locked: DEDUCED (log 21). -/
def State.endCollection (s : State) (b : Nat) : State :=
  ((s.raiseBay b .collected).sendToVacant b).withdrawRequest (doorOf b .front) .unlock

/-- R164: the release timer's expiry; a deadline already reached is taken at once on entry to HOLDING (R2, R108; log 17). -/
def State.releaseTimerEnds (s : State) (b : Nat) : State :=
  let s := s.requestLock (doorOf b .front)
  let s := s.raiseBay b .releaseTimeout
  let s := s.changeBay b fun r => { r with state := .holding, timer := none }
  if s.reached (s.bay b).deadline then s.withdrawHeld b .deadline else s

end Sys2Proof.Machine
end

