-- ==== Sys2Proof/Machine/Reports.lean ====
section
/-! DEFINITION. The commands that report: QUERY and SCAN (02), STATUS (11.6). -/

namespace Sys2Proof.Machine

/-! ### The freshness index (6.4) -/

/-- One side of the index (R106): 100 where the limit is 0. -/
def indexOf (q qmax : Nat) : Nat := if qmax = 0 then 100 else 100 - 100 * q / qmax

/-- R106. -/
def State.freshness (s : State) (b : Nat) : Nat :=
  min (indexOf (s.bay b).qCold (s.boundProfile b).qmaxCold) (indexOf (s.bay b).qHot (s.boundProfile b).qmaxHot)

/-! ### QUERY (2.6) -/

/-- R36: the states that report an index. -/
def State.reportedFreshness (s : State) (b : Nat) : Option Nat :=
  match (s.bay b).state with
  | .holding | .releasing | .collecting | .withdrawn => some (s.freshness b)
  | .vacant | .booked | .preheating | .ready | .loading | .outOfService => none

/-- R36: the seconds remaining. -/
def State.reportedRemaining (s : State) (b : Nat) : Option Nat :=
  match (s.bay b).state with
  | .booked | .preheating | .ready => (s.bay b).lapseAt.map s.secondsUntil
  | .loading => (s.bay b).timer.map s.secondsUntil
  | .holding | .releasing | .collecting | .withdrawn => (s.bay b).deadline.map s.secondsUntil
  | .vacant | .outOfService => none

/-- R35: the seconds until expected_load. -/
def State.reportedLoadDue (s : State) (b : Nat) : Option Nat :=
  match (s.bay b).state with
  | .booked | .preheating | .ready | .loading => (s.bay b).expectedLoad.map s.secondsUntil
  | .vacant | .holding | .releasing | .collecting | .withdrawn | .outOfService => none

/-- R35: the report of one bay of the entry. withdraw_reason stands in WITHDRAWN alone (R1). -/
def State.bayReport (s : State) (b : Nat) : List Byte :=
  let r := s.bay b
  [byteOf b, stateByte r.state] ++ reasonBytes (if r.state = .withdrawn then r.withdrawReason else none) ++
    optionalBytesOf 1 r.profile ++ temperatureBytesOf r.lastTemp ++ optionalBytesOf 1 (s.reportedFreshness b) ++
    optionalBytesOf 2 (s.reportedRemaining b) ++ optionalBytesOf 2 (s.reportedLoadDue b)

/-- QUERY (R34 to R36). A NOT_FOUND refusal carries the generation. -/
def serveQuery (s : State) (kind key : Nat) : Served :=
  match s.findKey kind key with
  | .error r => refuse s r (if r = .notFound then bytesOf 2 s.directory.generation else [])
  | .ok e =>
    ⟨s, .done, bytesOf 2 s.directory.generation ++ bytesOf 3 e.code ++ bytesOf 4 e.orderRef ++ bytesOf 4 e.created ++
      byteOf e.bays.length :: e.bays.flatMap s.bayReport⟩

/-! ### SCAN (2.7) -/

/-- R37: the entries from the page's beginning on. -/
def State.scanFrom (s : State) (option start : Nat) : List Entry :=
  if option = 1 then s.directory.entries else s.directory.entries.filter fun e => start < e.code

/-- SCAN (R37). -/
def serveScan (s : State) (option start : Nat) : Served :=
  if 1 < option ∨ (option = 0 ∧ 999999 < start) then refuse s .badValue
  else
    let from' := s.scanFrom option start
    let page := from'.take 6
    ⟨s, .done, bytesOf 2 s.directory.generation ++ byteOf page.length ::
      (page.flatMap fun e => bytesOf 3 e.code ++ bytesOf 4 e.orderRef ++ [byteOf e.bays.length]) ++
      [flagByte (decide (6 < from'.length))]⟩

/-! ### STATUS (R19, R194) -/

/-- The bays whose notice sets are not empty, ascending. -/
def State.waitingBays (s : State) : List Nat := allBays.filter fun b => !(s.notices b).isEmpty

/-- R194, 11.8: one bay report of STATUS. -/
def State.statusReport (s : State) (b : Nat) : List Byte :=
  let r := s.bay b
  let n := s.notices b
  [byteOf b, stateByte r.state] ++ bytesOf 2 n.bits ++ reasonBytes n.withdrawn ++
    oosBytes (if r.state = .outOfService then r.oosReason else none)

/-- STATUS (R19, R194). -/
def serveStatus (s : State) (option : Nat) : Served :=
  if 1 < option then refuse s .badValue
  else
    let taken := s.waitingBays.take 12
    let data :=
      [byteOf s.bankNotices.bits, byteOf s.link.stickyBits] ++ bytesOf 2 s.link.truncatedCount ++ bytesOf 2 s.link.crcCount ++
        bytesOf 2 s.link.discardedCount ++ bytesOf 2 s.link.broadcastCount ++ bytesOf 2 s.scanner.overruns ++
        [flagByte s.mains.present, byteOf s.heater.budget.h, byteOf taken.length] ++ taken.flatMap s.statusReport ++
        [flagByte (decide (12 < s.waitingBays.length))]
    let s1 := s.forBays taken fun s b => s.setNotices b BayNotices.empty
    let s2 := { s1 with bankNotices := BankNotices.empty }
    let s3 := if option = 1 then { s2 with link := s2.link.cleared, scanner := { s2.scanner with overruns := 0 } } else s2
    ⟨s3, .done, data⟩

end Sys2Proof.Machine
end

