-- ==== Sys2Proof/Machine/Loading.lean ====
section
/-! DEFINITION. Loading (04): LOAD, the beginning of the hold, and the load window that runs out. The lapse of 3.6 stands here, since a
returning bay may lapse at once (R69). -/

namespace Sys2Proof.Machine

/-- R62: the record of a bay that a LOAD moves to LOADING. -/
def Bay.loadingFrom (r : Bay) : Bay := { r with state := .loading, rearOpened := false }

/-- LOAD (R60 to R63). -/
def serveLoad (s : State) (ref b force : Nat) : Served :=
  if ref = 0 ∨ 47 < b ∨ 1 < force then refuse s .badValue
  else
    let st := (s.bay b).state
    if st ≠ .ready ∧ st ≠ .preheating then refuse s .wrongState [stateByte st]
    else if ((s.findOrder ref).all fun e => !e.bays.contains b) then refuse s .notFound
    else if st = .preheating ∧ force = 0 then refuse s .wrongState [stateByte st]
    else ⟨(s.changeBay b Bay.loadingFrom).request (doorOf b .rear) .unlock .load, .done, [byteOf b, stateByte st]⟩

/-- R65: the record of a bay whose hold begins. -/
def Bay.heldFrom (r : Bay) (now maxHold : Nat) : Bay :=
  { r with
      state := .holding, loadTime := some now, deadline := some (satTime (now + 600 * maxHold)), extUsed := some 0
      qCold := 0, qHot := 0, restartPenaltyPending := 0, rearOpened := false, expectedLoad := none, lapseAt := none, timer := none }

/-- R65, R66: the rear close that begins the hold raises LOADED and requests the LOCK, whatever the record (log 19). -/
def State.beginHold (s : State) (b : Nat) : State :=
  ((s.changeBay b (·.heldFrom s.bankTime (s.boundProfile b).maxHold)).raiseBay b .loaded).requestLock (doorOf b .rear)

/-- R51: the lapse. -/
def State.lapse (s : State) (b : Nat) : State := (s.raiseBay b .lapsed).sendToVacant b

/-- R67: whether a returning bay is warm enough to be READY. -/
def State.warmEnough (s : State) (b : Nat) : Bool :=
  match (s.bay b).lastTemp with
  | some t => decide ((s.boundProfile b).setpoint - (s.boundProfile b).margin ≤ t)
  | none => false

/-- R67: the loading is abandoned; R69: a lapse_at reached meanwhile is taken at once (log 17). -/
def State.abandonLoading (s : State) (b : Nat) : State :=
  let warm := s.warmEnough b
  let s := s.requestLock (doorOf b .rear)
  let s := s.changeBay b fun r => { r with state := if warm then .ready else .preheating, timer := none }
  let s := if warm then s.raiseBay b .ready else s
  if s.reached (s.bay b).lapseAt then s.lapse b else s

/-- R67, R68: the load window's expiry. -/
def State.loadWindowEnds (s : State) (b : Nat) : State :=
  if (s.bay b).rearOpened then s.setBay b { s.bay b with timer := none } else s.abandonLoading b

end Sys2Proof.Machine
end

