-- ==== Sys2Proof/Machine/Withdrawal.lean ====
section
/-! DEFINITION. Withdrawal, Cancellation and Clearing (10): CANCEL, CLEAR and the end of a clearing; with LOCKOUT and RESTORE of the
modules (1.5). -/

namespace Sys2Proof.Machine

/-! ### CANCEL (10.2) -/

/-- R176, rear_opened clear: the rear latch is returned toward locked. -/
def State.returnRearLatch (s : State) (b : Nat) : State :=
  let d := doorOf b .rear
  let s := s.withdrawRequest d .unlock
  if (s.latchPosition d).side = .unlock ∧ (s.door d).closed = true then s.requestLock d else s

/-- R176: a LOADING bay of a cancelled order. -/
def State.cancelLoading (s : State) (b : Nat) : State :=
  if (s.bay b).rearOpened then
    let s := s.enterWithdrawn b .cancelled
    let s := s.setBay b { s.bay b with clearing := true }
    s.request (doorOf b .rear) .unlock .service
  else (s.returnRearLatch b).sendToVacant b

/-- R175: a bay of a cancelled order by its state. -/
def State.cancelBay (s : State) (b : Nat) : State :=
  match (s.bay b).state with
  | .booked | .preheating | .ready => s.sendToVacant b
  | .loading => s.cancelLoading b
  | .holding => s.enterWithdrawn b .cancelled
  | .vacant | .releasing | .collecting | .withdrawn | .outOfService => s

/-- R31: the entry is removed, once, and every bay of its list leaves with it. -/
def State.removeEntry (s : State) (e : Entry) : State :=
  let s := { s with directory := s.directory.remove e.code }
  s.forBays e.bays fun s b => s.setBay b { s.bay b with entry := none }

/-- CANCEL (R174 to R176). The entry's removal stands first in the text of the step, so that no bay shortens the list (R31); the step is
one, so nothing sees the difference. -/
def serveCancel (s : State) (ref : Nat) : Served :=
  if ref = 0 then refuse s .badValue
  else match s.findOrder ref with
    | none => refuse s .notFound
    | some e =>
      match e.bays.find? fun b => (s.bay b).state = .releasing || (s.bay b).state = .collecting with
      | some b => refuse s .releaseInProgress [byteOf b, stateByte (s.bay b).state]
      | none =>
        let s1 := (s.removeEntry e).forBays e.bays State.cancelBay
        ⟨s1, .done, byteOf e.bays.length :: e.bays.flatMap fun b => [byteOf b, stateByte (s1.bay b).state]⟩

/-! ### CLEAR and the clearing (10.4) -/

/-- CLEAR (R179). -/
def serveClear (s : State) (b : Nat) : Served :=
  if 47 < b then refuse s .badValue
  else
    let st := (s.bay b).state
    if st ≠ .withdrawn ∧ st ≠ .outOfService then refuse s .wrongState [stateByte st]
    else
      let s1 := (s.setBay b { s.bay b with clearing := true, timer := none }).request (doorOf b .rear) .unlock .service
      ⟨s1, .done, [byteOf b, stateByte st] ++ optionalBytesOf 2 ((s1.bay b).timer.map s1.secondsUntil)⟩

/-- R181: the rear close that ends a clearing, before the relock test. -/
def State.endClearing (s : State) (b : Nat) : State :=
  let s := s.setBay b { s.bay b with clearing := false, timer := none }
  let s := if (s.bay b).state = .withdrawn then s.sendToVacant b else s
  s.withdrawRequest (doorOf b .rear) .unlock

/-- R182: the clearing window's expiry. -/
def State.abandonClearing (s : State) (b : Nat) : State :=
  let s := s.requestLock (doorOf b .rear)
  s.setBay b { s.bay b with clearing := false, timer := none }

/-! ### LOCKOUT and RESTORE (1.5) -/

/-- The module number and its four bays' states and oos_reasons after the command (R12, R14). -/
def State.moduleReport (s : State) (m : Nat) : List Byte :=
  byteOf m :: (baysOfModule m).flatMap fun b => stateByte (s.bay b).state :: oosBytes (s.bay b).oosReason

/-- R12: a bay of a module locked out. -/
def State.lockOutBay (s : State) (b : Nat) : State :=
  match (s.bay b).state with
  | .vacant => s.enterOutOfService b .lockout
  | .outOfService => s
  | .booked | .preheating | .ready | .loading | .holding | .releasing | .collecting | .withdrawn =>
    s.setBay b { s.bay b with draining := true }

def State.setLockedOut (s : State) (m : Nat) (v : Bool) : State := { s with lockedOut := s.lockedOut.setIfInBounds m v }

/-- LOCKOUT (R12). -/
def serveLockout (s : State) (b : Nat) : Served :=
  if 47 < b then refuse s .badValue
  else
    let m := moduleOf b
    let s1 := (s.forBays (baysOfModule m) State.lockOutBay).setLockedOut m true
    ⟨s1, .done, s1.moduleReport m⟩

/-- R14: a bay of a module restored. -/
def State.restoreBay (s : State) (b : Nat) : State :=
  let s := s.setBay b { s.bay b with draining := false, sensorFault := false, faultStreak := 0 }
  if (s.bay b).state = .outOfService then s.enterVacant b else s

/-- RESTORE (R14). -/
def serveRestore (s : State) (b : Nat) : Served :=
  if 47 < b then refuse s .badValue
  else
    let m := moduleOf b
    let s1 := (s.forBays (baysOfModule m) State.restoreBay).setLockedOut m false
    ⟨s1, .done, s1.moduleReport m⟩

end Sys2Proof.Machine
end

