-- ==== Sys2Proof/Machine/Due.lean ====
section
/-! DEFINITION. What the expiries of a bay do (R2): each is taken when bank time has reached its value while the bay is in a state that watches
it, and is otherwise not taken (log 4). -/

namespace Sys2Proof.Machine

/-- R45: the preheat_start expiry of a BOOKED bay. -/
def State.takePreheatStart (s : State) (b : Nat) : State :=
  if (s.bay b).state = .booked then s.preheatIfReached b else s

/-- The states that watch lapse_at (R2). -/
def BayState.watchesLapse : BayState → Bool
  | .booked | .preheating | .ready => true
  | .vacant | .loading | .holding | .releasing | .collecting | .withdrawn | .outOfService => false

/-- R51: the lapse_at expiry. -/
def State.takeLapse (s : State) (b : Nat) : State :=
  if (s.bay b).state.watchesLapse && s.reached (s.bay b).lapseAt then s.lapse b else s

/-- The states that watch the deadline (R2). -/
def BayState.watchesDeadline : BayState → Bool
  | .holding | .releasing => true
  | .vacant | .booked | .preheating | .ready | .loading | .collecting | .withdrawn | .outOfService => false

/-- R108, R109: the deadline expiry. -/
def State.takeDeadline (s : State) (b : Nat) : State :=
  if (s.bay b).state.watchesDeadline && s.reached (s.bay b).deadline then s.withdrawHeld b .deadline else s

/-- R67, R68: the load window expiry of a LOADING bay. -/
def State.takeLoadWindow (s : State) (b : Nat) : State :=
  if (s.bay b).state = .loading ∧ s.reached (s.bay b).timer = true then s.loadWindowEnds b else s

/-- R164: the release timer expiry of a RELEASING bay. -/
def State.takeReleaseTimer (s : State) (b : Nat) : State :=
  if (s.bay b).state = .releasing ∧ s.reached (s.bay b).timer = true then s.releaseTimerEnds b else s

/-- The states that watch the clearing window while clearing is set (R2). -/
def BayState.watchesClearing : BayState → Bool
  | .vacant | .withdrawn | .outOfService => true
  | .booked | .preheating | .ready | .loading | .holding | .releasing | .collecting => false

/-- R182: the clearing window expiry. -/
def State.takeClearingWindow (s : State) (b : Nat) : State :=
  if (s.bay b).state.watchesClearing && (s.bay b).clearing && s.reached (s.bay b).timer then s.abandonClearing b else s

end Sys2Proof.Machine
end

