-- ==== Sys2Proof/Machine/Store.lean ====
section
/-! DEFINITION. The Profile Store (12): PROFILE_WRITE, PROFILE_READ, CONFIGURE, and what the completion or the loss of a store write does. -/

namespace Sys2Proof.Machine

/-- R199: a store write begins, with the check value computed by the part. -/
def State.beginWrite (s : State) (target : StoreTarget) (fields : List Byte) : State :=
  { s with store := { s.store with
      write := some { target := target, contents := withCheck fields, began := s.bankTime, startedAt := s.clock } } }

/-- R200, check 5: F ≤ S ≤ C. -/
def temperaturesOrdered (r : List Byte) : Bool :=
  decide ((profileOf r).floor ≤ (profileOf r).setpoint) && decide ((profileOf r).setpoint ≤ (profileOf r).ceiling)

/-- PROFILE_WRITE (R200) of the 23 field bytes of a profile record. -/
def serveProfileWrite (s : State) (slot : Nat) (record : List Byte) : Served :=
  if 15 < slot then refuse s .badValue
  else if s.store.write.isSome then refuse s .storeBusy
  else if s.slotInUse slot then refuse s .profileInUse
  else if record.head? ≠ some inServiceMarker then
    ⟨s.beginWrite (.slot slot) record, .done, [byteOf slot, byteOf 0]⟩
  else if 3 < fieldOf record 9 1 then refuse s .badValue
  else
    let c := clampFields profileFields record
    if !temperaturesOrdered c.1 then refuse s .badValue
    else ⟨s.beginWrite (.slot slot) c.1, .done, [byteOf slot, byteOf c.2.length] ++ c.2.map byteOf⟩

/-- PROFILE_READ (R201). -/
def serveProfileRead (s : State) (slot : Nat) : Served :=
  if 15 < slot then refuse s .badValue
  else if s.slotBeingWritten slot then refuse s .storeBusy
  else ⟨s, .done, [byteOf slot, byteOf (s.slotCondition slot).code] ++ s.slotRecord slot ++ [flagByte (s.slotInUse slot)]⟩

/-- CONFIGURE (R202) of the 37 field bytes of the configuration record. -/
def serveConfigure (s : State) (record : List Byte) : Served :=
  if s.store.write.isSome then refuse s .storeBusy
  else
    let c := clampFields configFields record
    ⟨s.beginWrite .configuration c.1, .done, byteOf c.2.length :: c.2.map byteOf⟩

/-- The store with the contents of a target replaced. -/
def ProfileStore.put (st : ProfileStore) (target : StoreTarget) (contents : List Byte) : ProfileStore :=
  match target with
  | .slot n => { st with slots := st.slots.setIfInBounds n contents }
  | .configuration => { st with configuration := contents }

/-- R199: the completion of a write. -/
def State.completeWrite (s : State) (w : StoreWrite) : State :=
  let s := { s with store := { s.store.put w.target w.contents with write := none } }
  let s := if w.target = .configuration then { s with config := configOf w.contents } else s
  s.raiseBank .storeDone

/-- How long a store write lasts (R199), in microseconds. -/
def storeWriteLength : Nat := 40000

/-- R207: a store write in flight at a reset is lost, and its target keeps what the interrupted write left: a free value (log 10). -/
def State.loseWrite (s : State) : State :=
  match s.store.write with
  | none => s
  | some w =>
    let left := match w.target with
      | .slot _ => interruptedSlot s.freeCount
      | .configuration => interruptedConfiguration s.freeCount
    { s with store := { s.store.put w.target left with write := none }, freeCount := s.freeCount + 1 }

end Sys2Proof.Machine
end

