-- ==== Sys2Proof/Machine/Start.lean ====
section
/-! DEFINITION. Starting (12.5) and the supplies (12.4): the cold start and the warm restart, a start in progress, POWER_ON, RESETN, the loss of
a supply and the bank-time tick. -/

namespace Sys2Proof.Machine

/-! ### The parts of a start (R207) -/

/-- R198: the configuration record's check value agrees. -/
def State.configurationGood (s : State) : Bool := checkAgrees 37 s.store.configuration

/-- R198: the configuration in effect is chosen. -/
def State.chooseConfiguration (s : State) : State :=
  { s with config := if s.configurationGood then configOf s.store.configuration else BankConfig.defaults }

/-- R20, R38: the retained contents at a cold start, before COLD_START is added. -/
def State.emptyRecords (s : State) : State :=
  { s with
      bankTime := 0, bays := Vector.replicate 48 Bay.empty, lockedOut := Vector.replicate 12 false
      directory := { entries := [], generation := 0 }
      bankNotices := BankNotices.empty, bayNotices := Vector.replicate 48 BayNotices.empty }

/-- The configured alarm time of a side, in seconds (R137). -/
def State.alarmSeconds (s : State) : Side → Nat
  | .front => s.config.alarmFront
  | .rear => s.config.alarmRear

/-- R138: what Door Sense holds for a door whose switch reads `closed` at a start. -/
def State.doorAtStart (s : State) (d : Nat) : Door :=
  let closed := s.pins.switches.getD d true
  { closed := closed, candidate := none, alarm := if closed then none else some (s.after (s.alarmSeconds (sideOfDoor d))) }

/-- R138: Door Sense reads every switch. -/
def State.readSwitches (s : State) : State := { s with doors := Vector.ofFn fun d : Fin 96 => s.doorAtStart d }

/-- R139, R151: the latch record of a door at a start. A door found open is open after a failed lock. -/
def State.latchAtStart (s : State) (d : Nat) : LatchRecord :=
  { position := .unlocked, openAfterFailedLock := !s.pins.switches.getD d true }

/-- R94, R133, R134, R151, R170, R195: the blocks that keep nothing in Retention Memory. -/
def State.startBlocks (s : State) : State :=
  { s with
      latch := { LatchArbiter.start with records := Vector.ofFn fun d : Fin 96 => s.latchAtStart d }
      scanner := Scanner.start s.config.passPeriod
      mains := MainsMonitor.start
      heater := HeaterAllocator.start (budgetOf s.config)
      ka := KioskPort.start
      kb := KioskPort.start
      link := OrderLink.start s.pins.straps }

/-- R5, R21: what every warm restart does to a bay record, whatever its state. -/
def Bay.retained (r : Bay) : Bay := { r with lastTemp := none, timer := none, clearing := false }

/-- R21: a bay resolved by the state it was retained in. -/
def State.resolveBay (s : State) (b : Nat) : State :=
  let s := s.setBay b (s.bay b).retained
  let r := s.bay b
  match r.state with
  | .vacant | .booked | .withdrawn | .outOfService => s
  | .preheating | .ready => s.setBay b { r with demand := 16 }
  | .loading => if r.rearOpened then s.enterWithdrawn b .restart else s.changeBay b fun r => { r with state := .preheating }
  | .holding => s.setBay b { r with demand := 16, restartPenaltyPending := s.config.restartPenalty }
  | .releasing =>
    s.changeBay b fun r => { r with state := .holding, demand := 16, restartPenaltyPending := s.config.restartPenalty }
  | .collecting =>
    if (s.door (doorOf b .front)).closed then (s.raiseBay b .collected).sendToVacant b else s

/-- R152: the relock sweep, in ascending door number. -/
def State.relockSweep (s : State) : State :=
  (List.range 96).foldl (fun s d => if (s.door d).closed then s.requestLock d else s) s

/-- R22: the expiries of a bay already reached at the retained bank time. -/
def State.takeReached (s : State) (b : Nat) : State := ((s.takePreheatStart b).takeLapse b).takeDeadline b

/-- R21, R22 before the sweep: every bay resolved. -/
def State.resolveAll (s : State) : State := s.forBays allBays State.resolveBay

/-- R22 after the resolution, in ascending bay number (log 16). -/
def State.takeAllReached (s : State) : State := s.forBays allBays State.takeReached

/-- R206: whether the start is a warm restart. -/
def State.startsWarm (s : State) (cold : Bool) : Bool := s.retentionAgrees && !cold

/-- R20, R38, R207: the cold start, once the configuration is chosen. -/
def State.coldStart (s : State) : State := (s.emptyRecords.readSwitches.startBlocks).raiseBank .coldStart

/-- R21, R38, R207: the warm restart, once the configuration is chosen, up to the sweep. -/
def State.warmRestart (s : State) : State := (s.readSwitches.startBlocks.resolveAll).raiseBank .warmStart

/-! ### A start in progress (R206)

A start begins with the row that causes it and ends with its own steps written: the resolution, then the expiries already reached. No row of
the table stands for those steps. They are taken together when the part next does anything but stop: at the next row, or at a
step with no command waiting (log 15). Until then the records stand as the start found them. -/

/-- R206, R207: a start begins, asked to be cold or not. Whatever ran has ended, a store write in flight is lost, and the retained records stand
as they were. -/
def State.beginStart (s : State) (cold : Bool) : State := { s.loseWrite.startBlocks with starting := some cold }

/-- R20, R21, R38, R198, R206, R207: the start's resolution: the configuration chosen, the records emptied or resolved, the start notices
raised, all written with their check value. -/
def State.resolved (s : State) (cold : Bool) : State :=
  let good := s.configurationGood
  let warm := s.startsWarm cold
  let s := s.chooseConfiguration
  let s := if warm then s.warmRestart else s.coldStart
  let s := if good then s else s.raiseBank .configDefaulted
  { s with retentionAgrees := true }

/-- R22, R152, R207: the start's end: the resolution, the relock sweep, and at a warm restart the expiries already reached. -/
def State.endStart (s : State) (cold : Bool) : State :=
  let r := (s.resolved cold).relockSweep
  let r := if s.startsWarm cold then r.takeAllReached else r
  { r with starting := none }

/-- The part with a start in progress brought to its end, while it is powered and not held in reset. -/
def State.awake (s : State) : State :=
  match s.starting with
  | some cold => if s.powered then s.endStart cold else s
  | none => s

/-- Nothing is received and nothing is timed while the part does not run (R205, R206). A row that comes during a start is taken from the
moment the start has ended (R207, log 15). -/
def State.whenRunning (s : State) (f : State → State) : State :=
  if s.awake.running then f s.awake else s.awake

/-- A row that carries its moment. -/
def State.whenRunningAt (s : State) (t : Nat) (f : State → State) : State :=
  let s := s.awake.advance t
  if s.running then f s else s

/-! ### Stopping (R205, R206) -/

/-- RESETN low or VDD gone: all activity ends, a start in progress is abandoned, and the outputs go low. The records stay as they were, or,
where the start's resolution had been written, as it left them. A reset that falls while a step is being written leaves
Retention Memory's contents and check value disagreeing (R205). -/
def State.stopPart (s : State) (moment : StopMoment) : State :=
  let s := match s.starting, moment with
    | some cold, .resolutionWritten => s.resolved cold
    | _, _ => s
  let s := s.loseWrite.startBlocks
  { s with starting := none, retentionAgrees := s.retentionAgrees && moment ≠ .withinStep }

/-! ### The rows -/

/-- POWER_ON (R206): VDD rises; a start begins unless RESETN holds the part. -/
def execPowerOn (s : State) : Host.Outcome State Fault Refusal :=
  .next (if s.pins.vdd then s
    else
      let s := { s with pins := { s.pins with vdd := true } }
      if s.pins.resetn then s.beginStart false else s)

/-- RESETN_LOW (R206). -/
def execResetnLow (moment : StopMoment) (s : State) : Host.Outcome State Fault Refusal :=
  .next (if s.pins.resetn then
      let s' := { s with pins := { s.pins with resetn := false } }
      if s.pins.vdd then s'.stopPart moment else s'
    else s)

/-- RESETN_RELEASE (R206). -/
def execResetnRelease (s : State) : Host.Outcome State Fault Refusal :=
  .next (if s.pins.resetn then s
    else
      let s := { s with pins := { s.pins with resetn := true } }
      if s.pins.vdd then s.beginStart false else s)

/-- LOSS_OF_VDD (R205). -/
def execLossOfVdd (moment : StopMoment) (s : State) : Host.Outcome State Fault Refusal :=
  .next (if s.pins.vdd then
      let s' := { s with pins := { s.pins with vdd := false } }
      if s.pins.resetn then s'.stopPart moment else s'
    else s)

/-- R205: the contents of Retention Memory and its check value are undefined: the contents are a free value (log 13), and the next start finds
a mismatch. A start in progress when VRET falls makes its check afterwards, so that it is that next start: DESIGN CHOICE (log 43). -/
def State.loseRetention (s : State) : State :=
  let r := Config.lostRetention s.freeCount
  { s with
      retentionAgrees := false, freeCount := s.freeCount + 1
      bankTime := r.bankTime.toNat, bays := r.bays, lockedOut := r.lockedOut
      directory := { entries := r.entries, generation := r.generation.toNat }
      bankNotices := r.bankNotices, bayNotices := r.bayNotices }

/-- LOSS_OF_VRET (R205). -/
def execLossOfVret (s : State) : Host.Outcome State Fault Refusal := .next s.loseRetention

/-- BANK_TIME_TICK (R74, R205): bank time and the pass timer each count one tick. -/
def execBankTimeTick (s : State) : Host.Outcome State Fault Refusal :=
  .next (s.whenRunning fun s =>
    { s with bankTime := satTime (s.bankTime + 1), scanner := { s.scanner with passTimer := s.scanner.passTimer - 1 } })

end Sys2Proof.Machine
end

