-- ==== Sys2Proof/Machine/Link.lean ====
section
/-! DEFINITION. The Order Link (11): receiving a frame, the command queue, carrying commands out, replies. -/

namespace Sys2Proof.Machine

/-! ### Carrying commands out (R189, R192) -/

/-- RESTART, addressed (R192): answered first; the start follows its reply. -/
def serveRestart (s : State) (option : Nat) : Served :=
  if 1 < option then refuse s .badValue else ⟨s, .done, []⟩

/-- R189: the frame at the head is handed to the block that owns its command, or answered by the Order Link itself. -/
def carryOut (s : State) : Command → Served
  | .book r c ss o => serveBook s r c ss o
  | .amend r f v => serveAmend s r f v
  | .cancel r => serveCancel s r
  | .load r b f => serveLoad s r b f
  | .clear b => serveClear s b
  | .openOrder k v => serveOpen s k v
  | .lockout b => serveLockout s b
  | .restore b => serveRestore s b
  | .query k v => serveQuery s k v
  | .scan o c => serveScan s o c
  | .status o => serveStatus s o
  | .configure bs => serveConfigure s bs
  | .profileWrite n bs => serveProfileWrite s n bs
  | .profileRead n => serveProfileRead s n
  | .restart o => serveRestart s o
  | .unknown _ => refuse s .unknownCommand
  | .badLength _ => refuse s .badLength
  | .tooLong _ => refuse s .tooLong

def State.setFrames (s : State) (q : List QueuedFrame) : State := { s with link := { s.link with queue := q } }

def State.setReply (s : State) (r : Option Reply) : State := { s with link := { s.link with reply := r } }

/-- The addressed head frame is carried out and its reply formed (R189, R190). -/
def State.answer (s : State) (c : Command) : State :=
  let r := carryOut s c
  r.state.setReply (some { command := Command.byte c, result := r.result, data := r.data })

/-- The queue `q` with its head carried out (R189). A broadcast RESTART begins the start, or is discarded for its option, and the next
frame comes to the head (R191, R192). No other broadcast frame is queued (R191). -/
def State.serveFrames (s : State) : List QueuedFrame → State
  | [] => s.setFrames []
  | f :: rest =>
    if f.broadcast then
      match f.command with
      | .restart 0 => s.beginStart false
      | .restart 1 => s.beginStart true
      | _ => { s with link := s.link.noteBroadcast }.serveFrames rest
    else (s.setFrames (f :: rest)).answer f.command

/-- R188: a frame offered to the queue. -/
def State.offerFrame (s : State) (f : QueuedFrame) : State :=
  if 4 ≤ s.link.queue.length then { s with link := s.link.noteOverrun }
  else if s.link.queue = [] then s.serveFrames [f]
  else s.setFrames (s.link.queue ++ [f])

/-! ### Receiving a frame (11.2) -/

/-- The receiver with no frame being received. -/
def Receiver.asleep : Receiver :=
  { phase := .asleep, broadcast := false, declared := none, expected := 0, crc := crcStart, corrupt := false, buffer := [], crcHigh := 0 }

/-- R185: a frame is opened. -/
def Receiver.opened (broadcast : Bool) : Receiver := { Receiver.asleep with phase := .receiving, broadcast := broadcast }

def State.setReceiver (s : State) (r : Receiver) : State := { s with link := { s.link with receiver := r } }

/-- R184: a character has been received at the present moment. -/
def State.heard (s : State) : State := { s with link := { s.link with lastCharacter := some s.clock } }

/-- R185, R186: a frame being received is abandoned as truncated; the receiver is ASLEEP. -/
def State.abandonFrame (s : State) : State :=
  if s.link.receiver.phase = .asleep then s
  else { s with link := { s.link.noteTruncated with receiver := Receiver.asleep } }

/-- R185: an address character. -/
def State.takeAddress (s : State) (address : Byte) : State :=
  let s := s.abandonFrame
  if address = 0 then s.setReceiver (Receiver.opened true)
  else if address.toNat = s.link.address then s.setReceiver (Receiver.opened false)
  else s.setReceiver Receiver.asleep

/-- R186: the length character. -/
def Receiver.takeLength (r : Receiver) (data : Byte) : Receiver :=
  { r with
      phase := if data.toNat ≤ 59 then .receiving else .counting
      declared := some data.toNat, expected := data.toNat + 2, crc := crcByte r.crc data, buffer := [data] }

/-- R186: a command or payload byte. A frame being counted stores only its command byte, the first. -/
def Receiver.takeBody (r : Receiver) (length : Nat) (data : Byte) : Receiver :=
  { r with
      expected := r.expected - 1, crc := crcByte r.crc data
      buffer := if r.phase = .receiving ∨ r.expected = length + 2 then r.buffer ++ [data] else r.buffer }

/-- R186: the first CRC byte. -/
def Receiver.takeCrcHigh (r : Receiver) (data : Byte) : Receiver :=
  { r with expected := 1, crcHigh := data, buffer := if r.phase = .receiving then r.buffer ++ [data] else r.buffer }

/-- R187: the check of a frame whose second CRC byte is `low`. -/
def Receiver.passes (r : Receiver) (low : Byte) : Bool := !r.corrupt && crcBytes r.crc = [r.crcHigh, low]

/-- The bytes 1 to L of the frame in the buffer. -/
def Receiver.body (r : Receiver) : List Byte := (r.buffer.drop 1).take (r.declared.getD 0)

/-- R187: the command an addressed frame with a good CRC carries. -/
def Receiver.command (r : Receiver) : Command :=
  if 59 < r.declared.getD 0 then .tooLong ((r.buffer.drop 1).headD 0) else parseCommand r.body

/-- R191: the option of a broadcast frame that is a RESTART of length 2. -/
def Receiver.broadcastRestart (r : Receiver) : Option Nat :=
  match r.command with
  | .restart o => some o
  | _ => none

/-- R187, R191: a frame is judged at its end, and the receiver returns to ASLEEP. -/
def State.judgeFrame (s : State) (r : Receiver) (low : Byte) : State :=
  let s := s.setReceiver Receiver.asleep
  if !r.passes low then { s with link := s.link.noteCrcError }
  else if r.broadcast then
    match r.broadcastRestart with
    | some o => s.offerFrame { broadcast := true, command := .restart o }
    | none => { s with link := s.link.noteBroadcast }
  else s.offerFrame { broadcast := false, command := r.command }

/-- R184, R186: a data character taken into the frame being received; the second CRC byte ends the frame. -/
def State.takeData (s : State) (data : Byte) (stopBit : Bool) : State :=
  let r := { s.link.receiver with corrupt := s.link.receiver.corrupt || !stopBit }
  match r.declared with
  | none => s.setReceiver (r.takeLength data)
  | some l =>
    if 2 < r.expected then s.setReceiver (r.takeBody l data)
    else if r.expected = 2 then s.setReceiver (r.takeCrcHigh data)
    else s.judgeFrame r data

/-- The frame being received lacks only its second CRC byte. -/
def Receiver.endsNext (r : Receiver) : Bool := r.phase ≠ .asleep && r.declared.isSome && decide (r.expected ≤ 1)

/-- A character is received unless it ends while LDE is high (R190). LDE falls with the last stop bit of the reply, and the frame leaves the queue
after that (REPLY_DONE): a frame that ends between the two is one that R188 takes before the departure: DEDUCED (log 40). -/
def State.whenListening (s : State) (f : State → State) : State := if s.transmits then s else f s.heard

/-- LINK_ADDRESS_CHARACTER (R184, R185): a character with a good stop bit and its flag set. -/
def execLinkAddressCharacter (address : Byte) (t : Nat) (s : State) : Host.Outcome State Fault Refusal :=
  .next (s.whenRunningAt t (·.whenListening (·.takeAddress address)))

/-- LINK_DATA_CHARACTER (R184, R186): a character with its flag clear, or one without its stop bit. -/
def execLinkDataCharacter (data : Byte) (stopBit : Bool) (t : Nat) (s : State) : Host.Outcome State Fault Refusal :=
  .next (s.whenRunningAt t (·.whenListening fun s =>
    if s.link.receiver.phase = .asleep then s else s.takeData data stopBit))

/-- FRAME_END (R187): the character that is the second CRC byte of the frame being received (log 26). -/
def execFrameEnd (data : Byte) (stopBit : Bool) (t : Nat) (s : State) : Host.Outcome State Fault Refusal :=
  .next (s.whenRunningAt t fun s => if s.link.receiver.endsNext then s.whenListening (·.takeData data stopBit) else s)

/-- The gap that abandons a frame (R186), in microseconds. -/
def frameGap : Nat := 5000

/-- FRAME_GAP_TIMEOUT (R186). -/
def execFrameGapTimeout (t : Nat) (s : State) : Host.Outcome State Fault Refusal :=
  .next (s.whenRunningAt t fun s =>
    match s.link.lastCharacter with
    | some c => if s.elapsed c frameGap then s.abandonFrame else s
    | none => s)

/-! ### Replies (R184, R190) -/

/-- R184: two character times of 11 / 38,400 s have passed since the last character received. -/
def State.lineIdle (s : State) : Bool :=
  match s.link.lastCharacter with
  | some c => decide (22 * 1000000 ≤ 38400 * (s.clock - c))
  | none => true

/-- REPLY_SEND (R190): the reply goes out where one waits, none is being sent and the line is idle. -/
def execReplySend (t : Nat) (s : State) : Host.Outcome State Fault Refusal :=
  .next (s.whenRunningAt t fun s =>
    match s.link.reply, s.link.sending with
    | some r, none => if s.lineIdle then { s with link := { s.link with sending := some (s.clock + r.duration) } } else s
    | _, _ => s)

/-- R192: the start that an answered RESTART asks for, as the cold mark. -/
def OrderLink.restartAnswered (l : OrderLink) : Option Bool :=
  match l.queue.head?.map QueuedFrame.command, l.reply.map Reply.result with
  | some (.restart o), some .done => some (decide (o = 1))
  | _, _ => none

/-- R190, R192: the last character of the reply has left the line. -/
def State.finishReply (s : State) : State :=
  match s.link.restartAnswered with
  | some cold => s.beginStart cold
  | none => { s with link := { s.link with reply := none, sending := none } }.serveFrames s.link.queue.tail

/-- REPLY_DONE (R190): the last stop bit of the reply has ended. -/
def execReplyDone (t : Nat) (s : State) : Host.Outcome State Fault Refusal :=
  .next (s.whenRunningAt t fun s => if s.link.sending.any (· ≤ s.clock) then s.finishReply else s)

/-! ### A whole frame (log 1) -/

/-- A whole good frame for this bank has come in, its last character at the present moment: what its characters do to the receiver, and
the offer to the queue (R184 to R188). It is lost while the part transmits (R190); an addressed one reaches no bank
strapped to 0 (R185). -/
def State.receiveCommand (s : State) (broadcast : Bool) (c : Command) : State :=
  s.whenRunning (·.whenListening fun s =>
    let s := s.abandonFrame
    if broadcast = false ∧ s.link.address = 0 then s else s.offerFrame { broadcast := broadcast, command := c })

/-- A whole frame whose length does not fit its command has come in: it is answered BAD_LENGTH, or TOO_LONG above 59 (R187, R189). No frame is
longer than its length byte can say. -/
def State.receiveMisfit (s : State) (command : Byte) (length : Nat) : State :=
  if length ≤ 59 then s.receiveCommand false (.badLength command)
  else if length ≤ 255 then s.receiveCommand false (.tooLong command)
  else s

end Sys2Proof.Machine
end

