-- ==== Sys2Proof/WellFormed.lean ====
section
/-! DEFINITION. Which command terms the hardware can be sent: every field fits its bytes (11.8), and every bay, door, channel and
converter code exists (00 Terms, R79). The ranges that a rule CHECKS and refuses (a bay number above 47 in LOAD, an
order_ref of 0) are not here: those commands arrive and are refused. -/

namespace Sys2Proof

/-- The command bytes of 11.8. -/
def commandBytes : List Byte :=
  [0x10, 0x11, 0x12, 0x13, 0x14, 0x15, 0x20, 0x21, 0x30, 0x31, 0x32, 0x40, 0x41, 0x42, 0x50]

/-- A command term the hardware can be sent. A BOOK of k slots has L = 11 + k, at most 59, so k is at most 48 (R186, R189). -/
def Instr.wellFormed : Instr → Bool
  | .book r c ss o => r < 2 ^ 32 && c < 2 ^ 24 && ss.length ≤ 48 && ss.all (· < 2 ^ 8) && o < 2 ^ 16
  | .amendNewCode r v => r < 2 ^ 32 && v < 2 ^ 24
  | .amendExtend r v => r < 2 ^ 32 && v < 2 ^ 24
  | .amendNewLoad r v => r < 2 ^ 32 && v < 2 ^ 24
  | .cancel r => r < 2 ^ 32
  | .load r b f => r < 2 ^ 32 && b < 2 ^ 8 && f < 2 ^ 8
  | .clear b => b < 2 ^ 8
  | .openOrder k v => k < 2 ^ 8 && v < 2 ^ 32
  | .lockout b => b < 2 ^ 8
  | .restore b => b < 2 ^ 8
  | .query k v => k < 2 ^ 8 && v < 2 ^ 32
  | .scan o c => o < 2 ^ 8 && c < 2 ^ 24
  | .status o => o < 2 ^ 8
  | .configure bs => bs.length = 37
  | .profileWrite n bs => n < 2 ^ 8 && bs.length = 23
  | .profileRead n => n < 2 ^ 8
  | .restart _ o => o < 2 ^ 8
  | .unknownCommand c => !commandBytes.contains c
  | .linkAddressCharacter _ _ => true
  | .linkDataCharacter _ _ _ => true
  | .frameEnd _ _ _ => true
  | .frameGapTimeout _ => true
  | .replySend _ => true
  | .replyDone _ => true
  | .powerOn => true
  | .resetnLow _ => true
  | .resetnRelease => true
  | .kioskCharacter _ _ _ => true
  | .kioskEntry _ => true
  | .kioskFrameTimeout _ => true
  | .kioskReplyDone _ => true
  | .doorSwitchChange d _ _ => d < 96
  | .doorOpened d _ => d < 96
  | .doorClosed d _ => d < 96
  | .doorAlarmExpiry d => d < 96
  | .latchGrant _ => true
  | .unlockPulseEnd c _ => c < 4
  | .lockPulseEnd c _ => c < 4
  | .stallTimerExpiry _ => true
  | .passPeriodExpiry _ => true
  | .settlingConversionEnd _ => true
  | .keptConversionEnd code _ => code < 1024
  | .zcCrossing _ => true
  | .absenceWatchExpiry _ => true
  | .preheatStartExpiry b => b < 48
  | .lapseExpiry b => b < 48
  | .loadWindowExpiry b => b < 48
  | .deadlineExpiry b => b < 48
  | .releaseTimerExpiry b => b < 48
  | .clearingWindowExpiry b => b < 48
  | .storeWriteComplete _ => true
  | .bankTimeTick => true
  | .lossOfVdd _ => true
  | .lossOfVret => true

end Sys2Proof
end

