-- ==== Sys2Proof/Machine/Commands.lean ====
section
/-! DEFINITION. The rows of the server commands: a whole good frame carrying the command arrives (log 1). What the command does is its
`serve` definition, which `carryOut` calls when the frame is at the head of the queue (R189): at once where the queue was
empty. -/

namespace Sys2Proof.Machine

/-- BOOK (R39 to R45). More than 48 slots make a frame longer than 59. -/
def execBook (ref code : Nat) (slots : List Nat) (offset : Nat) (s : State) : Host.Outcome State Fault Refusal :=
  if 48 < slots.length then nextIf ((Instr.book ref code [] offset).wellFormed && slots.all (· < 2 ^ 8)) s (s.receiveMisfit 0x10 (11 + slots.length))
  else nextIf (Instr.book ref code slots offset).wellFormed s (s.receiveCommand false (.book ref code slots offset))

/-- AMEND NEW_CODE (R54, R55). -/
def execAmendNewCode (ref value : Nat) (s : State) : Host.Outcome State Fault Refusal :=
  nextIf (Instr.amendNewCode ref value).wellFormed s (s.receiveCommand false (.amend ref amendFormNewCode value))

/-- AMEND EXTEND (R54, R110). -/
def execAmendExtend (ref value : Nat) (s : State) : Host.Outcome State Fault Refusal :=
  nextIf (Instr.amendExtend ref value).wellFormed s (s.receiveCommand false (.amend ref amendFormExtend value))

/-- AMEND NEW_LOAD (R54, R56). -/
def execAmendNewLoad (ref value : Nat) (s : State) : Host.Outcome State Fault Refusal :=
  nextIf (Instr.amendNewLoad ref value).wellFormed s (s.receiveCommand false (.amend ref amendFormNewLoad value))

/-- CANCEL (R174). -/
def execCancel (ref : Nat) (s : State) : Host.Outcome State Fault Refusal :=
  nextIf (Instr.cancel ref).wellFormed s (s.receiveCommand false (.cancel ref))

/-- LOAD (R60). -/
def execLoad (ref b force : Nat) (s : State) : Host.Outcome State Fault Refusal :=
  nextIf (Instr.load ref b force).wellFormed s (s.receiveCommand false (.load ref b force))

/-- CLEAR (R179). -/
def execClear (b : Nat) (s : State) : Host.Outcome State Fault Refusal :=
  nextIf (Instr.clear b).wellFormed s (s.receiveCommand false (.clear b))

/-- OPEN (R159). -/
def execOpenOrder (kind key : Nat) (s : State) : Host.Outcome State Fault Refusal :=
  nextIf (Instr.openOrder kind key).wellFormed s (s.receiveCommand false (.openOrder kind key))

/-- LOCKOUT (R12). -/
def execLockout (b : Nat) (s : State) : Host.Outcome State Fault Refusal :=
  nextIf (Instr.lockout b).wellFormed s (s.receiveCommand false (.lockout b))

/-- RESTORE (R14). -/
def execRestore (b : Nat) (s : State) : Host.Outcome State Fault Refusal :=
  nextIf (Instr.restore b).wellFormed s (s.receiveCommand false (.restore b))

/-- QUERY (R34). -/
def execQuery (kind key : Nat) (s : State) : Host.Outcome State Fault Refusal :=
  nextIf (Instr.query kind key).wellFormed s (s.receiveCommand false (.query kind key))

/-- SCAN (R37). -/
def execScan (option start : Nat) (s : State) : Host.Outcome State Fault Refusal :=
  nextIf (Instr.scan option start).wellFormed s (s.receiveCommand false (.scan option start))

/-- STATUS (R194). -/
def execStatus (option : Nat) (s : State) : Host.Outcome State Fault Refusal :=
  nextIf (Instr.status option).wellFormed s (s.receiveCommand false (.status option))

/-- CONFIGURE (R202). A record of another length does not fit the command (R189). -/
def execConfigure (record : List Byte) (s : State) : Host.Outcome State Fault Refusal :=
  .next (if record.length = 37 then s.receiveCommand false (.configure record) else s.receiveMisfit 0x40 (1 + record.length))

/-- PROFILE_WRITE (R200). A record of another length does not fit the command (R189). -/
def execProfileWrite (slot : Nat) (record : List Byte) (s : State) : Host.Outcome State Fault Refusal :=
  nextIf (slot < 2 ^ 8) s
    (if record.length = 23 then s.receiveCommand false (.profileWrite slot record) else s.receiveMisfit 0x41 (2 + record.length))

/-- PROFILE_READ (R201). -/
def execProfileRead (slot : Nat) (s : State) : Host.Outcome State Fault Refusal :=
  nextIf (Instr.profileRead slot).wellFormed s (s.receiveCommand false (.profileRead slot))

/-- RESTART, addressed or broadcast (R191, R192). -/
def execRestart (broadcast : Bool) (option : Nat) (s : State) : Host.Outcome State Fault Refusal :=
  nextIf (Instr.restart broadcast option).wellFormed s (s.receiveCommand broadcast (.restart option))

/-- UNKNOWN_COMMAND (R189): a frame that holds the command byte alone. A byte of the table names a command, whose length 1 does not fit. -/
def execUnknownCommand (command : Byte) (s : State) : Host.Outcome State Fault Refusal :=
  .next (if commandBytes.contains command then s.receiveMisfit command 1 else s.receiveCommand false (.unknown command))

end Sys2Proof.Machine
end

