-- ==== Sys2Proof/Machine/Doors.lean ====
section
/-! DEFINITION. Door Sense and the doors against the latches (8.1, 8.5). -/

namespace Sys2Proof.Machine

/-- How long a level must be held (R135), in microseconds. -/
def debounceTime : Nat := 40000

/-! ### A door opened (R136, R147) -/

/-- R147: a LOADING bay withdrawn by a forced door. -/
def State.forceLoading (s : State) (b : Nat) : State := (s.enterWithdrawn b .forced).returnRearLatch b

/-- R147: a forced door. -/
def State.forcedDoor (s : State) (b : Nat) (side : Side) : State :=
  let s := s.raiseBay b (.doorForced side)
  match (s.bay b).state with
  | .holding | .releasing => s.withdrawHeld b .forced
  | .loading => s.forceLoading b
  | .vacant | .booked | .preheating | .ready | .collecting | .withdrawn | .outOfService => s

/-- R163: a front door opened on a HOLDING bay whose latch is released. -/
def State.lateCollection (s : State) (b : Nat) : State :=
  (s.beginCollection b).withdrawRequest (doorOf b .front) .lock

/-- R64, R162, R163: the Hold Table takes an opening that is not forced. -/
def State.openedUnforced (s : State) (b : Nat) (side : Side) : State :=
  match side, (s.bay b).state with
  | .front, .releasing => s.beginCollection b
  | .front, .holding =>
    let p := s.latchPosition (doorOf b .front)
    if p = .unlocked ∨ p = .locking then s.lateCollection b else s
  | .rear, .loading => s.setBay b { s.bay b with rearOpened := true }
  | _, _ => s

/-- R136: the step of a door-opened event. -/
def State.doorOpenedStep (s : State) (d : Nat) : State :=
  let b := bayOfDoor d
  let side := sideOfDoor d
  let s := s.setDoor d { s.door d with closed := false, candidate := none }
  let s := if s.latchPosition d = .locked then s.forcedDoor b side else s.openedUnforced b side
  let s := s.cutRun b
  s.setDoor d { s.door d with alarm := some (s.after (s.alarmSeconds side)) }

/-! ### A door closed (R136, R146) -/

/-- R65, R166, R181: the Hold Table takes a closing. -/
def State.closedOnBay (s : State) (b : Nat) (side : Side) : State :=
  match side with
  | .front => if (s.bay b).state = .collecting then s.endCollection b else s
  | .rear =>
    if (s.bay b).state = .loading ∧ (s.bay b).rearOpened = true then s.beginHold b
    else if (s.bay b).clearing then s.endClearing b
    else s

/-- R146: the bay's state keeps a door unlocked. -/
def State.keepsUnlocked (s : State) (b : Nat) : Side → Bool
  | .front => (s.bay b).state = .releasing
  | .rear => (s.bay b).state = .loading || (s.bay b).clearing

/-- R146: the relock test of a closing. -/
def State.relockTest (s : State) (d : Nat) : State :=
  if (s.latchPosition d).side = .unlock ∧ s.keepsUnlocked (bayOfDoor d) (sideOfDoor d) = false then s.requestLock d else s

/-- R136: the step of a door-closed event. -/
def State.doorClosedStep (s : State) (d : Nat) : State :=
  let s := s.setDoor d { s.door d with closed := true, candidate := none }
  let s := s.setOpenAfterFailedLock d false
  let s := s.closedOnBay (bayOfDoor d) (sideOfDoor d)
  let s := s.relockTest d
  s.setDoor d { s.door d with alarm := none }

/-! ### The rows -/

def State.setSwitch (s : State) (d : Nat) (closed : Bool) : State :=
  { s with pins := { s.pins with switches := s.pins.switches.setIfInBounds d closed } }

/-- R135: the candidate of a door whose switch now has a level. -/
def Door.sense (r : Door) (closed : Bool) (now : Nat) : Door :=
  if closed = r.closed then { r with candidate := none }
  else { r with candidate := some (r.candidate.getD { closed := closed, since := now }) }

/-- DOOR_SWITCH_CHANGE (R135). The switch moves whether or not the part runs. -/
def execDoorSwitchChange (d : Nat) (closed : Bool) (t : Nat) (s : State) : Host.Outcome State Fault Refusal :=
  let s' := (s.awake.advance t).setSwitch d closed
  nextIf (d < 96) s (if s'.running then s'.setDoor d ((s'.door d).sense closed s'.clock) else s')

/-- R135: the candidate of a door has stood for 40 ms at a level. -/
def State.settled (s : State) (d : Nat) (closed : Bool) : Bool :=
  (s.door d).candidate.any fun c => c.closed = closed && s.elapsed c.since debounceTime

/-- DOOR_OPENED (R135, R136). -/
def execDoorOpened (d t : Nat) (s : State) : Host.Outcome State Fault Refusal :=
  nextIf (d < 96) s (s.whenRunningAt t fun s => if s.settled d false then s.doorOpenedStep d else s)

/-- DOOR_CLOSED (R135, R136). -/
def execDoorClosed (d t : Nat) (s : State) : Host.Outcome State Fault Refusal :=
  nextIf (d < 96) s (s.whenRunningAt t fun s => if s.settled d true then s.doorClosedStep d else s)

/-- DOOR_ALARM_EXPIRY (R137). -/
def execDoorAlarmExpiry (d : Nat) (s : State) : Host.Outcome State Fault Refusal :=
  nextIf (d < 96) s (s.whenRunning fun s =>
    if s.reached (s.door d).alarm then
      (s.raiseBay (bayOfDoor d) (.doorLeftOpen (sideOfDoor d))).setDoor d { s.door d with alarm := none }
    else s)

end Sys2Proof.Machine
end

