-- ==== Sys2Proof/Machine/Expiry.lean ====
section
/-! DEFINITION. The rows of the six bay expiries (R2) and of the completion of a store write (R199). -/

namespace Sys2Proof.Machine

/-- STORE_WRITE_COMPLETE (R199): 40 ms after the write began. -/
def execStoreWriteComplete (t : Nat) (s : State) : Host.Outcome State Fault Refusal :=
  .next (s.whenRunningAt t fun s =>
    match s.store.write with
    | some w => if s.elapsed w.startedAt storeWriteLength then s.completeWrite w else s
    | none => s)

/-- PREHEAT_START_EXPIRY (R45). -/
def execPreheatStartExpiry (b : Nat) (s : State) : Host.Outcome State Fault Refusal :=
  nextIf (b < 48) s (s.whenRunning (·.takePreheatStart b))

/-- LAPSE_EXPIRY (R51). -/
def execLapseExpiry (b : Nat) (s : State) : Host.Outcome State Fault Refusal :=
  nextIf (b < 48) s (s.whenRunning (·.takeLapse b))

/-- LOAD_WINDOW_EXPIRY (R67, R68). -/
def execLoadWindowExpiry (b : Nat) (s : State) : Host.Outcome State Fault Refusal :=
  nextIf (b < 48) s (s.whenRunning (·.takeLoadWindow b))

/-- DEADLINE_EXPIRY (R108, R109). -/
def execDeadlineExpiry (b : Nat) (s : State) : Host.Outcome State Fault Refusal :=
  nextIf (b < 48) s (s.whenRunning (·.takeDeadline b))

/-- RELEASE_TIMER_EXPIRY (R164). -/
def execReleaseTimerExpiry (b : Nat) (s : State) : Host.Outcome State Fault Refusal :=
  nextIf (b < 48) s (s.whenRunning (·.takeReleaseTimer b))

/-- CLEARING_WINDOW_EXPIRY (R182). -/
def execClearingWindowExpiry (b : Nat) (s : State) : Host.Outcome State Fault Refusal :=
  nextIf (b < 48) s (s.whenRunning (·.takeClearingWindow b))

end Sys2Proof.Machine
end

