-- ==== Sys2Proof/Machine/Kiosk.lean ====
section
/-! DEFINITION. The Kiosk Ports (9.1, 9.2). -/

namespace Sys2Proof.Machine

/-- The port of a line. -/
def State.port (s : State) : KioskLine → KioskPort
  | .ka => s.ka
  | .kb => s.kb

def State.setPort (s : State) (l : KioskLine) (p : KioskPort) : State :=
  match l with
  | .ka => { s with ka := p }
  | .kb => { s with kb := p }

/-- R156: a failure at bank time `now` recorded on the list, the oldest of five removed first. -/
def recordFailure (failures : List Nat) (now : Nat) : List Nat :=
  (if failures.length < 5 then failures else failures.drop 1) ++ [now]

/-- R156: five failures within 600 ticks. -/
def locksOut (failures : List Nat) : Bool :=
  decide (5 ≤ failures.length) && decide (failures.getLastD 0 - failures.headD 0 ≤ 600)

/-- R156: the port after a failure, which may begin a lockout of 1,200 ticks. -/
def KioskPort.failed (p : KioskPort) (now : Nat) : KioskPort :=
  let fs := recordFailure p.failures now
  if locksOut fs then { p with failures := [], lockout := some (satTime (now + 1200)) } else { p with failures := fs }

/-- The reply of a port that takes an entry: REPLYING until its last character has left (R153). -/
def KioskPort.replyWith (p : KioskPort) (reply : List Byte) : KioskPort := { p with phase := .replying, reply := reply }

/-- The code of six digits. -/
def codeOf (digits : List Nat) : Nat := digits.foldl (fun n d => 10 * n + d) 0

/-- R154: a frame with exactly six digits and the mark clear. -/
def KioskPort.wellFormed (p : KioskPort) : Bool := decide (p.digits.length = 6) && !p.malformed

/-- R155: the line is locked out at bank time `now`. -/
def KioskPort.lockedOutAt (p : KioskPort) (now : Nat) : Bool := p.lockout.any fun e => now < e

/-- R155 to R158: the entry. Its carriage return sets the last character time like any character (R154). -/
def State.takeEntry (s : State) (l : KioskLine) : State :=
  let p := { s.port l with lastCharacter := s.bankTime }
  if p.lockedOutAt s.bankTime then s.setPort l (p.replyWith (kioskReply .lockedOut [] 0))
  else
    let p := { p with lockout := none }
    if !p.wellFormed then s.setPort l ((p.failed s.bankTime).replyWith (kioskReply .malformed [] 0))
    else match s.findCode (codeOf p.digits) with
      | none => s.setPort l ((p.failed s.bankTime).replyWith (kioskReply .unknown [] 0))
      | some e =>
        let s1 := s.releaseEntry e
        let result := s.entryResult e
        let listed := if result = .opened then s1.openingBays e else []
        s1.setPort l ({ p with failures := [] }.replyWith (kioskReply result listed (s1.withdrawnCount e)))

/-- The characters E and carriage return. -/
def characterE : Byte := 0x45
def carriageReturn : Byte := 0x0D

/-- An ASCII digit. -/
def isDigit (c : Byte) : Bool := decide (0x30 ≤ c.toNat) && decide (c.toNat ≤ 0x39)

/-- R154: a character other than a good carriage return, taken in RECEIVING. -/
def KioskPort.take (p : KioskPort) (c : Byte) (stopBit : Bool) (now : Nat) : KioskPort :=
  let p := { p with lastCharacter := now }
  if stopBit && isDigit c && decide (p.digits.length < 6) then { p with digits := p.digits ++ [c.toNat - 0x30] }
  else { p with malformed := true }

/-- R154: a character received on a line. A carriage return without its stop bit meets two rows of R154's table: it sets the mark and does not end
the frame: DESIGN CHOICE (log 41). -/
def State.takeKioskCharacter (s : State) (l : KioskLine) (c : Byte) (stopBit : Bool) : State :=
  let p := s.port l
  match p.phase with
  | .idle =>
    if stopBit = true ∧ c = characterE then
      s.setPort l { p with phase := .receiving, digits := [], malformed := false, lastCharacter := s.bankTime }
    else s
  | .receiving =>
    if stopBit = true ∧ c = carriageReturn then s.takeEntry l else s.setPort l (p.take c stopBit s.bankTime)
  | .replying => s

/-- KIOSK_CHARACTER (R153, R154). -/
def execKioskCharacter (l : KioskLine) (c : Byte) (stopBit : Bool) (s : State) : Host.Outcome State Fault Refusal :=
  .next (s.whenRunning (·.takeKioskCharacter l c stopBit))

/-- KIOSK_ENTRY (R155): the carriage return that ends a frame (log 26). -/
def execKioskEntry (l : KioskLine) (s : State) : Host.Outcome State Fault Refusal :=
  .next (s.whenRunning fun s => if (s.port l).phase = .receiving then s.takeEntry l else s)

/-- KIOSK_FRAME_TIMEOUT (R154): 20 ticks without a character. The sum is not saturated, so that once bank time has saturated the timeout never
falls due: DESIGN CHOICE (log 39). The malformed mark is cleared with the buffer: DESIGN CHOICE (log 42). -/
def execKioskFrameTimeout (l : KioskLine) (s : State) : Host.Outcome State Fault Refusal :=
  .next (s.whenRunning fun s =>
    let p := s.port l
    if p.phase = .receiving ∧ p.lastCharacter + 20 ≤ s.bankTime then
      s.setPort l { p with phase := .idle, digits := [], malformed := false }
    else s)

/-- KIOSK_REPLY_DONE (R153). -/
def execKioskReplyDone (l : KioskLine) (s : State) : Host.Outcome State Fault Refusal :=
  .next (s.whenRunning fun s =>
    if (s.port l).phase = .replying then s.setPort l { s.port l with phase := .idle, reply := [] } else s)

end Sys2Proof.Machine
end

