-- ==== Sys2Proof/Machine/Scanner.lean ====
section
/-! DEFINITION. Temperature Measurement (05) and Hold Accounting (6.1 to 6.3), with the demand of 7.2: passes, conversions, rounds, and what
a completed round does to its bay. -/

namespace Sys2Proof.Machine

/-! ### From code to temperature (5.3) -/

/-- R82: a code within eight steps of either rail. -/
def isFaultCode (code : Nat) : Bool := decide (code ≤ 7) || decide (1016 ≤ code)

/-- R83: the temperature of a code, by the breakpoints in effect. `/` rounds toward minus infinity for the positive divisor 128. -/
def temperatureOf (points : List Int) (code : Nat) : Int :=
  let k := code / 128
  let r := code - 128 * k
  let p := points.getD k 0
  clampTo (p + (points.getD (k + 1) 0 - p) * (r : Int) / 128) (-400) 1500

/-! ### Rounds (5.4) -/

/-- R85: a sample added to the round in progress. -/
def addSample (t : Int) : Option Samples → Samples
  | none => { count := 1, first := t, lowest := t, highest := t, sum := t }
  | some a => { a with count := a.count + 1, lowest := min a.lowest t, highest := max a.highest t, sum := a.sum + t }

/-- R86: the temperature of a valid round of `k` samples. -/
def roundTemperature (mode : RoundMode) (k : Nat) (a : Samples) : Int :=
  match mode with
  | .first => a.first
  | .min => a.lowest
  | .max => a.highest
  | .mean => (2 * a.sum + k) / (2 * k)

/-- R85: the reduction count and the mode of a bay's scanning group. -/
def State.reduction (s : State) (b : Nat) : Nat × RoundMode :=
  if (s.bay b).state.group = some .profile then ((s.boundProfile b).count, (s.boundProfile b).mode) else (1, .first)

/-! ### Demand (7.2) -/

/-- R120. -/
def demandFor (setpoint t : Int) (gain : Nat) : Nat := (clampTo (((setpoint - t) * gain + 32) / 64) 0 16).toNat

/-- R120, R121: a valid round sets the demand of a bay in a heating state. -/
def State.setDemand (s : State) (b : Nat) (t : Int) : State :=
  if (s.bay b).state.heating then
    s.setBay b { s.bay b with demand := demandFor (s.boundProfile b).setpoint t (s.boundProfile b).gain }
  else s

/-! ### What a round sets (R5, R89) -/

/-- A valid round on the record. -/
def Bay.afterValid (r : Bay) (t : Int) (now : Nat) : Bay := { r with lastTemp := some t, lastRound := some now, faultStreak := 0 }

/-- A fault round on the record. -/
def Bay.afterFault (r : Bay) (now : Nat) : Bay := { r with lastRound := some now, faultStreak := min 3 (r.faultStreak + 1) }

/-- R90: at the third consecutive fault round sensor_fault is set, and BAY_FAULT raised where it was clear. -/
def State.noteSensorFault (s : State) (b : Nat) : State :=
  let s' := s.setBay b { s.bay b with sensorFault := true }
  if (s.bay b).sensorFault then s' else s'.raiseBay b .bayFault

/-! ### Hold Accounting (6.2, 6.3) -/

/-- R97: the start point of a round's interval. -/
def Bay.startPoint (r : Bay) : Nat := max (r.lastRound.getD 0) (r.loadTime.getD 0)

/-- R98: the elapsed interval. -/
def Bay.interval (r : Bay) (now : Nat) : Nat := min (now - r.startPoint + r.restartPenaltyPending) 6000

/-- A deficit with a charge, saturating (R100, R101). -/
def chargeTo (q charge : Nat) : Nat := min (q + charge) maxDeficit

/-- R100: a valid round's charge; R98: the penalty is consumed. -/
def Bay.chargeValid (r : Bay) (p : Profile) (t : Int) (now : Nat) : Bay :=
  { r with
      qCold := if t < p.floor then chargeTo r.qCold ((p.floor - t).toNat * r.interval now) else r.qCold
      qHot := if p.ceiling < t then chargeTo r.qHot ((t - p.ceiling).toNat * r.interval now) else r.qHot
      restartPenaltyPending := 0 }

/-- R101: a fault round's charge. -/
def Bay.chargeFault (r : Bay) (p : Profile) (now : Nat) : Bay :=
  { r with qCold := chargeTo r.qCold (p.penalty * r.interval now), restartPenaltyPending := 0 }

/-- R102: the first withdrawal test that holds; `third` marks a third consecutive fault round. -/
def withdrawalTest (r : Bay) (p : Profile) (third : Bool) : Option WithdrawReason :=
  if 0 < p.qmaxCold ∧ p.qmaxCold ≤ r.qCold then some .cold
  else if 0 < p.qmaxHot ∧ p.qmaxHot ≤ r.qHot then some .hot
  else if third then some .sensor
  else none

/-- R96, R103: the accounting step of a valid round of a HOLDING or RELEASING bay. -/
def State.accountValid (s : State) (b : Nat) (t : Int) : State :=
  let p := s.boundProfile b
  let s := s.setBay b (((s.bay b).chargeValid p t s.bankTime).afterValid t s.bankTime)
  match withdrawalTest (s.bay b) p false with
  | some why => s.withdrawHeld b why
  | none => s.setDemand b t

/-- R96, R103: the accounting step of a fault round of a HOLDING or RELEASING bay. -/
def State.accountFault (s : State) (b : Nat) : State :=
  let p := s.boundProfile b
  let s := s.setBay b (((s.bay b).chargeFault p s.bankTime).afterFault s.bankTime)
  let third := decide ((s.bay b).faultStreak = 3)
  let s := if third then s.noteSensorFault b else s
  match withdrawalTest (s.bay b) p third with
  | some why => s.withdrawHeld b why
  | none => s

/-! ### What a completed round does (R88) -/

/-- R47: the READY test of a PREHEATING bay. -/
def State.readyTest (s : State) (b : Nat) (t : Int) : State :=
  if (s.boundProfile b).setpoint - (s.boundProfile b).margin ≤ t then
    (s.changeBay b fun r => { r with state := .ready }).raiseBay b .ready
  else s

/-- R48: the return test of a READY bay. -/
def State.returnTest (s : State) (b : Nat) (t : Int) : State :=
  if t < (s.boundProfile b).setpoint - 2 * (s.boundProfile b).margin then s.changeBay b fun r => { r with state := .preheating }
  else s

/-- R88: a valid round by the bay's state. -/
def State.validRound (s : State) (b : Nat) (t : Int) : State :=
  let noted := s.setBay b ((s.bay b).afterValid t s.bankTime)
  match (s.bay b).state with
  | .vacant | .booked | .withdrawn | .loading | .collecting => noted
  | .preheating => (noted.readyTest b t).setDemand b t
  | .ready => (noted.returnTest b t).setDemand b t
  | .holding | .releasing => s.accountValid b t
  | .outOfService => s

/-- R91: a third consecutive fault round by the bay's state, outside a hold. -/
def State.thirdFault (s : State) (b : Nat) : State :=
  let s := s.noteSensorFault b
  match (s.bay b).state with
  | .vacant | .booked | .preheating | .ready => s.enterOutOfService b .sensor
  | .loading | .collecting | .withdrawn | .holding | .releasing | .outOfService => s

/-- R88: a fault round by the bay's state. -/
def State.faultRound (s : State) (b : Nat) : State :=
  match (s.bay b).state with
  | .holding | .releasing => s.accountFault b
  | .outOfService => s
  | .vacant | .booked | .preheating | .ready | .loading | .collecting | .withdrawn =>
    let s := s.setBay b ((s.bay b).afterFault s.bankTime)
    if (s.bay b).faultStreak = 3 then s.thirdFault b else s

def State.setRound (s : State) (b : Nat) (r : Option Samples) : State :=
  { s with scanner := { s.scanner with rounds := s.scanner.rounds.setIfInBounds b r } }

/-- R82, R85 to R88: a kept code is taken into its bay's round. A bay in OUT_OF_SERVICE takes none (R88). -/
def State.takeSample (s : State) (b code : Nat) : State :=
  if (s.bay b).state = .outOfService then s
  else if isFaultCode code then (s.setRound b none).faultRound b
  else
    let a := addSample (temperatureOf s.config.points code) (s.scanner.rounds.getD b none)
    let k := (s.reduction b).1
    if k ≤ a.count then (s.setRound b none).validRound b (roundTemperature (s.reduction b).2 k a)
    else s.setRound b (some a)

/-! ### Passes and conversions (5.1, 5.2) -/

/-- R80: the scanner is held off while a pulse is energised. -/
def State.heldOff (s : State) : Bool := decide (0 < s.energised)

/-- The filter time in effect, in microseconds (11.8). -/
def State.filterTime (s : State) : Nat := 4000 * 2 ^ s.config.filterCode

/-- R149, R150: the end of a kept conversion or of the pass clears the stall timer and the guard. -/
def State.clearStall (s : State) : State := { s with latch := { s.latch with stallTimer := none, guard := false } }

/-- The conversion in progress is over, and its mark with it. -/
def State.dropConversion (s : State) : State := { s with scanner := { s.scanner with conversion := none, discard := false } }

/-- R76: the pass ends. -/
def State.endPass (s : State) : State :=
  (State.dropConversion { s with scanner := { s.scanner with pass := none } }).clearStall

/-- R76, R79, R80: the next pair of the pass begins, or the pass ends. A bay in OUT_OF_SERVICE when its turn comes is passed over; while the
scanner is held off no turn comes (log 25). Two DESIGN CHOICES (log 38): the bay of a pair that a pulse abandoned has its turn
again when the hold-off ends, and is passed over like any other if it is then OUT_OF_SERVICE, although R80 starts its pair
again; and a bay that has entered OUT_OF_SERVICE since the pass started, and left it by RESTORE before its turn, is converted, since
R76 lets the state at the turn decide, although its first bullet passes over a bay that has entered. -/
def State.nextPair (s : State) : State :=
  match s.scanner.pass with
  | none => s
  | some p =>
    if s.heldOff then s
    else match p.remaining.dropWhile fun b => (s.bay b).state = .outOfService with
      | [] => s.endPass
      | b :: rest =>
        { s with scanner := { s.scanner with
            pass := some { p with remaining := b :: rest }
            conversion := some { bay := b, phase := .settling, since := s.clock, filter := s.filterTime }
            discard := false } }

/-- R81: the scanner is starved. -/
def State.starved (s : State) : Bool := (s.scanner.pass.any fun p => !p.remaining.isEmpty) && s.heldOff

/-- R149: the stall timer starts when the scanner reports that it is starved while the timer is absent. -/
def State.noteStarved (s : State) : State :=
  if s.starved && s.latch.stallTimer.isNone then { s with latch := { s.latch with stallTimer := some s.clock } } else s

/-- R75: the skip value of a bay at a pass start. -/
def State.skipValue (s : State) (b : Nat) : Nat :=
  if (s.bay b).state.group = some .profile then (s.boundProfile b).skip else s.config.idleSkip

/-- R75: a bay is due where it is scanned and its counter is 0. -/
def State.isDue (s : State) (b : Nat) : Bool :=
  (s.bay b).state ≠ .outOfService && s.scanner.skip.getD b 0 = 0

/-- R75: a bay's skip counter after the pass start. -/
def State.skipAfter (s : State) (b : Nat) : Nat :=
  if (s.bay b).state = .outOfService then s.scanner.skip.getD b 0
  else if s.scanner.skip.getD b 0 = 0 then s.skipValue b
  else s.scanner.skip.getD b 0 - 1

/-- R74 to R76: a pass starts; one with no due bay ends at its start. -/
def State.startPass (s : State) : State :=
  let due := allBays.filter s.isDue
  let s := { s with scanner := { s.scanner with
      skip := Vector.ofFn fun b : Fin 48 => s.skipAfter b, pass := some { due := due, remaining := due } } }
  if due = [] then s.endPass else s.nextPair.noteStarved

/-- R77: an overrun. -/
def State.overrunPass (s : State) : State :=
  State.raiseBank { s with scanner := { s.scanner with overruns := countUp s.scanner.overruns } } .scanOverrun

/-- The pass with the bay whose turn has ended behind it. -/
def Pass.moveOn (p : Pass) : Pass := { p with remaining := p.remaining.drop 1 }

/-- R79: the end of a kept conversion: the sample is taken, or discarded where its bay has entered OUT_OF_SERVICE during the pair (R76); the
end is reported to the Latch Arbiter, and the pass goes on. -/
def State.endKept (s : State) (b code : Nat) : State :=
  let s := if s.scanner.discard then s else s.takeSample b code
  let s := { s with scanner := { s.scanner with pass := s.scanner.pass.map Pass.moveOn } }
  s.dropConversion.clearStall.nextPair

/-- PASS_PERIOD_EXPIRY (R74, R77): the pass timer has run down. -/
def execPassPeriodExpiry (t : Nat) (s : State) : Host.Outcome State Fault Refusal :=
  .next (s.whenRunningAt t fun s =>
    if s.scanner.passTimer = 0 then
      let s := { s with scanner := { s.scanner with passTimer := s.config.passPeriod } }
      if s.scanner.pass.isSome then s.overrunPass else s.startPass
    else s)

/-- SETTLING_CONVERSION_END (R79): its code is discarded and the kept conversion begins. -/
def execSettlingConversionEnd (t : Nat) (s : State) : Host.Outcome State Fault Refusal :=
  .next (s.whenRunningAt t fun s =>
    match s.scanner.conversion with
    | some c =>
      if c.phase = .settling ∧ s.elapsed c.since c.filter = true then
        { s with scanner := { s.scanner with conversion := some { c with phase := .kept, since := s.clock } } }
      else s
    | none => s)

/-- KEPT_CONVERSION_END (R79): the converter gives `code`. -/
def execKeptConversionEnd (code t : Nat) (s : State) : Host.Outcome State Fault Refusal :=
  nextIf (code < 1024) s (s.whenRunningAt t fun s =>
    match s.scanner.conversion with
    | some c => if c.phase = .kept ∧ s.elapsed c.since c.filter = true then s.endKept c.bay code else s
    | none => s)

end Sys2Proof.Machine
end

