-- ==== Sys2Proof/Machine/Latches.lean ====
section
/-! DEFINITION. Grants, pulses and the stall guard of the Latch Arbiter (8.4, 8.6). -/

namespace Sys2Proof.Machine

/-- The lowest-numbered channel not energised (R143). -/
def State.freeChannel (s : State) : Option Nat := (List.range 4).find? fun c => (s.latch.channels.getD c none).isNone

def State.setChannel (s : State) (c : Nat) (p : Option Pulse) : State :=
  { s with latch := { s.latch with channels := s.latch.channels.setIfInBounds c p } }

/-- The configured pulse length, in microseconds (R143, 11.8). -/
def State.pulseLength (s : State) : Nat := 10000 * s.config.pulseUnits

/-- R140, R141, R143: a pulse may be granted for door `d`, the door of the head of the queue. While a pulse runs for that door the head waits for
its end (R141), and so does the queue behind it: only the head is granted (R143): DESIGN CHOICE (log 37). -/
def State.mayGrant (s : State) (d : Nat) : Bool :=
  decide (s.energised < s.heater.budget.lmaxEff) && !s.latch.guard && !s.pulseRuns d

/-- R139: the position a record takes when a pulse of an action is granted. -/
def LatchAction.moving : LatchAction → LatchPosition
  | .lock => .locking
  | .unlock => .unlocking

/-- R143, R80: the head request is granted a pulse on a channel. The conversion in progress is abandoned. -/
def State.grantPulse (s : State) (r : LatchRequest) (c : Nat) : State :=
  let s := s.setLatchQueue s.latch.queue.tail
  let s := s.setLatchPosition r.door r.action.moving
  let s := s.setChannel c (some { door := r.door, action := r.action, startedAt := s.clock, length := s.pulseLength })
  s.dropConversion.noteStarved

/-- LATCH_GRANT (R143). -/
def execLatchGrant (t : Nat) (s : State) : Host.Outcome State Fault Refusal :=
  .next (s.whenRunningAt t fun s =>
    match s.latch.queue.head?, s.freeChannel with
    | some r, some c => if s.mayGrant r.door then s.grantPulse r c else s
    | _, _ => s)

/-- R80: when the last energised pulse has ended, the scanner goes on. -/
def State.resumeScanner (s : State) : State := if s.heldOff then s else s.nextPair

/-- R144: the end of an UNLOCK pulse. -/
def State.endUnlock (s : State) (c d : Nat) : State :=
  let s := s.setChannel c none
  let s := s.setLatchPosition d .unlocked
  (s.unlockCompletion d).resumeScanner

/-- R145: the end of a LOCK pulse on a closed door. -/
def State.lockSucceeds (s : State) (d : Nat) : State := s.setLatchPosition d .locked

/-- R145: the end of a LOCK pulse on an open door. -/
def State.lockFails (s : State) (d : Nat) : State :=
  let s := (s.setLatchPosition d .unlocked).setOpenAfterFailedLock d true
  let s := s.raiseBay (bayOfDoor d) (.lockFailed (sideOfDoor d))
  match s.pendingFor d with
  | some r => if r.action = .unlock then (s.dropRequest d).unlockCompletion d else s
  | none => s

/-- R145: the end of a LOCK pulse. -/
def State.endLock (s : State) (c d : Nat) : State :=
  let s := s.setChannel c none
  let s := if (s.door d).closed then s.lockSucceeds d else s.lockFails d
  s.resumeScanner

/-- A pulse of an action on a channel whose length has run. -/
def State.pulseOver (s : State) (c : Nat) (a : LatchAction) : Option Pulse :=
  match s.latch.channels.getD c none with
  | some p => if p.action = a ∧ s.elapsed p.startedAt p.length = true then some p else none
  | none => none

/-- UNLOCK_PULSE_END (R144). -/
def execUnlockPulseEnd (c t : Nat) (s : State) : Host.Outcome State Fault Refusal :=
  nextIf (c < 4) s (s.whenRunningAt t fun s =>
    match s.pulseOver c .unlock with
    | some p => s.endUnlock c p.door
    | none => s)

/-- LOCK_PULSE_END (R145). -/
def execLockPulseEnd (c t : Nat) (s : State) : Host.Outcome State Fault Refusal :=
  nextIf (c < 4) s (s.whenRunningAt t fun s =>
    match s.pulseOver c .lock with
    | some p => s.endLock c p.door
    | none => s)

/-- The stall timer's length (R149), in microseconds. -/
def stallLength : Nat := 2000000

/-- STALL_TIMER_EXPIRY (R149): the guard is engaged. -/
def execStallTimerExpiry (t : Nat) (s : State) : Host.Outcome State Fault Refusal :=
  .next (s.whenRunningAt t fun s =>
    match s.latch.stallTimer with
    | some since => if s.elapsed since stallLength then { s with latch := { s.latch with guard := true } } else s
    | none => s)

end Sys2Proof.Machine
end

