-- ==== Sys2Proof/Machine/Mains.lean ====
section
/-! DEFINITION. Heater Power Allocation (07): the Mains Monitor, the allocation at a window start, and the gates. -/

namespace Sys2Proof.Machine

/-! ### Allocation (7.4) -/

/-- The classes of R124. -/
inductive HeatClass where
  | recovery | preheat | maintain
  deriving DecidableEq, Repr

/-- R124: a bay that takes part in a window. -/
def State.eligible (s : State) (b : Nat) : Bool := (s.bay b).state.heating && s.doorsClosed b

/-- R124: a meal below its floor, or without a temperature. -/
def State.belowFloor (s : State) (b : Nat) : Bool :=
  match (s.bay b).lastTemp with
  | some t => decide (t < (s.boundProfile b).floor)
  | none => true

/-- R124: the class of an eligible bay. -/
def State.heatClass (s : State) (b : Nat) : HeatClass :=
  match (s.bay b).state with
  | .preheating => .preheat
  | .holding | .releasing => if s.belowFloor b then .recovery else .maintain
  | .ready | .vacant | .booked | .loading | .collecting | .withdrawn | .outOfService => .maintain

/-- R125: the bays from p on, wrapping from 47 to 0. -/
def rotated (p : Nat) : List Nat := allBays.map fun i => (p + i) % 48

/-- R125: the eligible bays of one class in the order they are taken. -/
def State.classOrder (s : State) (c : HeatClass) : List Nat :=
  (rotated s.heater.rotation).filter fun b => s.eligible b && s.heatClass b = c

/-- R125: the allocation order. -/
def State.allocationOrder (s : State) : List Nat :=
  s.classOrder .recovery ++ s.classOrder .preheat ++ s.classOrder .maintain

/-- R126, R127: grants laid end to end. `left` is R, `at'` the next position. -/
def State.layRuns (s : State) : List Nat → (left at' : Nat) → List HeaterRun
  | [], _, _ => []
  | b :: bs, left, at' =>
    let g := min (s.bay b).demand left
    if g = 0 then s.layRuns bs left at'
    else { bay := b, first := at', length := g, cut := false } :: s.layRuns bs (left - g) (at' + g)

/-- R123: the budget in effect at a window start. -/
def State.adoptBudget (s : State) : State :=
  if s.energised ≤ (budgetOf s.config).lmaxEff then { s with heater := { s.heater with budget := budgetOf s.config } } else s

/-- R127: a run covers a half-cycle: position n falls in half-cycle n mod 16. -/
def HeaterRun.covers (r : HeaterRun) (h : Nat) : Bool := decide ((h + 16 - r.first % 16) % 16 < r.length)

/-- R129: a bay is lit in a half-cycle. -/
def litIn (schedule : List HeaterRun) (h b : Nat) : Bool := schedule.any fun r => r.bay = b && !r.cut && r.covers h

/-- R129: the gates at the crossing that begins half-cycle `h`. -/
def State.beginHalfCycle (s : State) (h : Nat) : State :=
  { s with
      mains := { s.mains with position := some h }
      heater := { s.heater with gates := Vector.ofFn fun b : Fin 48 => litIn s.heater.schedule h b } }

/-- 7.4: a window starts: the budget, the schedule, half-cycle 0. -/
def State.startWindow (s : State) : State :=
  let s := s.adoptBudget
  let s := { s with heater := { s.heater with schedule := s.layRuns s.allocationOrder (16 * s.heater.budget.h) 0 } }
  s.beginHalfCycle 0

/-- R128: the rotation pointer runs on from 47 to 0. -/
def State.advanceRotation (s : State) : State := { s with heater := { s.heater with rotation := (s.heater.rotation + 1) % 48 } }

/-- R131: a window is abandoned. -/
def State.abandonWindow (s : State) : State :=
  { s with
      mains := { s.mains with position := none }
      heater := { s.heater with schedule := [], gates := Vector.replicate 48 false } }

/-! ### Crossings (7.1) -/

/-- The classes of a crossing (R115). -/
inductive CrossingClass where
  | noise | valid | late
  deriving DecidableEq, Repr

/-- R115: by the time since the last accepted crossing: below 7.0 ms, 7.0 to 12.0 ms, above. -/
def State.classify (s : State) : CrossingClass :=
  match s.mains.lastCrossing with
  | none => .late
  | some c => if s.clock - c < 7000 then .noise else if s.clock - c ≤ 12000 then .valid else .late

/-- R115: a crossing is accepted. -/
def State.acceptCrossing (s : State) : State :=
  { s with mains := { s.mains with lastCrossing := some s.clock, watch := true } }

/-- R116: an accepted crossing while ABSENT. -/
def State.settleCrossing (s : State) (valid : Bool) : State :=
  if valid then
    let s := { s with mains := { s.mains with settle := s.mains.settle + 1 } }
    if 8 ≤ s.mains.settle then (State.raiseBank { s with mains := { s.mains with present := true } } .mainsReturned).startWindow else s
  else { s with mains := { s.mains with settle := 0 } }

/-- R117: an accepted crossing while PRESENT. -/
def State.windowCrossing (s : State) (valid : Bool) : State :=
  if valid then
    match s.mains.position with
    | none => s.startWindow
    | some h => if h < 15 then s.beginHalfCycle (h + 1) else s.advanceRotation.startWindow
  else s.abandonWindow

/-- R115 to R117: a crossing at the present moment. -/
def State.takeCrossing (s : State) : State :=
  match s.classify with
  | .noise => s
  | .valid => if s.mains.present then s.acceptCrossing.windowCrossing true else s.acceptCrossing.settleCrossing true
  | .late => if s.mains.present then s.acceptCrossing.windowCrossing false else s.acceptCrossing.settleCrossing false

/-- The absence watch (R115, R118), in microseconds. -/
def absenceTime : Nat := 25000

/-- R118: the absence watch expires. -/
def State.loseMains (s : State) : State :=
  let wasPresent := s.mains.present
  let s := { s with mains := { s.mains with present := false, settle := 0, watch := false } }
  if wasPresent then s.abandonWindow.raiseBank .mainsLost else s

/-- ZC_CROSSING (R115 to R117). -/
def execZcCrossing (t : Nat) (s : State) : Host.Outcome State Fault Refusal :=
  .next (s.whenRunningAt t State.takeCrossing)

/-- ABSENCE_WATCH_EXPIRY (R118). -/
def execAbsenceWatchExpiry (t : Nat) (s : State) : Host.Outcome State Fault Refusal :=
  .next (s.whenRunningAt t fun s =>
    match s.mains.lastCrossing with
    | some c => if s.mains.watch && s.elapsed c absenceTime then s.loseMains else s
    | none => s)

end Sys2Proof.Machine
end

