-- ==== Sys2Proof/Machine/Dispatch.lean ====
section
/-! DEFINITION. The dispatch: one arm per command, each one call of its meaning. -/

namespace Sys2Proof.Machine

def exec (i : Instr) (s : State) : Host.Outcome State Fault Refusal :=
  match i with
  | .book orderRef code slots loadOffset => Sys2Proof.Machine.execBook orderRef code slots loadOffset s
  | .amendNewCode orderRef value => Sys2Proof.Machine.execAmendNewCode orderRef value s
  | .amendExtend orderRef value => Sys2Proof.Machine.execAmendExtend orderRef value s
  | .amendNewLoad orderRef value => Sys2Proof.Machine.execAmendNewLoad orderRef value s
  | .cancel orderRef => Sys2Proof.Machine.execCancel orderRef s
  | .load orderRef bay force => Sys2Proof.Machine.execLoad orderRef bay force s
  | .clear bay => Sys2Proof.Machine.execClear bay s
  | .openOrder keyKind key => Sys2Proof.Machine.execOpenOrder keyKind key s
  | .lockout bay => Sys2Proof.Machine.execLockout bay s
  | .restore bay => Sys2Proof.Machine.execRestore bay s
  | .query keyKind key => Sys2Proof.Machine.execQuery keyKind key s
  | .scan startOption startCode => Sys2Proof.Machine.execScan startOption startCode s
  | .status clearOption => Sys2Proof.Machine.execStatus clearOption s
  | .configure record => Sys2Proof.Machine.execConfigure record s
  | .profileWrite slot record => Sys2Proof.Machine.execProfileWrite slot record s
  | .profileRead slot => Sys2Proof.Machine.execProfileRead slot s
  | .restart broadcast option => Sys2Proof.Machine.execRestart broadcast option s
  | .unknownCommand command => Sys2Proof.Machine.execUnknownCommand command s
  | .linkAddressCharacter address t => Sys2Proof.Machine.execLinkAddressCharacter address t s
  | .linkDataCharacter data stopBit t => Sys2Proof.Machine.execLinkDataCharacter data stopBit t s
  | .frameEnd data stopBit t => Sys2Proof.Machine.execFrameEnd data stopBit t s
  | .frameGapTimeout t => Sys2Proof.Machine.execFrameGapTimeout t s
  | .replySend t => Sys2Proof.Machine.execReplySend t s
  | .replyDone t => Sys2Proof.Machine.execReplyDone t s
  | .powerOn => Sys2Proof.Machine.execPowerOn s
  | .resetnLow moment => Sys2Proof.Machine.execResetnLow moment s
  | .resetnRelease => Sys2Proof.Machine.execResetnRelease s
  | .kioskCharacter line data stopBit => Sys2Proof.Machine.execKioskCharacter line data stopBit s
  | .kioskEntry line => Sys2Proof.Machine.execKioskEntry line s
  | .kioskFrameTimeout line => Sys2Proof.Machine.execKioskFrameTimeout line s
  | .kioskReplyDone line => Sys2Proof.Machine.execKioskReplyDone line s
  | .doorSwitchChange door closed t => Sys2Proof.Machine.execDoorSwitchChange door closed t s
  | .doorOpened door t => Sys2Proof.Machine.execDoorOpened door t s
  | .doorClosed door t => Sys2Proof.Machine.execDoorClosed door t s
  | .doorAlarmExpiry door => Sys2Proof.Machine.execDoorAlarmExpiry door s
  | .latchGrant t => Sys2Proof.Machine.execLatchGrant t s
  | .unlockPulseEnd channel t => Sys2Proof.Machine.execUnlockPulseEnd channel t s
  | .lockPulseEnd channel t => Sys2Proof.Machine.execLockPulseEnd channel t s
  | .stallTimerExpiry t => Sys2Proof.Machine.execStallTimerExpiry t s
  | .passPeriodExpiry t => Sys2Proof.Machine.execPassPeriodExpiry t s
  | .settlingConversionEnd t => Sys2Proof.Machine.execSettlingConversionEnd t s
  | .keptConversionEnd code t => Sys2Proof.Machine.execKeptConversionEnd code t s
  | .zcCrossing t => Sys2Proof.Machine.execZcCrossing t s
  | .absenceWatchExpiry t => Sys2Proof.Machine.execAbsenceWatchExpiry t s
  | .preheatStartExpiry bay => Sys2Proof.Machine.execPreheatStartExpiry bay s
  | .lapseExpiry bay => Sys2Proof.Machine.execLapseExpiry bay s
  | .loadWindowExpiry bay => Sys2Proof.Machine.execLoadWindowExpiry bay s
  | .deadlineExpiry bay => Sys2Proof.Machine.execDeadlineExpiry bay s
  | .releaseTimerExpiry bay => Sys2Proof.Machine.execReleaseTimerExpiry bay s
  | .clearingWindowExpiry bay => Sys2Proof.Machine.execClearingWindowExpiry bay s
  | .storeWriteComplete t => Sys2Proof.Machine.execStoreWriteComplete t s
  | .bankTimeTick => Sys2Proof.Machine.execBankTimeTick s
  | .lossOfVdd moment => Sys2Proof.Machine.execLossOfVdd moment s
  | .lossOfVret => Sys2Proof.Machine.execLossOfVret s

end Sys2Proof.Machine
end

