-- ==== Sys2Proof/Safety.lean ====
section
/-! DEFINITION. What counts as a safe state, and the vocabulary of the statements: the invariants that every step keeps, the link at
rest, and the frames of a step. -/

namespace Sys2Proof.Machine

/-! ### Invariants -/

/-- A bay state with a meal's deficits (R1, R105). -/
def BayState.holdsDeficits : BayState → Bool
  | .holding | .releasing | .collecting | .withdrawn => true
  | .vacant | .booked | .preheating | .ready | .loading | .outOfService => false

/-- A bay state outside the directory (R25). -/
def BayState.resting : BayState → Bool
  | .vacant | .outOfService => true
  | .booked | .preheating | .ready | .loading | .holding | .releasing | .collecting | .withdrawn => false

/-- R1, R4, R89, R105: the figures of one bay record in their ranges, and 0 where they must be. -/
structure Bay.InRange (r : Bay) : Prop where
  streak : r.faultStreak ≤ 3
  demand : r.demand ≤ 16
  unheated : r.state.heating = false → r.demand = 0
  cold : r.qCold ≤ 16777215
  hot : r.qHot ≤ 16777215
  uncharged : r.state.holdsDeficits = false → r.qCold = 0 ∧ r.qHot = 0

/-- Every bay record is in range. -/
def State.RecordsInRange (s : State) : Prop := ∀ b < 48, (s.bay b).InRange

/-- R24: the entries stand in strictly ascending order of code, with no order reference twice, each of 1 to 4 bays in ascending order,
and with codes and references in their ranges (R23). -/
structure Directory.Ordered (d : Directory) : Prop where
  ascending : d.entries.Pairwise fun e f => e.code < f.code
  references : d.entries.Pairwise fun e f => e.orderRef ≠ f.orderRef
  bays : ∀ e ∈ d.entries, e.bays ≠ [] ∧ e.bays.length ≤ 4 ∧ e.bays.Pairwise (· < ·) ∧ ∀ b ∈ e.bays, b < 48
  fields : ∀ e ∈ d.entries, e.code ≤ 999999 ∧ 0 < e.orderRef

/-- R24, R25: the directory is ordered; a bay's entry field names the entry that lists it, and only then; the states BOOKED to COLLECTING
belong to an entry and VACANT and OUT_OF_SERVICE to none. -/
structure State.DirectoryAgrees (s : State) : Prop where
  ordered : s.directory.Ordered
  members : ∀ b < 48, ∀ code, (s.bay b).entry = some code ↔ ∃ e ∈ s.directory.entries, e.code = code ∧ b ∈ e.bays
  resting : ∀ b < 48, (s.bay b).state.resting = true → (s.bay b).entry = none
  live : ∀ b < 48, (s.bay b).state.resting = false → (s.bay b).state ≠ .withdrawn → (s.bay b).entry ≠ none

/-- The heater gates driven on. -/
def State.litGates (s : State) : Nat := s.heater.gates.toList.countP id

/-- The bays that the schedule lights in a half-cycle. -/
def State.litIn (s : State) (h : Nat) : Nat := allBays.countP (Machine.litIn s.heater.schedule h)

/-- R122, R123, R127, R143: the shares of the budget in effect fit it; the pulses keep to the latch share; the schedule and the gates to
the heater share. -/
structure State.WithinBudget (s : State) : Prop where
  shares : s.heater.budget.lmaxEff + s.heater.budget.h ≤ s.heater.budget.b
  pulses : s.energised ≤ s.heater.budget.lmaxEff
  schedule : ∀ h < 16, s.litIn h ≤ s.heater.budget.h
  gates : s.litGates ≤ s.heater.budget.h

/-- A bay that may be heated: in a heating state with both doors closed. -/
def State.mayHeat (s : State) (b : Nat) : Bool := (s.bay b).state.heating && s.doorsClosed b

/-- R129, R130, R131: a gate is on, and a run uncut, only for a bay in a heating state with both doors closed, and while mains is
present. -/
structure State.GatesSafe (s : State) : Prop where
  gates : ∀ b < 48, s.heater.gates.getD b false = true → s.mayHeat b = true ∧ s.mains.present = true
  runs : ∀ r ∈ s.heater.schedule, r.cut = false → s.mayHeat r.bay = true
  absent : s.mains.present = false → s.heater.schedule = []

/-- R140: the request queue in order of class and then arrival, at most one request for each door, every arrival used once and already
given out. -/
structure State.QueueOrdered (s : State) : Prop where
  order : s.latch.queue.Pairwise fun a b => a.precedes b = true
  doors : s.latch.queue.Pairwise fun a b => a.door ≠ b.door
  arrivals : s.latch.queue.Pairwise fun a b => a.arrival ≠ b.arrival
  given : ∀ r ∈ s.latch.queue, r.arrival < s.latch.nextArrival

/-- A pulse of an action runs for door `d`. -/
def State.Drives (s : State) (d : Nat) (a : LatchAction) : Prop :=
  ∃ c < 4, ∃ p, s.latch.channels.getD c none = some p ∧ p.door = d ∧ p.action = a

/-- R139, R140: a record stands UNLOCKING or LOCKING exactly while a pulse of that action runs for its door; no door has two pulses; a pending
request wants the side opposite its record's; pulses and requests are for doors of the part. -/
structure State.LatchesAgree (s : State) : Prop where
  moving : ∀ d < 96, (s.latchPosition d = .locking ↔ s.Drives d .lock) ∧ (s.latchPosition d = .unlocking ↔ s.Drives d .unlock)
  single : ∀ c < 4, ∀ c' < 4, ∀ p p', s.latch.channels.getD c none = some p → s.latch.channels.getD c' none = some p' →
    p.door = p'.door → c = c'
  opposite : ∀ r ∈ s.latch.queue, r.action ≠ (s.latchPosition r.door).side
  doors : (∀ r ∈ s.latch.queue, r.door < 96) ∧ ∀ c < 4, ∀ p, s.latch.channels.getD c none = some p → p.door < 96

/-- R139: while the part runs and its records stand, a front latch is on the unlocked side only while its bay is RELEASING or COLLECTING, or a
LOCK is pending for it, or its door is open after a failed lock. A front UNLOCK is pending only for such a bay, and a door open
after a failed lock is open. -/
structure State.FrontsReturned (s : State) : Prop where
  unlocked : ∀ b < 48, (s.latchPosition (2 * b)).side = .unlock →
    (s.bay b).state = .releasing ∨ (s.bay b).state = .collecting ∨
      (∃ r ∈ s.latch.queue, r.door = 2 * b ∧ r.action = .lock) ∨ (s.latchRecord (2 * b)).openAfterFailedLock = true
  waiting : ∀ b < 48, ∀ r ∈ s.latch.queue, r.door = 2 * b → r.action = .unlock →
    (s.bay b).state = .releasing ∨ (s.bay b).state = .collecting
  failed : ∀ d < 96, (s.latchRecord d).openAfterFailedLock = true → (s.door d).closed = false

/-- The part runs, and its records have not been lost with VRET (R205). -/
def State.sound (s : State) : Bool := s.running && s.retentionAgrees

/-- The counts in their ranges: bank time (00 Conventions), the generation (R33), the overrun count (R77), the rotation pointer (R128),
the settle count and the half-cycle position (7.1), the command queue (R188) and the link's counters (R193), the entry buffers and
failure lists of the kiosk lines (R153). -/
structure State.CountsInRange (s : State) : Prop where
  bankTime : s.bankTime ≤ 4294967295
  generation : s.directory.generation ≤ 65535
  overruns : s.scanner.overruns ≤ 65535
  rotation : s.heater.rotation < 48
  settle : s.mains.settle ≤ 8 ∧ (s.mains.present = false → s.mains.settle < 8)
  position : ∀ h, s.mains.position = some h → h < 16
  frames : s.link.queue.length ≤ 4
  counters : s.link.truncatedCount ≤ 65535 ∧ s.link.crcCount ≤ 65535 ∧ s.link.discardedCount ≤ 65535 ∧ s.link.broadcastCount ≤ 65535
  kiosks : ∀ l, (s.port l).digits.length ≤ 6 ∧ (s.port l).failures.length ≤ 5

/-! ### The link at rest -/

/-- The bank takes a server frame at once: it runs and is not transmitting, no frame waits, none is being received, and the bank has an
address (R185, R188 to R190). -/
structure State.AtRest (s : State) : Prop where
  running : s.running = true
  silent : s.link.sending = none
  empty : s.link.queue = []
  asleep : s.link.receiver.phase = .asleep
  addressed : s.link.address ≠ 0

/-- The link once a command from the server has been carried out at once: the frame in the queue, its reply waiting (R189, R190). -/
def State.answeredLink (s : State) (c : Command) (r : Result) (data : List Byte) : OrderLink :=
  { s.link with
      lastCharacter := some s.clock, queue := [{ broadcast := false, command := c }]
      reply := some { command := Command.byte c, result := r, data := data } }

/-- The state with the link answered: the whole effect of a refusal (R189). -/
def State.served (s : State) (c : Command) (r : Result) (data : List Byte) : State := { s with link := s.answeredLink c r data }

/-- The command a server row's addressed frame carries. -/
def Instr.serverCommand : Instr → Option Command
  | .book r c ss o => some (.book r c ss o)
  | .amendNewCode r v => some (.amend r 0 v)
  | .amendExtend r v => some (.amend r 1 v)
  | .amendNewLoad r v => some (.amend r 2 v)
  | .cancel r => some (.cancel r)
  | .load r b f => some (.load r b f)
  | .clear b => some (.clear b)
  | .openOrder k v => some (.openOrder k v)
  | .lockout b => some (.lockout b)
  | .restore b => some (.restore b)
  | .query k v => some (.query k v)
  | .scan o c => some (.scan o c)
  | .status o => some (.status o)
  | .configure bs => some (.configure bs)
  | .profileWrite n bs => some (.profileWrite n bs)
  | .profileRead n => some (.profileRead n)
  | .restart false o => some (.restart o)
  | .unknownCommand c => some (.unknown c)
  | .restart true _ => none
  | .linkAddressCharacter _ _ | .linkDataCharacter _ _ _ | .frameEnd _ _ _ | .frameGapTimeout _ | .replySend _ | .replyDone _
  | .powerOn | .resetnLow _ | .resetnRelease | .kioskCharacter _ _ _ | .kioskEntry _ | .kioskFrameTimeout _ | .kioskReplyDone _
  | .doorSwitchChange _ _ _ | .doorOpened _ _ | .doorClosed _ _ | .doorAlarmExpiry _ | .latchGrant _ | .unlockPulseEnd _ _
  | .lockPulseEnd _ _ | .stallTimerExpiry _ | .passPeriodExpiry _ | .settlingConversionEnd _ | .keptConversionEnd _ _
  | .zcCrossing _ | .absenceWatchExpiry _ | .preheatStartExpiry _ | .lapseExpiry _ | .loadWindowExpiry _ | .deadlineExpiry _
  | .releaseTimerExpiry _ | .clearingWindowExpiry _ | .storeWriteComplete _ | .bankTimeTick | .lossOfVdd _ | .lossOfVret => none

/-- Several commands, one after another, while each answers a next state. -/
def execAll : List Instr → State → Host.Outcome State Fault Refusal
  | [], s => .next s
  | i :: is, s => match exec i s with
    | .next t => execAll is t
    | .fault f => .fault f
    | .refused r => .refused r

/-! ### Frames -/

/-- Nothing changes but what a course of bays touches: bay records, their notice sets, the directory, the rounds in progress, the mark on the
conversion in progress, the runs and gates of the window in progress, the queue of latch requests. -/
def BaysOnly (s t : State) : Prop :=
  t = { s with
    bays := t.bays, bayNotices := t.bayNotices, directory := t.directory
    scanner := { s.scanner with rounds := t.scanner.rounds, discard := t.scanner.discard }
    heater := { s.heater with schedule := t.heater.schedule, gates := t.heater.gates }
    latch := { s.latch with queue := t.latch.queue, nextArrival := t.latch.nextArrival } }

/-- Nothing of a bay, its notices, its round, its heater run or its latch requests changes. -/
structure BayKept (s t : State) (b : Nat) : Prop where
  record : t.bay b = s.bay b
  notices : t.notices b = s.notices b
  round : t.scanner.rounds.getD b none = s.scanner.rounds.getD b none
  gate : t.heater.gates.getD b false = s.heater.gates.getD b false
  run : (t.heater.schedule.filter fun r => r.bay = b) = s.heater.schedule.filter fun r => r.bay = b
  requests : (t.latch.queue.filter fun r => bayOfDoor r.door = b) = s.latch.queue.filter fun r => bayOfDoor r.door = b

/-- Only the bays of a list are touched, and nothing outside a course of bays. -/
def OnlyBays (s t : State) (bs : List Nat) : Prop :=
  BaysOnly s t ∧ (∀ b, b ∉ bs → BayKept s t b) ∧
    ((∀ c, s.scanner.conversion = some c → c.bay ∉ bs) → t.scanner.discard = s.scanner.discard)

/-- A bay's course has ended: it is VACANT, or OUT_OF_SERVICE by R7, with its record emptied as R8 or R9 gives, and it has left its entry
(R30). -/
structure Retired (s t : State) (b : Nat) : Prop where
  record : t.bay b =
    { state := if (s.bay b).draining || (s.bay b).sensorFault then .outOfService else .vacant
      entry := none, profile := none, expectedLoad := none, preheatStart := none, lapseAt := none, loadTime := none, deadline := none
      extUsed := none, qCold := 0, qHot := 0, lastTemp := none, lastRound := (s.bay b).lastRound, restartPenaltyPending := 0
      faultStreak := (s.bay b).faultStreak, demand := 0, withdrawReason := none
      oosReason := if (s.bay b).draining then some .lockout else if (s.bay b).sensorFault then some .sensor else none
      draining := false, sensorFault := (s.bay b).sensorFault
      clearing := (s.bay b).clearing, rearOpened := false
      timer := if (s.bay b).clearing then (s.bay b).timer else none }
  directory : t.directory = match (s.bay b).entry with
    | some code => s.directory.removeBay code b
    | none => s.directory

/-- A bay has entered WITHDRAWN for a reason (R171). -/
structure Withdrawn (s t : State) (b : Nat) (why : WithdrawReason) : Prop where
  record : t.bay b = { s.bay b with
    state := .withdrawn, withdrawReason := some why, expectedLoad := none, lapseAt := none, restartPenaltyPending := 0, demand := 0
    timer := none, rearOpened := false }
  notice : t.notices b = { s.notices b with withdrawn := some why }
  round : t.scanner.rounds.getD b none = none
  gate : t.heater.gates.getD b false = false
  run : ∀ r ∈ t.heater.schedule, r.bay = b → r.cut = true
  directory : t.directory = s.directory

/-- R168: the front latch of a bay withdrawn from RELEASING is returned. Against a LOCKING record, which R168's table does not list, the waiting
UNLOCK is withdrawn: the model's reading (log 18). -/
structure FrontReturned (s t : State) (b : Nat) : Prop where
  locked : s.latchPosition (2 * b) = .locked ∨ s.latchPosition (2 * b) = .locking →
    t.latch = (s.withdrawRequest (2 * b) .unlock).latch
  unlocked : s.latchPosition (2 * b) = .unlocked ∨ s.latchPosition (2 * b) = .unlocking → t.latch = (s.requestLock (2 * b)).latch

/-- The contents of Retention Memory are the same (R205). -/
structure SameRetained (s t : State) : Prop where
  bankTime : t.bankTime = s.bankTime
  bays : t.bays = s.bays
  lockedOut : t.lockedOut = s.lockedOut
  directory : t.directory = s.directory
  bankNotices : t.bankNotices = s.bankNotices
  bayNotices : t.bayNotices = s.bayNotices

/-- The rows that begin or stop a run of the part: the supplies and RESETN. -/
def Instr.isSupply : Instr → Bool
  | .powerOn | .resetnLow _ | .resetnRelease | .lossOfVdd _ | .lossOfVret => true
  | _ => false

/-! ### Booking (03) -/

/-- R41: a bay is a candidate for BOOK. -/
structure IsCandidate (s : State) (b : Nat) : Prop where
  exists' : b < 48
  vacant : (s.bay b).state = .vacant
  inUse : s.lockedOut.getD (b / 4) false = false
  clearing : (s.bay b).clearing = false
  closed : (s.door (2 * b)).closed = true ∧ (s.door (2 * b + 1)).closed = true
  locked : s.latchPosition (2 * b) = .locked ∧ s.latchPosition (2 * b + 1) = .locked
  quiet : ∀ r ∈ s.latch.queue, r.door ≠ 2 * b ∧ r.door ≠ 2 * b + 1

/-- A list holds the `k` lowest numbers with a property, in ascending order. -/
structure LowestOf (p : Nat → Prop) (k : Nat) (l : List Nat) : Prop where
  length : l.length = k
  ascending : l.Pairwise (· < ·)
  members : ∀ b ∈ l, p b
  lowest : ∀ c, p c → c ∉ l → ∀ b ∈ l, b < c

/-- R39 and checks 1 to 4 of R40: a BOOK that only the want of bays can refuse. -/
structure BookPasses (s : State) (ref code : Nat) (slots : List Nat) (offset : Nat) : Prop where
  reference : 0 < ref ∧ ref < 4294967296
  codeRange : code ≤ 999999
  meals : 1 ≤ slots.length ∧ slots.length ≤ 4
  slots : ∀ n ∈ slots, n ≤ 15 ∧ s.slotCondition n = .inService ∧ s.slotBeingWritten n = false
  offset : offset ≤ 7200
  orderFree : s.findOrder ref = none
  codeFree : s.findCode code = none

/-! ### Rounds (5.4) -/

/-- The round in progress after a list of samples (R85). -/
def gather (l : List Int) : Option Samples := l.foldl (fun a t => some (addSample t a)) none

/-- R86: the temperature of a round of the samples `t :: l`. -/
def reduced (m : RoundMode) (t : Int) (l : List Int) : Int :=
  match m with
  | .first => t
  | .min => l.foldl min t
  | .max => l.foldl max t
  | .mean => (2 * (t + l.sum) + (l.length + 1 : Nat)) / (2 * (l.length + 1 : Nat))

/-! ### Hold accounting (6.2, 6.3) -/

/-- R97, R98: the elapsed interval of a round of a held bay. -/
def elapsedInterval (r : Bay) (now : Nat) : Nat :=
  min (now - max (r.lastRound.getD 0) (r.loadTime.getD 0) + r.restartPenaltyPending) 6000

/-- R102: a deficit is at its limit. -/
def atLimit (q qmax : Nat) : Prop := 0 < qmax ∧ qmax ≤ q

/-! ### Heating (07) -/

/-- R124: the rank of an eligible bay's class. -/
def heatRank (s : State) (b : Nat) : Nat :=
  if (s.bay b).state = .preheating then 1
  else if (s.bay b).state = .ready then 2
  else match (s.bay b).lastTemp with
    | some t => if t < (s.boundProfile b).floor then 0 else 2
    | none => 0

/-- The units a schedule grants a bay. -/
def grantTo (schedule : List HeaterRun) (b : Nat) : Nat := ((schedule.filter fun r => r.bay = b).map HeaterRun.length).sum

end Sys2Proof.Machine
end

