-- ==== Sys2Proof/Certificates/Slice0/Obligations.lean ====
section
/-! DEFINITION. The statements for the provers: what the commands and the block do, family by family in the order of the spec's chapters.
Where a statement gives a next state as an equation with its own fields (`t = { s with bays := t.bays, … }`), that equation is its
frame: every field not named keeps its value. Two choices of the model stand behind many of them: the row of a server command is the
arrival of one whole good frame at a link at rest (log 1), and an event that is not due, or cannot happen, changes nothing
but the clock it carries (log 4, log 5). -/

open Sys2Proof Sys2Proof.Machine

/-! ### The step, the reset and the invariants -/

/-- The step takes the command at the front of the queue (this row's form), and idles on an empty one while no start is in progress (log 6). -/
def Obligations.StepRunsFrontCommand : Prop :=
  (∀ (s : State) (c : Instr) (rest : List Instr), s.pending = c :: rest → step s = exec c { s with pending := rest }) ∧
  (∀ s : State, s.pending = [] → s.starting = none → step s = .next s)

/-- R20, R38: the values a cold start gives, and the eight invariants at reset. That `State.reset` is the end of a cold start is the model's
choice (log 8). -/
def Obligations.ResetIsAColdStart : Prop :=
  (State.reset.bankTime = 0 ∧ State.reset.directory = { entries := [], generation := 0 } ∧
   (∀ b < 48, State.reset.bay b = Bay.empty ∧ State.reset.notices b = BayNotices.empty) ∧
   (∀ m < 12, State.reset.lockedOut.getD m true = false) ∧
   State.reset.bankNotices = { BankNotices.empty with coldStart := true } ∧ State.reset.attn = true) ∧
  (State.reset.RecordsInRange ∧ State.reset.DirectoryAgrees ∧ State.reset.WithinBudget ∧ State.reset.GatesSafe ∧
     State.reset.QueueOrdered ∧ State.reset.LatchesAgree ∧ State.reset.FrontsReturned ∧ State.reset.CountsInRange)

/-- R1, R4, R89, R105: every step keeps the figures of the bay records in their ranges, while what Retention Memory holds has not been lost: what a
loss of VRET leaves there is a free value (log 13). -/
def Obligations.RecordInvariantKept : Prop :=
  ∀ s t : State, (s.retentionAgrees = true → s.RecordsInRange) → step s = .next t → t.retentionAgrees = true → t.RecordsInRange

/-- R24, R25: every step keeps the directory ordered and in agreement with the bay records, while what Retention Memory holds has not been lost
(log 13). -/
def Obligations.DirectoryInvariantKept : Prop :=
  ∀ s t : State, (s.retentionAgrees = true → s.DirectoryAgrees) → step s = .next t → t.retentionAgrees = true → t.DirectoryAgrees

/-- R122: every step keeps lit gates within H and pulses within Lmax_eff, in the half-cycle in progress and in the rest of the window, so
that together they stay within B. -/
def Obligations.BudgetInvariantKept : Prop :=
  ∀ s t : State, s.WithinBudget → step s = .next t → t.WithinBudget ∧ t.litGates + t.energised ≤ t.heater.budget.b

/-- R129: a heater gate is off whenever its bay is in no heating state, either of its doors is open, or mains is absent, while what Retention Memory
holds has not been lost (log 13). -/
def Obligations.GateInvariantKept : Prop :=
  ∀ s t : State, (s.retentionAgrees = true → s.GatesSafe) → step s = .next t → t.retentionAgrees = true → t.GatesSafe

/-- R139, R140: every step keeps the latch invariants. The queue of requests stays ordered, with at most one request for each door; a record stands
UNLOCKING or LOCKING exactly while a pulse of that action runs for its door, at most one pulse runs for each door, and a pending
request wants the other side (that a head whose door has a pulse waits for its end: log 37); and a front latch stays unlocked only for a bay
RELEASING or COLLECTING, a pending LOCK, or a door open after a failed lock (R139's last sentences; that the end of a collection
withdraws a waiting UNLOCK: log 21), while the part runs and its records have not been lost (log 13). -/
def Obligations.QueueInvariantKept : Prop :=
  ∀ s t : State, s.QueueOrdered → step s = .next t →
    t.QueueOrdered ∧
    (s.LatchesAgree → t.LatchesAgree ∧
      ((s.sound = true → s.FrontsReturned) → t.sound = true → t.FrontsReturned))

/-- The counts stay in their ranges. -/
def Obligations.CountInvariantKept : Prop :=
  ∀ s t : State, s.CountsInRange → step s = .next t → t.CountsInRange

/-! ### The Order Link (11) -/

/-- R184 to R187: the characters of a server command's frame, one after another, do what the command's own row does. That the row stands
for the arrival of the whole frame is the model's reading (log 1). -/
def Obligations.CharactersMakeTheCommand : Prop :=
  ∀ (s : State) (i : Instr) (c : Command), i.wellFormed = true → Instr.serverCommand i = some c → s.AtRest →
    s.link.receiver = Receiver.asleep → s.link.address ≤ 31 →
    execAll (.linkAddressCharacter (byteOf s.link.address) s.clock ::
      (frameOf (Command.bytes c)).map fun data => .linkDataCharacter data true s.clock) s = exec i s

/-- R189: "A refused command changes nothing." -/
def Obligations.RefusedCommandChangesNothing : Prop :=
  ∀ (s : State) (c : Command), (carryOut s c).result ≠ .done → (carryOut s c).state = s

/-- R184, R185, R186, R190: what an address character, a data character and a gap of 5 ms do in each state of the receiver. A frame longer
than 59 stores only its length and command byte. A character that ends while LDE is high, before the last stop bit of a reply ends, is not
received; one that ends with that stop bit or later is (R188's race, log 40). -/
def Obligations.CharactersFillTheFrame : Prop :=
  (∀ (s : State) (t : Nat), s.running = true →
     (∀ a : Byte, (∀ e, s.link.sending = some e → e ≤ max s.clock t) →
       exec (.linkAddressCharacter a t) s = .next { s with
         clock := max s.clock t
         link := { s.link with
           lastCharacter := some (max s.clock t)
           receiver :=
             { phase := if a = 0 ∨ a.toNat = s.link.address then .receiving else .asleep, broadcast := decide (a = 0)
               declared := none, expected := 0, crc := 0xFFFF, corrupt := false, buffer := [], crcHigh := 0 }
           truncated := s.link.truncated || decide (s.link.receiver.phase ≠ .asleep)
           truncatedCount :=
             if s.link.receiver.phase = .asleep then s.link.truncatedCount else min (s.link.truncatedCount + 1) 65535 } }) ∧
     (∀ c : Nat, s.link.lastCharacter = some c → c + 5000 ≤ max s.clock t → s.link.receiver.phase ≠ .asleep →
       exec (.frameGapTimeout t) s = .next { s with
         clock := max s.clock t
         link := { s.link with
           receiver := Receiver.asleep, truncated := true, truncatedCount := min (s.link.truncatedCount + 1) 65535 } }) ∧
     (∀ c : Nat, s.link.lastCharacter = some c → max s.clock t < c + 5000 →
       exec (.frameGapTimeout t) s = .next { s with clock := max s.clock t })) ∧
  (∀ (s : State) (data : Byte) (stop : Bool) (t e : Nat), s.running = true → s.link.sending = some e → max s.clock t < e →
     exec (.linkAddressCharacter data t) s = .next { s with clock := max s.clock t } ∧
     exec (.linkDataCharacter data stop t) s = .next { s with clock := max s.clock t } ∧
     exec (.frameEnd data stop t) s = .next { s with clock := max s.clock t }) ∧
  (∀ (s : State) (data : Byte) (stop : Bool) (t : Nat), s.running = true →
     (∀ e, s.link.sending = some e → e ≤ max s.clock t) →
     let now := max s.clock t
     let r := s.link.receiver
     (r.phase = .asleep →
       exec (.linkDataCharacter data stop t) s =
         .next { s with clock := now, link := { s.link with lastCharacter := some now } }) ∧
     (r.phase ≠ .asleep → r.declared = none →
       exec (.linkDataCharacter data stop t) s = .next { s with
         clock := now
         link := { s.link with
           lastCharacter := some now
           receiver := { r with
             phase := if data.toNat ≤ 59 then .receiving else .counting, declared := some data.toNat, expected := data.toNat + 2
             crc := crcByte r.crc data, corrupt := r.corrupt || !stop, buffer := [data] } } }) ∧
     (∀ l : Nat, r.phase = .receiving → r.declared = some l → 2 < r.expected →
       exec (.linkDataCharacter data stop t) s = .next { s with
         clock := now
         link := { s.link with
           lastCharacter := some now
           receiver := { r with
             expected := r.expected - 1, crc := crcByte r.crc data, corrupt := r.corrupt || !stop
             buffer := r.buffer ++ [data] } } }) ∧
     (∀ l : Nat, r.phase = .counting → r.declared = some l → 2 < r.expected →
       exec (.linkDataCharacter data stop t) s = .next { s with
         clock := now
         link := { s.link with
           lastCharacter := some now
           receiver := { r with
             expected := r.expected - 1, crc := crcByte r.crc data, corrupt := r.corrupt || !stop
             buffer := if r.expected = l + 2 then r.buffer ++ [data] else r.buffer } } }) ∧
     (∀ l : Nat, r.phase ≠ .asleep → r.declared = some l → r.expected = 2 →
       exec (.linkDataCharacter data stop t) s = .next { s with
         clock := now
         link := { s.link with
           lastCharacter := some now
           receiver := { r with
             expected := 1, crcHigh := data, corrupt := r.corrupt || !stop
             buffer := if r.phase = .receiving then r.buffer ++ [data] else r.buffer } } }))

/-- R187 to R189, R191, R192: how a frame is judged at its second CRC byte: damaged; broadcast and no RESTART; a broadcast RESTART or an addressed
frame, which joins the queue and in an empty one is carried out at once; or offered to a full queue, also where the reply of its head
has just ended and the head has not left yet (R188's race, log 40). RDY is low with four frames in the queue. -/
def Obligations.FrameJudgedAtItsEnd : Prop :=
  ∀ (s : State) (low : Byte) (stop : Bool) (t l : Nat), s.running = true → (∀ e, s.link.sending = some e → e ≤ max s.clock t) →
    s.link.receiver.phase ≠ .asleep → s.link.receiver.declared = some l → s.link.receiver.expected = 1 →
    let now := max s.clock t
    let r := s.link.receiver
    let good := !r.corrupt && stop && decide (crcBytes r.crc = [r.crcHigh, low])
    let ended := { s with clock := now, link := { s.link with lastCharacter := some now, receiver := Receiver.asleep } }
    let command := if 59 < l then .tooLong ((r.buffer.drop 1).headD 0) else parseCommand ((r.buffer.drop 1).take l)
    let queued := r.broadcast = false ∨ ∃ o, command = .restart o
    (good = false →
      exec (.frameEnd low stop t) s = .next { ended with
        link := { ended.link with crcError := true, crcCount := min (s.link.crcCount + 1) 65535 } }) ∧
    (good = true → r.broadcast = true → (∀ o, r.command ≠ .restart o) →
      exec (.frameEnd low stop t) s = .next { ended with
        link := { ended.link with broadcastCount := min (s.link.broadcastCount + 1) 65535 } }) ∧
    (∀ o, good = true → r.broadcast = true → r.command = .restart o → s.link.queue = [] →
      (o ≤ 1 → ∃ u, exec (.frameEnd low stop t) s = .next u ∧ u.starting = some (decide (o = 1)) ∧ u.running = false ∧
        SameRetained s u ∧ u.link.queue = []) ∧
      (1 < o → exec (.frameEnd low stop t) s = .next { ended with
        link := { ended.link with broadcastCount := min (s.link.broadcastCount + 1) 65535 } })) ∧
    (good = true → r.broadcast = false → s.link.queue = [] →
      let s1 := { ended with link := { ended.link with queue := [{ broadcast := false, command := command }] } }
      let served := carryOut s1 command
      exec (.frameEnd low stop t) s = .next { served.state with link := { served.state.link with
        reply := some { command := Command.byte command, result := served.result, data := served.data } } }) ∧
    (good = true → queued → s.link.queue ≠ [] → s.link.queue.length < 4 → ∃ u,
      exec (.frameEnd low stop t) s = .next u ∧
      u = { ended with link := { ended.link with
        queue := s.link.queue ++ [{ broadcast := r.broadcast, command := command }] } } ∧
      u.rdy = decide (s.link.queue.length < 3)) ∧
    (good = true → queued → 4 ≤ s.link.queue.length → ∃ u,
      exec (.frameEnd low stop t) s = .next u ∧
      u = { ended with
        link := { ended.link with overrun := true, discardedCount := min (s.link.discardedCount + 1) 65535 } } ∧
      u.rdy = false)

/-- R184, R190: a reply waits for two character times of idle line, then is sent without gaps with LDE high, the bank's own address character first;
when its last stop bit has ended, LDE is low, its frame leaves the queue and the next head is carried out. REPLY_DONE before that changes
nothing but the clock (log 4). -/
def Obligations.RepliesGoOutOneAtATime : Prop :=
  ∀ (s : State) (t : Nat), s.running = true →
    let now := max s.clock t
    (∀ (r : Reply) (c : Nat), s.link.reply = some r → s.link.sending = none → s.link.lastCharacter = some c →
      (22000000 ≤ 38400 * (now - c) →
        ∃ u, exec (.replySend t) s = .next u ∧
          u = { s with
            clock := now, link := { s.link with sending := some (now + (11000000 * (r.data.length + 6) + 38399) / 38400) } } ∧
          u.lde = true ∧
          let frame := byteOf (r.data.length + 2) :: r.command :: byteOf r.result.code :: r.data
          u.ltx = .sends ({ data := byteOf s.link.address, address := true } ::
            (frame ++ crcBytes (crcOf frame)).map fun b => { data := b, address := false })) ∧
      (38400 * (now - c) < 22000000 → exec (.replySend t) s = .next { s with clock := now })) ∧
    (∀ e, s.link.sending = some e → now < e → ∃ u, exec (.replyDone t) s = .next u ∧ u = { s with clock := now } ∧ u.lde = true) ∧
    (∀ (f : QueuedFrame) (e : Nat), s.link.sending = some e → e ≤ now → s.link.queue = [f] → (∀ o, f.command ≠ .restart o) →
      ∃ u, exec (.replyDone t) s = .next u ∧
        u = { s with clock := now, link := { s.link with queue := [], reply := none, sending := none } } ∧
        u.lde = false ∧ u.rdy = true) ∧
    (∀ (f g : QueuedFrame) (rest : List QueuedFrame) (e : Nat), s.link.sending = some e → e ≤ now → s.link.queue = f :: g :: rest →
      (∀ o, f.command ≠ .restart o) → g.broadcast = false →
      let s1 := { s with clock := now, link := { s.link with queue := g :: rest, reply := none, sending := none } }
      let served := carryOut s1 g.command
      exec (.replyDone t) s = .next { served.state with link := { served.state.link with
        reply := some { command := Command.byte g.command, result := served.result, data := served.data } } })

/-- R189, R191, R192: the link answers an unknown command byte and RESTART itself; the start of a RESTART follows its reply, or, broadcast, comes
at once. A frame of one byte that names a command is answered BAD_LENGTH (log 7). A start begun stands as such until the next
step that is no stop, which ends it: the model's choice (log 15). -/
def Obligations.UnknownAndRestart : Prop :=
  let restarts := fun (s t : State) (cold : Bool) =>
    t.starting = some cold ∧ t.running = false ∧ SameRetained s t ∧ t.link.queue = [] ∧ t.link.reply = none ∧
    t.link.sending = none ∧ ∃ u, step { t with pending := [] } = .next u ∧ u.running = true ∧
      (if cold = false ∧ s.retentionAgrees = true then u.bankNotices.warmStart = true ∧ u.bankTime = s.bankTime
       else u.bankNotices.coldStart = true ∧ u.bankTime = 0 ∧ u.directory = { entries := [], generation := 0 } ∧
         ∀ b < 48, u.bay b = Bay.empty ∧ u.notices b = BayNotices.empty)
  (∀ (s : State) (c : Byte), s.AtRest →
    (commandBytes.contains c = false → exec (.unknownCommand c) s = .next (s.served (.unknown c) .unknownCommand [])) ∧
    (commandBytes.contains c = true → exec (.unknownCommand c) s = .next (s.served (.badLength c) .badLength []))) ∧
  (∀ (s : State) (o : Nat), s.AtRest → o < 256 →
    exec (.restart false o) s = .next (s.served (.restart o) (if o ≤ 1 then .done else .badValue) []) ∧
    (o ≤ 1 → ∃ t, exec (.restart true o) s = .next t ∧ restarts s t (decide (o = 1))) ∧
    (1 < o → exec (.restart true o) s = .next { s with
      link := { s.link with
        lastCharacter := some s.clock, broadcastCount := min (s.link.broadcastCount + 1) 65535 } })) ∧
  (∀ (s : State) (o t e : Nat), s.running = true → s.link.sending = some e → e ≤ max s.clock t → o ≤ 1 →
    (∀ r : Reply, s.link.reply = some r → r.result = .done →
      s.link.queue.head? = some { broadcast := false, command := .restart o } →
      ∃ u, exec (.replyDone t) s = .next u ∧ restarts s u (decide (o = 1))) ∧
    (∀ (f : QueuedFrame) (rest : List QueuedFrame), (∀ x, f.command ≠ .restart x) →
      s.link.queue = f :: { broadcast := true, command := .restart o } :: rest →
      ∃ u, exec (.replyDone t) s = .next u ∧ restarts s u (decide (o = 1))))

/-! ### The Code Directory (02) -/

/-- R30: a bay leaves its entry, which shortens, or is removed when the bay was its last; the generation counts one. -/
def Obligations.BayLeavesItsEntry : Prop :=
  ∀ (d : Directory) (e : Entry) (b : Nat), d.Ordered → e ∈ d.entries → b ∈ e.bays →
    let d' := d.removeBay e.code b
    d'.Ordered ∧ d'.generation = (d.generation + 1) % 65536 ∧
    (e.bays = [b] → ∀ f, f ∈ d'.entries ↔ f ∈ d.entries ∧ f ≠ e) ∧
    (e.bays ≠ [b] → ∀ f, f ∈ d'.entries ↔ (f ∈ d.entries ∧ f ≠ e) ∨ f = { e with bays := e.bays.filter (· ≠ b) })

/-- R34 to R37: QUERY and SCAN change nothing: their refusals, QUERY's reply with a held and a waiting bay's report worked out, and SCAN's page
of six entries in code order with the more flag. -/
def Obligations.DirectoryReports : Prop :=
  (∀ (s : State) (k v : Nat), s.AtRest → k < 256 → v < 4294967296 →
     let c := Command.query k v
     let found := if k = 0 then s.findCode v else s.findOrder v
     ((1 < k ∨ (k = 0 ∧ 999999 < v) ∨ (k = 1 ∧ v = 0)) → exec (.query k v) s = .next (s.served c .badValue [])) ∧
     ((k = 0 ∧ v ≤ 999999) ∨ (k = 1 ∧ 0 < v) →
       (found = none → exec (.query k v) s = .next (s.served c .notFound (bytesOf 2 s.directory.generation))) ∧
       (∀ e, found = some e →
         exec (.query k v) s = .next (s.served c .done
           (bytesOf 2 s.directory.generation ++ bytesOf 3 e.code ++ bytesOf 4 e.orderRef ++ bytesOf 4 e.created ++
             [byteOf e.bays.length] ++ (e.bays.map s.bayReport).flatten)) ∧
         (∀ (b p d : Nat) (t : Int), (s.bay b).state = .holding → (s.bay b).profile = some p → (s.bay b).lastTemp = some t →
           (s.bay b).deadline = some d →
           s.bayReport b = [byteOf b, 5, 0xFF, byteOf p] ++ signedBytesOf 2 t ++ [byteOf (s.freshness b)] ++
             bytesOf 2 ((d - s.bankTime) / 10) ++ [0xFF, 0xFF]) ∧
         (∀ (b p l x : Nat), (s.bay b).state = .booked → (s.bay b).profile = some p → (s.bay b).lastTemp = none →
           (s.bay b).lapseAt = some l → (s.bay b).expectedLoad = some x →
           s.bayReport b = [byteOf b, 1, 0xFF, byteOf p, 0x80, 0x00, 0xFF] ++ bytesOf 2 ((l - s.bankTime) / 10) ++
             bytesOf 2 ((x - s.bankTime) / 10))))) ∧
  (∀ (s : State) (o start : Nat), s.AtRest → s.directory.Ordered → o < 256 → start < 16777216 →
     (1 < o ∨ (o = 0 ∧ 999999 < start) → exec (.scan o start) s = .next (s.served (.scan o start) .badValue [])) ∧
     (o = 1 ∨ (o = 0 ∧ start ≤ 999999) → ∃ page beyond : List Entry,
       (∀ e, e ∈ page ++ beyond ↔ e ∈ s.directory.entries ∧ (o = 0 → start < e.code)) ∧
       (page ++ beyond).Pairwise (fun e f => e.code < f.code) ∧ page.length ≤ 6 ∧ (beyond ≠ [] → page.length = 6) ∧
       exec (.scan o start) s = .next (s.served (.scan o start) .done
         (bytesOf 2 s.directory.generation ++ [byteOf page.length] ++
           (page.map fun e => bytesOf 3 e.code ++ bytesOf 4 e.orderRef ++ [byteOf e.bays.length]).flatten ++
           [if beyond = [] then 0 else 1]))))

/-! ### Booking and Preheat (03) -/

/-- R41, R42: the bays of a BOOK are the lowest candidates of the lowest module that holds enough, or else of the bank; and with too few
candidates the BOOK is refused. -/
def Obligations.BookChoosesBays : Prop :=
  ∀ (s : State) (k : Nat), 1 ≤ k → k ≤ 4 →
    let inModule := fun m b => IsCandidate s b ∧ b / 4 = m
    (∀ m, (∃ l, LowestOf (inModule m) k l) → (∀ m' < m, ¬ ∃ l, LowestOf (inModule m') k l) →
      LowestOf (inModule m) k (s.chooseBays k)) ∧
    ((∀ m, ¬ ∃ l, LowestOf (inModule m) k l) → (∃ l, LowestOf (IsCandidate s) k l) →
      LowestOf (IsCandidate s) k (s.chooseBays k)) ∧
    (∀ (ref code offset : Nat) (slots : List Nat), s.AtRest → BookPasses s ref code slots offset → slots.length = k →
      (¬ ∃ l, LowestOf (IsCandidate s) k l) →
      exec (.book ref code slots offset) s = .next (s.served (.book ref code slots offset) .noBays []))

/-- R43, R44, R45: what a BOOK that passes every check does to the chosen bays, the directory and the reply, and that it does nothing
else. -/
def Obligations.BookBindsBays : Prop :=
  ∀ (s : State) (ref code offset : Nat) (slots : List Nat), s.AtRest → BookPasses s ref code slots offset →
    (∃ l, LowestOf (IsCandidate s) slots.length l) →
    let bays := s.chooseBays slots.length
    let expected := min (s.bankTime + 10 * offset) 4294967295
    let preheat := fun i => expected - 600 * (s.profile (slots.getD i 0)).lead
    let heats := fun i => preheat i ≤ s.bankTime
    let data := byteOf bays.length :: ((List.range bays.length).map fun i =>
      [byteOf (bays.getD i 0), byteOf (slots.getD i 0), if preheat i ≤ s.bankTime then 2 else 1]).flatten
    ∃ t, exec (.book ref code slots offset) s = .next t ∧
      t = { s.served (.book ref code slots offset) .done data with
        bays := t.bays, directory := t.directory, scanner := { s.scanner with rounds := t.scanner.rounds } } ∧
      bays.length = slots.length ∧
      (∀ i < bays.length, t.bay (bays.getD i 0) = { s.bay (bays.getD i 0) with
        entry := some code, profile := some (slots.getD i 0), expectedLoad := some expected
        lapseAt := some (min (expected + 10 * s.config.lapseGrace) 4294967295)
        state := if heats i then .preheating else .booked
        preheatStart := if heats i then none else some (preheat i)
        lastTemp := if heats i then none else (s.bay (bays.getD i 0)).lastTemp
        demand := if heats i then 16 else 0 }) ∧
      (∀ i < bays.length, t.scanner.rounds.getD (bays.getD i 0) none =
        if heats i then none else s.scanner.rounds.getD (bays.getD i 0) none) ∧
      (∀ b, b ∉ bays → t.bay b = s.bay b ∧ t.scanner.rounds.getD b none = s.scanner.rounds.getD b none) ∧
      t.directory.generation = (s.directory.generation + 1) % 65536 ∧
      (∀ e, e ∈ t.directory.entries ↔
        e ∈ s.directory.entries ∨ e = { code := code, orderRef := ref, bays := bays, created := s.bankTime })

/-- R39, R40: the checks of BOOK, in their order. A BOOK of more than 48 slots is a frame longer than 59, answered TOO_LONG (log 7). -/
def Obligations.BookRefusals : Prop :=
  (∀ (s : State) (ref code offset : Nat) (slots : List Nat), s.AtRest → (Instr.book ref code slots offset).wellFormed = true →
    let answers := fun r data =>
      exec (.book ref code slots offset) s = .next (s.served (.book ref code slots offset) r data)
    let bad := ref = 0 ∨ 999999 < code ∨ slots.length = 0 ∨ 4 < slots.length ∨ (∃ n ∈ slots, 15 < n) ∨ 7200 < offset
    (bad → answers .badValue []) ∧
    (¬ bad → (s.findOrder ref).isSome = true → answers .orderInUse []) ∧
    (¬ bad → s.findOrder ref = none → (s.findCode code).isSome = true → answers .codeInUse []) ∧
    (∀ i < slots.length, ¬ bad → s.findOrder ref = none → s.findCode code = none →
      s.slotCondition (slots.getD i 0) ≠ .inService → (∀ j < i, s.slotCondition (slots.getD j 0) = .inService) →
      answers .profileInvalid [byteOf (i + 1)]) ∧
    (∀ i < slots.length, ¬ bad → s.findOrder ref = none → s.findCode code = none →
      (∀ n ∈ slots, s.slotCondition n = .inService) →
      s.slotBeingWritten (slots.getD i 0) = true → (∀ j < i, s.slotBeingWritten (slots.getD j 0) = false) →
      answers .storeBusy [byteOf (i + 1)])) ∧
  (∀ (s : State) (ref code offset : Nat) (slots : List Nat), s.AtRest → (Instr.book ref code [] offset).wellFormed = true →
    (∀ n ∈ slots, n < 256) → 48 < slots.length → slots.length ≤ 244 →
    exec (.book ref code slots offset) s = .next (s.served (.tooLong 0x10) .tooLong []))

/-- R28, R54, R55: NEW_CODE re-keys the order's entry and its bays, or is refused: for its values, where no entry holds the order, or where one
holds the new code. A form that is none of the three is refused too. -/
def Obligations.AmendNewCode : Prop :=
  (∀ (s : State) (ref f v : Nat), 2 < f → carryOut s (.amend ref f v) = ⟨s, .badValue, []⟩) ∧
  (∀ (s : State) (ref v : Nat), s.AtRest → ref < 4294967296 → v < 16777216 →
    (ref = 0 ∨ 999999 < v → exec (.amendNewCode ref v) s = .next (s.served (.amend ref 0 v) .badValue [])) ∧
    (0 < ref → v ≤ 999999 → s.findOrder ref = none →
      exec (.amendNewCode ref v) s = .next (s.served (.amend ref 0 v) .notFound []))) ∧
  (∀ (s : State) (ref v : Nat) (e : Entry), s.AtRest → s.directory.Ordered → 0 < ref → ref < 4294967296 → v ≤ 999999 →
    s.findOrder ref = some e →
    ((s.findCode v).isSome = true → exec (.amendNewCode ref v) s = .next (s.served (.amend ref 0 v) .codeInUse [])) ∧
    (s.findCode v = none → ∃ t, exec (.amendNewCode ref v) s = .next t ∧
      t = { s.served (.amend ref 0 v) .done (bytesOf 3 v) with bays := t.bays, directory := t.directory } ∧
      t.directory.Ordered ∧ t.directory.generation = (s.directory.generation + 1) % 65536 ∧
      (∀ f, f ∈ t.directory.entries ↔ (f ∈ s.directory.entries ∧ f ≠ e) ∨ f = { e with code := v }) ∧
      (∀ b, t.bay b = if b ∈ e.bays then { s.bay b with entry := some v } else s.bay b)))

/-- R54, R110, R111: EXTEND grants each held bay of the order what its allowance leaves, and reports every bay; or is refused for its values, or
where no entry holds the order. -/
def Obligations.AmendExtend : Prop :=
  (∀ (s : State) (ref m : Nat), s.AtRest → ref < 4294967296 → m < 16777216 →
    (ref = 0 ∨ m = 0 ∨ 120 < m → exec (.amendExtend ref m) s = .next (s.served (.amend ref 1 m) .badValue [])) ∧
    (0 < ref → 1 ≤ m → m ≤ 120 → s.findOrder ref = none →
      exec (.amendExtend ref m) s = .next (s.served (.amend ref 1 m) .notFound []))) ∧
  (∀ (s : State) (ref m : Nat) (e : Entry), s.AtRest → s.directory.Ordered → 0 < ref → ref < 4294967296 → 1 ≤ m → m ≤ 120 →
    s.findOrder ref = some e →
    let held := fun b => (s.bay b).state = .holding ∨ (s.bay b).state = .releasing
    let granted := fun b => min m ((s.boundProfile b).allowance - (s.bay b).extUsed.getD 0)
    ∃ t data, exec (.amendExtend ref m) s = .next t ∧
      t = { s.served (.amend ref 1 m) .done data with bays := t.bays } ∧
      (∀ b ∈ e.bays, held b → t.bay b = { s.bay b with
        extUsed := (s.bay b).extUsed.map (· + granted b)
        deadline := (s.bay b).deadline.map fun d => min (d + 600 * granted b) 4294967295 }) ∧
      (∀ b, ¬ (b ∈ e.bays ∧ held b) → t.bay b = s.bay b) ∧
      data = byteOf e.bays.length :: (e.bays.map fun b =>
        [byteOf b, stateByte (s.bay b).state] ++
          (if held b then [byteOf (granted b)] else [0]) ++ optionalBytesOf 1 (t.bay b).extUsed ++
          (if held b then optionalBytesOf 2 ((t.bay b).deadline.map fun d => (d - s.bankTime) / 10) else [0xFF, 0xFF])).flatten)

/-- R45, R54, R56: NEW_LOAD re-times the waiting bays of the order and reports every bay; or is refused for its values, or where no entry holds the
order. -/
def Obligations.AmendNewLoad : Prop :=
  (∀ (s : State) (ref v : Nat), s.AtRest → ref < 4294967296 → v < 16777216 →
    (ref = 0 ∨ 7200 < v → exec (.amendNewLoad ref v) s = .next (s.served (.amend ref 2 v) .badValue [])) ∧
    (0 < ref → v ≤ 7200 → s.findOrder ref = none →
      exec (.amendNewLoad ref v) s = .next (s.served (.amend ref 2 v) .notFound []))) ∧
  (∀ (s : State) (ref v : Nat) (e : Entry), s.AtRest → s.directory.Ordered → 0 < ref → ref < 4294967296 → v ≤ 7200 →
    s.findOrder ref = some e →
    let expected := min (s.bankTime + 10 * v) 4294967295
    let lapse := min (expected + 10 * s.config.lapseGrace) 4294967295
    let preheat := fun b => expected - 600 * (s.boundProfile b).lead
    let timed := fun b => { s.bay b with expectedLoad := some expected, lapseAt := some lapse }
    ∃ t data, exec (.amendNewLoad ref v) s = .next t ∧
      t = { s.served (.amend ref 2 v) .done data with
        bays := t.bays, scanner := { s.scanner with rounds := t.scanner.rounds } } ∧
      (∀ b ∈ e.bays,
        ((s.bay b).state = .booked → s.bankTime < preheat b → t.bay b = { timed b with preheatStart := some (preheat b) }) ∧
        ((s.bay b).state = .booked → preheat b ≤ s.bankTime →
          t.bay b = { timed b with state := .preheating, preheatStart := none, lastTemp := none, demand := 16 } ∧
          t.scanner.rounds.getD b none = none) ∧
        ((s.bay b).state = .preheating ∨ (s.bay b).state = .ready → t.bay b = timed b) ∧
        ((s.bay b).state ≠ .booked → (s.bay b).state ≠ .preheating → (s.bay b).state ≠ .ready → t.bay b = s.bay b)) ∧
      (∀ b, b ∉ e.bays → t.bay b = s.bay b) ∧
      (∀ b, b ∉ e.bays ∨ (s.bay b).state ≠ .booked ∨ s.bankTime < preheat b →
        t.scanner.rounds.getD b none = s.scanner.rounds.getD b none) ∧
      data = byteOf e.bays.length :: (e.bays.map fun b =>
        [byteOf b, stateByte (t.bay b).state,
          if (s.bay b).state = .booked ∨ (s.bay b).state = .preheating ∨ (s.bay b).state = .ready then 1 else 0]).flatten)

/-- R2, R7 to R9, R30, R45, R51: the preheat_start expiry and the lapse; in a state that does not watch them, or not reached, they are
not taken. -/
def Obligations.WaitingBayExpiries : Prop :=
  (∀ (s : State) (b : Nat), s.running = true → b < 48 →
     (∀ p, (s.bay b).state = .booked → (s.bay b).preheatStart = some p → p ≤ s.bankTime →
       exec (.preheatStartExpiry b) s = .next { s with
         bays := s.bays.setIfInBounds b
           { s.bay b with state := .preheating, preheatStart := none, lastTemp := none, demand := 16 }
         scanner := { s.scanner with rounds := s.scanner.rounds.setIfInBounds b none } }) ∧
     ((s.bay b).state ≠ .booked ∨ (∀ p, (s.bay b).preheatStart = some p → s.bankTime < p) →
       exec (.preheatStartExpiry b) s = .next s)) ∧
  (∀ (s : State) (b : Nat), s.running = true → b < 48 →
     let waits := (s.bay b).state = .booked ∨ (s.bay b).state = .preheating ∨ (s.bay b).state = .ready
     (∀ l, waits → (s.bay b).lapseAt = some l → l ≤ s.bankTime → ∃ t, exec (.lapseExpiry b) s = .next t ∧
       OnlyBays s t [b] ∧ Retired s t b ∧ t.notices b = { s.notices b with lapsed := true } ∧ t.latch = s.latch ∧
       ((s.bay b).state ≠ .booked →
         t.gate b = false ∧ (∀ r ∈ t.heater.schedule, r.bay = b → r.cut = true) ∧ t.scanner.rounds.getD b none = none)) ∧
     (¬ waits ∨ (∀ l, (s.bay b).lapseAt = some l → s.bankTime < l) → exec (.lapseExpiry b) s = .next s))

/-! ### Loading (04) -/

/-- R60 to R63: the refusals of LOAD, and an accepted LOAD against the rear latches of R63's table, with or without a request pending. -/
def Obligations.LoadOpensTheRear : Prop :=
  (∀ (s : State) (ref b force : Nat), s.AtRest → ref < 4294967296 → b < 256 → force < 256 →
    let st := (s.bay b).state
    let answers := fun r data => exec (.load ref b force) s = .next (s.served (.load ref b force) r data)
    let bad := ref = 0 ∨ 47 < b ∨ 1 < force
    let ours := ∃ e, s.findOrder ref = some e ∧ b ∈ e.bays
    (bad → answers .badValue []) ∧
    (¬ bad → st ≠ .ready → st ≠ .preheating → answers .wrongState [stateByte st]) ∧
    (¬ bad → st = .ready ∨ st = .preheating → ¬ ours → answers .notFound []) ∧
    (¬ bad → st = .preheating → ours → force = 0 → answers .wrongState [stateByte .preheating])) ∧
  (∀ (s : State) (ref b force : Nat) (e : Entry), s.AtRest → 0 < ref → ref < 4294967296 → b < 48 → force ≤ 1 →
    s.findOrder ref = some e → b ∈ e.bays → (s.bay b).state = .ready ∨ ((s.bay b).state = .preheating ∧ force = 1) →
    (s.bay b).timer = none →
    let d := 2 * b + 1
    let loading := { s.bay b with state := .loading, rearOpened := false, demand := 0 }
    let timed := { loading with timer := some (min (s.bankTime + 10 * s.config.loadWindow) 4294967295) }
    let served := s.served (.load ref b force) .done [byteOf b, stateByte (s.bay b).state]
    let toLocked := s.latchPosition d = .locked ∨ s.latchPosition d = .locking
    let toUnlocked := s.latchPosition d = .unlocked ∨ s.latchPosition d = .unlocking
    let others := { s.latch with queue := s.latch.queue.filter (·.door ≠ d) }
    ∃ t, exec (.load ref b force) s = .next t ∧ OnlyBays served t [b] ∧ t.directory = s.directory ∧ t.bayNotices = s.bayNotices ∧
      t.gate b = false ∧ (∀ r ∈ t.heater.schedule, r.bay = b → r.cut = true) ∧ t.scanner = s.scanner ∧
      (toLocked → s.pendingFor d = none → t.bay b = loading ∧ t.latch = (s.enqueue d .unlock .load).latch) ∧
      (∀ r, toLocked → s.pendingFor d = some r → s.QueueOrdered → t.bay b = loading ∧ t.latch = s.latch) ∧
      (toUnlocked → s.pulseRuns d = true → t.bay b = loading ∧ t.latch = others) ∧
      (s.latchPosition d = .unlocked → s.pulseRuns d = false → t.bay b = timed ∧ t.latch = others))

/-- R2, R67, R68, R69: the load window that runs out; in another state, or with no window or one not reached, it is not taken. That a lapse already
reached is taken in the same step is the model's choice (log 17). -/
def Obligations.LoadWindowExpiry : Prop :=
  (∀ (s : State) (b : Nat), s.running = true → b < 48 →
    (s.bay b).state ≠ .loading ∨ (∀ w, (s.bay b).timer = some w → s.bankTime < w) → exec (.loadWindowExpiry b) s = .next s) ∧
  (∀ (s : State) (b w : Nat), s.running = true → b < 48 → (s.bay b).state = .loading → (s.bay b).timer = some w →
    let p := s.boundProfile b
    let warm := ∃ x, (s.bay b).lastTemp = some x ∧ p.setpoint - p.margin ≤ x
    let lapsed := ∃ l, (s.bay b).lapseAt = some l ∧ l ≤ s.bankTime
    (w ≤ s.bankTime → (s.bay b).rearOpened = true →
      exec (.loadWindowExpiry b) s = .next { s with bays := s.bays.setIfInBounds b { s.bay b with timer := none } }) ∧
    (w ≤ s.bankTime → (s.bay b).rearOpened = false → ∃ t, exec (.loadWindowExpiry b) s = .next t ∧ OnlyBays s t [b] ∧
      t.latch = (s.requestLock (2 * b + 1)).latch ∧
      (¬ lapsed → t.directory = s.directory ∧ t.scanner = s.scanner ∧ t.heater = s.heater ∧
        (warm → t.bay b = { s.bay b with state := .ready, timer := none, demand := 16 } ∧
          t.notices b = { s.notices b with ready := true }) ∧
        (¬ warm → t.bay b = { s.bay b with state := .preheating, timer := none, demand := 16 } ∧ t.notices b = s.notices b)) ∧
      (lapsed → Retired { s with bays := s.bays.setIfInBounds b { s.bay b with timer := none } } t b ∧
        (warm → t.notices b = { s.notices b with ready := true, lapsed := true }) ∧
        (¬ warm → t.notices b = { s.notices b with lapsed := true }))))

/-- R65, R66, R136, R141, R146: the rear close that begins the hold. On the unlocked side a LOCK is pending after it. On the locked side, where the
door was opened against a LOCKING record, the LOCK has its place already, and the UNLOCK still waiting leaves the queue (that R66 makes the
request there too is read from it: log 19). -/
def Obligations.RearCloseBeginsHold : Prop :=
  ∀ (s : State) (b x t : Nat), s.running = true → b < 48 → (s.bay b).state = .loading → (s.bay b).rearOpened = true →
    let d := 2 * b + 1
    (s.door d).candidate = some { closed := true, since := x } → x + 40000 ≤ max s.clock t →
    let toUnlocked := s.latchPosition d = .unlocked ∨ s.latchPosition d = .unlocking
    let toLocked := s.latchPosition d = .locked ∨ s.latchPosition d = .locking
    ∃ u, exec (.doorClosed d t) s = .next u ∧
      u = { s with
        clock := max s.clock t, bays := u.bays, bayNotices := u.bayNotices
        doors := s.doors.setIfInBounds d { closed := true, candidate := none, alarm := none }
        latch := { s.latch with
          records := s.latch.records.setIfInBounds d { position := s.latchPosition d, openAfterFailedLock := false }
          queue := u.latch.queue, nextArrival := u.latch.nextArrival } } ∧
      (toUnlocked → s.pendingFor d = none →
        u.latch.queue = (s.enqueue d .lock .lock).latch.queue ∧ u.latch.nextArrival = s.latch.nextArrival + 1) ∧
      (∀ r, toUnlocked → s.pendingFor d = some r → r.cls = .lock → s.QueueOrdered →
        u.latch.queue = s.latch.queue ∧ u.latch.nextArrival = s.latch.nextArrival) ∧
      (toLocked → u.latch.queue = s.latch.queue.filter (·.door ≠ d) ∧ u.latch.nextArrival = s.latch.nextArrival) ∧
      u.bay b = { s.bay b with
        state := .holding, loadTime := some s.bankTime
        deadline := some (min (s.bankTime + 600 * (s.boundProfile b).maxHold) 4294967295), extUsed := some 0
        qCold := 0, qHot := 0, restartPenaltyPending := 0, rearOpened := false, expectedLoad := none, lapseAt := none
        timer := none, demand := 16 } ∧
      u.notices b = { s.notices b with loaded := true } ∧ (∀ c, c ≠ b → u.bay c = s.bay c ∧ u.notices c = s.notices c)

/-! ### Temperature Measurement (05) -/

/-- R82, R83: the temperature of a code, by the floor of the product over 128, clamped. -/
def Obligations.CodesBecomeTemperatures : Prop :=
  ∀ (points : List Int) (c : Nat), c ≤ 1023 →
    (isFaultCode c = true ↔ c ≤ 7 ∨ 1016 ≤ c) ∧
    (∀ (k r : Nat) (q : Int), c = 128 * k + r → r ≤ 127 →
      128 * q ≤ (points.getD (k + 1) 0 - points.getD k 0) * r → (points.getD (k + 1) 0 - points.getD k 0) * r < 128 * q + 128 →
      let x := points.getD k 0 + q
      temperatureOf points c = if x < -400 then -400 else if 1500 < x then 1500 else x)

/-- R85, R86: a sample joins the round in progress; the K-th completes it with the temperature its mode gives. R87, R88: a fault sample ends the
round at once, whatever was gathered; a bay in OUT_OF_SERVICE takes no sample. -/
def Obligations.RoundCompletes : Prop :=
  (∀ (s : State) (b code : Nat) (l : List Int), b < 48 → isFaultCode code = false → (s.bay b).state ≠ .outOfService →
    s.scanner.rounds.getD b none = gather l →
    let idle := (s.bay b).state = .vacant ∨ (s.bay b).state = .booked ∨ (s.bay b).state = .withdrawn
    let count := if idle then 1 else (s.boundProfile b).count
    let mode := if idle then .first else (s.boundProfile b).mode
    let all := l ++ [temperatureOf s.config.points code]
    (all.length < count → s.takeSample b code = s.setRound b (gather all)) ∧
    (all.length = count → s.takeSample b code = (s.setRound b none).validRound b (reduced mode (all.headD 0) (all.drop 1)))) ∧
  (∀ (s : State) (b code : Nat), b < 48 →
    ((s.bay b).state ≠ .outOfService → code ≤ 7 ∨ (1016 ≤ code ∧ code ≤ 1023) →
      s.takeSample b code = (s.setRound b none).faultRound b) ∧
    ((s.bay b).state = .outOfService → s.takeSample b code = s))

/-- R74, R75, R76, R77, R81: the pass-period expiry starts a pass, whose due bays begin to be converted or wait out a hold-off, or counts
an overrun. -/
def Obligations.PassPeriodExpiry : Prop :=
  ∀ (s : State) (t : Nat), s.running = true →
    let now := max s.clock t
    let idle := fun b => (s.bay b).state = .vacant ∨ (s.bay b).state = .booked ∨ (s.bay b).state = .withdrawn
    let out := fun b => (s.bay b).state = .outOfService
    (s.scanner.passTimer ≠ 0 → exec (.passPeriodExpiry t) s = .next { s with clock := now }) ∧
    (s.scanner.passTimer = 0 → s.scanner.pass.isSome = true →
      exec (.passPeriodExpiry t) s = .next { s with
        clock := now, bankNotices := { s.bankNotices with scanOverrun := true }
        scanner := { s.scanner with
          passTimer := s.config.passPeriod, overruns := min (s.scanner.overruns + 1) 65535 } }) ∧
    (s.scanner.passTimer = 0 → s.scanner.pass = none → ∃ u due, exec (.passPeriodExpiry t) s = .next u ∧
      u = { s with
        clock := now, scanner := { s.scanner with
          passTimer := s.config.passPeriod, skip := u.scanner.skip, pass := u.scanner.pass, conversion := u.scanner.conversion
          discard := u.scanner.discard }
        latch := { s.latch with stallTimer := u.latch.stallTimer, guard := u.latch.guard } } ∧
      (∀ b < 48, u.scanner.skip.getD b 0 =
        if out b then s.scanner.skip.getD b 0
        else if s.scanner.skip.getD b 0 = 0 then (if idle b then s.config.idleSkip else (s.boundProfile b).skip)
        else s.scanner.skip.getD b 0 - 1) ∧
      due.Pairwise (· < ·) ∧ (∀ b, b ∈ due ↔ b < 48 ∧ ¬ out b ∧ s.scanner.skip.getD b 0 = 0) ∧
      (due = [] → u.scanner.pass = none ∧ u.scanner.conversion = none ∧ u.scanner.discard = false ∧ u.latch.stallTimer = none ∧
        u.latch.guard = false) ∧
      (due ≠ [] → u.scanner.pass = some { due := due, remaining := due } ∧ u.latch.guard = s.latch.guard ∧
        (s.energised = 0 → u.latch.stallTimer = s.latch.stallTimer ∧ u.scanner.discard = false ∧ u.scanner.conversion =
          some { bay := due.headD 0, phase := .settling, since := now, filter := 4000 * 2 ^ s.config.filterCode }) ∧
        (0 < s.energised → u.scanner.conversion = s.scanner.conversion ∧ u.scanner.discard = s.scanner.discard ∧
          u.latch.stallTimer = some (s.latch.stallTimer.getD now))))

/-- R5, R76, R79, R80, R87, R88, R89, R149, R150: the settling conversion and the kept one after it, each of the filter time. The code of a kept
conversion is taken as its bay's sample, in any state of the bay, or discarded where the bay has entered OUT_OF_SERVICE during the
pair; its end clears the stall guard, and the pass goes on to its next bay that is not OUT_OF_SERVICE, or ends. A fault code is a fault
round with what was gathered dropped; a good code of an idle bay is a valid round by itself. That a listed bay which has been OUT_OF_SERVICE
since the pass started, and was restored before its turn, is converted is the model's choice (log 38). -/
def Obligations.ConversionPair : Prop :=
  (∀ (s : State) (c : Conversion) (t : Nat), s.running = true → s.scanner.conversion = some c →
     let now := max s.clock t
     (c.phase = .settling → c.since + c.filter ≤ now →
       exec (.settlingConversionEnd t) s = .next { s with
         clock := now, scanner := { s.scanner with conversion := some { c with phase := .kept, since := now } } }) ∧
     (now < c.since + c.filter →
       exec (.settlingConversionEnd t) s = .next { s with clock := now } ∧
       ∀ code < 1024, exec (.keptConversionEnd code t) s = .next { s with clock := now })) ∧
  (∀ (s : State) (b code since filter t : Nat) (due rest : List Nat), s.running = true → b < 48 → code ≤ 1023 →
     s.scanner.conversion = some { bay := b, phase := .kept, since := since, filter := filter } → since + filter ≤ max s.clock t →
     s.scanner.pass = some { due := due, remaining := b :: rest } →
     let now := { s with clock := max s.clock t }
     let goesOn := fun v u : State =>
       let next := fun (pass : Option Pass) (conversion : Option Conversion) => { v with
         latch := { v.latch with stallTimer := none, guard := false }
         scanner := { v.scanner with pass := pass, conversion := conversion, discard := false } }
       (0 < s.energised → u = next (some { due := due, remaining := rest }) none) ∧
       (∀ (past : List Nat) (a : Nat) (left : List Nat), s.energised = 0 → rest = past ++ a :: left →
         (∀ x ∈ past, (v.bay x).state = .outOfService) → (v.bay a).state ≠ .outOfService →
         u = next (some { due := due, remaining := a :: left })
           (some { bay := a, phase := .settling, since := max s.clock t, filter := 4000 * 2 ^ s.config.filterCode })) ∧
       (s.energised = 0 → (∀ a ∈ rest, (v.bay a).state = .outOfService) → u = next none none)
     ∃ u, exec (.keptConversionEnd code t) s = .next u ∧
       (s.scanner.discard = true → goesOn now u) ∧
       (s.scanner.discard = false →
         goesOn (now.takeSample b code) u ∧
         ((s.bay b).state ≠ .outOfService → code ≤ 7 ∨ 1016 ≤ code → goesOn ((now.setRound b none).faultRound b) u) ∧
         ((s.bay b).state.group = some .idle → s.scanner.rounds.getD b none = none → 8 ≤ code → code ≤ 1015 →
           goesOn { now with
             bays := s.bays.setIfInBounds b { s.bay b with
               lastTemp := some (temperatureOf s.config.points code), lastRound := some s.bankTime, faultStreak := 0 }
             scanner := { s.scanner with rounds := s.scanner.rounds.setIfInBounds b none } } u)))

/-- R47, R48, R49, R88: a valid round of a waiting bay sets its temperature, its state by the thresholds, and its demand by R120; no
notice but READY. -/
def Obligations.ValidRoundOfAWaitingBay : Prop :=
  ∀ (s : State) (b : Nat) (t : Int), b < 48 →
    let p := s.boundProfile b
    let d := demandFor p.setpoint t p.gain
    let record := fun st => { s.bay b with
      state := st, lastTemp := some t, lastRound := some s.bankTime, faultStreak := 0, demand := d }
    ((s.bay b).state = .preheating → p.setpoint - p.margin ≤ t →
      s.validRound b t = { s with
        bays := s.bays.setIfInBounds b (record .ready)
        bayNotices := s.bayNotices.setIfInBounds b { s.notices b with ready := true } }) ∧
    ((s.bay b).state = .preheating → t < p.setpoint - p.margin →
      s.validRound b t = { s with bays := s.bays.setIfInBounds b (record .preheating) }) ∧
    ((s.bay b).state = .ready → t < p.setpoint - 2 * p.margin →
      s.validRound b t = { s with bays := s.bays.setIfInBounds b (record .preheating) }) ∧
    ((s.bay b).state = .ready → p.setpoint - 2 * p.margin ≤ t →
      s.validRound b t = { s with bays := s.bays.setIfInBounds b (record .ready) })

/-- R89, R90, R91: a fault round outside a hold raises the streak; the third sets sensor_fault, raises BAY_FAULT once, and takes an idle or
waiting bay out of service. -/
def Obligations.FaultRoundsOutsideAHold : Prop :=
  ∀ (s : State) (b : Nat), b < 48 → (s.bay b).faultStreak ≤ 3 →
    let st := (s.bay b).state
    let notices := fun t : State =>
      t.notices b = { s.notices b with bayFault := (s.notices b).bayFault || !(s.bay b).sensorFault }
    (st ≠ .holding → st ≠ .releasing → st ≠ .outOfService → (s.bay b).faultStreak < 2 →
      s.faultRound b = { s with
        bays := s.bays.setIfInBounds b { s.bay b with
          lastRound := some s.bankTime, faultStreak := (s.bay b).faultStreak + 1 } }) ∧
    (st = .loading ∨ st = .collecting ∨ st = .withdrawn → 2 ≤ (s.bay b).faultStreak →
      (s.faultRound b).bay b = { s.bay b with lastRound := some s.bankTime, faultStreak := 3, sensorFault := true } ∧
      notices (s.faultRound b) ∧ OnlyBays s (s.faultRound b) [b] ∧ (s.faultRound b).directory = s.directory) ∧
    (st = .vacant ∨ st = .booked ∨ st = .preheating ∨ st = .ready → 2 ≤ (s.bay b).faultStreak →
      (s.faultRound b).bay b = { Bay.empty with
        state := .outOfService, oosReason := some .sensor, sensorFault := true, faultStreak := 3, lastRound := some s.bankTime
        clearing := (s.bay b).clearing, timer := if (s.bay b).clearing then (s.bay b).timer else none } ∧
      notices (s.faultRound b) ∧ OnlyBays s (s.faultRound b) [b] ∧ (s.faultRound b).latch = s.latch ∧
      (s.faultRound b).directory = match (s.bay b).entry with
        | some code => s.directory.removeBay code b
        | none => s.directory)

/-! ### Hold Accounting (06) -/

/-- R96 to R103, R168: a valid round of a held bay charges the interval, withdraws the bay at a limit, returning the front latch of a RELEASING one
(against a LOCKING record: log 18), and otherwise sets its demand. -/
def Obligations.ValidRoundOfAHold : Prop :=
  ∀ (s : State) (b : Nat) (t : Int), b < 48 → (s.bay b).state = .holding ∨ (s.bay b).state = .releasing →
    let r := s.bay b
    let p := s.boundProfile b
    let dt := elapsedInterval r s.bankTime
    let cold := if t < p.floor then min (r.qCold + (p.floor - t).toNat * dt) 16777215 else r.qCold
    let hot := if p.ceiling < t then min (r.qHot + (t - p.ceiling).toNat * dt) 16777215 else r.qHot
    let charged := { r with
      qCold := cold, qHot := hot, restartPenaltyPending := 0, lastTemp := some t, lastRound := some s.bankTime, faultStreak := 0 }
    let s1 := { s with bays := s.bays.setIfInBounds b charged }
    (¬ atLimit cold p.qmaxCold → ¬ atLimit hot p.qmaxHot →
      s.validRound b t =
        { s with bays := s.bays.setIfInBounds b { charged with demand := demandFor p.setpoint t p.gain } }) ∧
    (atLimit cold p.qmaxCold → Withdrawn s1 (s.validRound b t) b .cold ∧ OnlyBays s (s.validRound b t) [b]) ∧
    (¬ atLimit cold p.qmaxCold → atLimit hot p.qmaxHot →
      Withdrawn s1 (s.validRound b t) b .hot ∧ OnlyBays s (s.validRound b t) [b]) ∧
    (r.state = .holding → (s.validRound b t).latch = s.latch) ∧
    (r.state = .releasing → atLimit cold p.qmaxCold ∨ atLimit hot p.qmaxHot → FrontReturned s (s.validRound b t) b)

/-- R90, R96, R101 to R103, R168: a fault round of a held bay charges the fault penalty; the third in a row withdraws the bay, for SENSOR unless a
limit is reached, returning the front latch of a RELEASING one (against a LOCKING record: log 18). -/
def Obligations.FaultRoundOfAHold : Prop :=
  ∀ (s : State) (b : Nat), b < 48 → (s.bay b).faultStreak ≤ 3 → (s.bay b).state = .holding ∨ (s.bay b).state = .releasing →
    let r := s.bay b
    let p := s.boundProfile b
    let cold := min (r.qCold + p.penalty * elapsedInterval r s.bankTime) 16777215
    let third := 2 ≤ r.faultStreak
    let charged := { r with
      qCold := cold, restartPenaltyPending := 0, lastRound := some s.bankTime, faultStreak := min 3 (r.faultStreak + 1)
      sensorFault := r.sensorFault || decide third }
    let s1 := { s with
      bays := s.bays.setIfInBounds b charged
      bayNotices := if third ∧ r.sensorFault = false then s.bayNotices.setIfInBounds b { s.notices b with bayFault := true }
        else s.bayNotices }
    (¬ atLimit cold p.qmaxCold → ¬ atLimit r.qHot p.qmaxHot → ¬ third → s.faultRound b = s1) ∧
    (atLimit cold p.qmaxCold → Withdrawn s1 (s.faultRound b) b .cold ∧ OnlyBays s (s.faultRound b) [b]) ∧
    (¬ atLimit cold p.qmaxCold → atLimit r.qHot p.qmaxHot →
      Withdrawn s1 (s.faultRound b) b .hot ∧ OnlyBays s (s.faultRound b) [b]) ∧
    (¬ atLimit cold p.qmaxCold → ¬ atLimit r.qHot p.qmaxHot → third →
      Withdrawn s1 (s.faultRound b) b .sensor ∧ OnlyBays s (s.faultRound b) [b]) ∧
    (r.state = .holding → (s.faultRound b).latch = s.latch) ∧
    (r.state = .releasing → atLimit cold p.qmaxCold ∨ atLimit r.qHot p.qmaxHot ∨ third → FrontReturned s (s.faultRound b) b)

/-- R106: the freshness index. -/
def Obligations.FreshnessIndex : Prop :=
  ∀ (s : State) (b : Nat),
    let p := s.boundProfile b
    let side := fun q qmax : Nat => if qmax = 0 then (100 : Int) else max 0 (100 - (100 * q : Int) / qmax)
    (s.freshness b : Int) = min (side (s.bay b).qCold p.qmaxCold) (side (s.bay b).qHot p.qmaxHot) ∧ s.freshness b ≤ 100

/-- R2, R108, R109, R168: the deadline withdraws a HOLDING or RELEASING bay, and returns the front latch of a RELEASING one. Against a LOCKING
record the waiting UNLOCK is withdrawn, which is the model's reading (log 18). -/
def Obligations.DeadlineExpiry : Prop :=
  ∀ (s : State) (b : Nat), s.running = true → b < 48 →
    let held := (s.bay b).state = .holding ∨ (s.bay b).state = .releasing
    (∀ d, held → (s.bay b).deadline = some d → d ≤ s.bankTime → ∃ t, exec (.deadlineExpiry b) s = .next t ∧
      Withdrawn s t b .deadline ∧ OnlyBays s t [b] ∧
      ((s.bay b).state = .holding → t.latch = s.latch) ∧
      ((s.bay b).state = .releasing → FrontReturned s t b)) ∧
    (¬ held ∨ (∀ d, (s.bay b).deadline = some d → s.bankTime < d) → exec (.deadlineExpiry b) s = .next s)

/-! ### Heater Power Allocation (07) -/

/-- R120: a valid round sets the demand of a bay in a heating state from its setpoint error and gain. -/
def Obligations.DemandFollowsTheError : Prop :=
  ∀ (s : State) (b : Nat) (t : Int), b < 48 → (s.bay b).state.heating = true →
    let p := s.boundProfile b
    ∃ d : Nat, s.setDemand b t = { s with bays := s.bays.setIfInBounds b { s.bay b with demand := d } } ∧ d ≤ 16 ∧
      (∀ q : Int, 64 * q ≤ (p.setpoint - t) * p.gain + 32 → (p.setpoint - t) * p.gain + 32 < 64 * q + 64 →
        (d : Int) = max 0 (min q 16))

/-- R124, R125: the allocation order holds every eligible bay once, class by class, and within a class from the rotation pointer on. -/
def Obligations.AllocationOrder : Prop :=
  ∀ s : State, s.heater.rotation < 48 →
    let p := s.heater.rotation
    (∀ b, b ∈ s.allocationOrder ↔ b < 48 ∧ (s.bay b).state.heating = true ∧
      (s.door (2 * b)).closed = true ∧ (s.door (2 * b + 1)).closed = true) ∧
    s.allocationOrder.Pairwise fun x y => heatRank s x < heatRank s y ∨
      (heatRank s x = heatRank s y ∧ (x + 48 - p) % 48 < (y + 48 - p) % 48)

/-- R123, R126, R127, R129: a window start adopts the budget where the pulses allow it, grants the units in allocation order, lays the runs
end to end, and sets the gates of half-cycle 0. -/
def Obligations.WindowStartAllocates : Prop :=
  ∀ s : State, s.running = true →
    let t := s.startWindow
    let wanted : Budget := { b := s.config.budget, lmaxEff := min s.config.lmax (s.config.budget - 1)
                             h := s.config.budget - min s.config.lmax (s.config.budget - 1) }
    let units := 16 * t.heater.budget.h
    t = { s with mains := { s.mains with position := some 0 }
                 heater := { s.heater with
                   budget := t.heater.budget, schedule := t.heater.schedule, gates := t.heater.gates } } ∧
    t.heater.budget = (if s.energised ≤ wanted.lmaxEff then wanted else s.heater.budget) ∧
    (∀ (before after : List Nat) (b : Nat), s.heater.rotation < 48 → s.allocationOrder = before ++ b :: after →
      let used := (before.map (grantTo t.heater.schedule)).sum
      grantTo t.heater.schedule b = min (s.bay b).demand (units - used) ∧ used ≤ units ∧
      (t.heater.schedule.filter fun r => r.bay = b) =
        if grantTo t.heater.schedule b = 0 then []
        else [{ bay := b, first := used, length := grantTo t.heater.schedule b, cut := false }]) ∧
    (∀ r ∈ t.heater.schedule, r.bay ∈ s.allocationOrder) ∧
    (∀ b < 48, t.gate b = true ↔ ∃ r ∈ t.heater.schedule, r.bay = b ∧ r.cut = false ∧
      ∃ n, r.first ≤ n ∧ n < r.first + r.length ∧ n % 16 = 0)

/-- R115 to R118, R128, R131: what a crossing does by its class and the mains state, the first one after a start among them, and what 25 ms without
one do. -/
def Obligations.CrossingsDriveTheWindow : Prop :=
  (∀ (s : State) (c t : Nat), s.running = true → s.mains.lastCrossing = some c →
     let now := max s.clock t
     let taken := { s with clock := now, mains := { s.mains with lastCrossing := some now, watch := true } }
     (now - c < 7000 → exec (.zcCrossing t) s = .next { s with clock := now }) ∧
     (12000 < now - c → s.mains.present = false →
       exec (.zcCrossing t) s = .next { taken with mains := { taken.mains with settle := 0 } }) ∧
     (7000 ≤ now - c → now - c ≤ 12000 → s.mains.present = false → s.mains.settle < 7 →
       exec (.zcCrossing t) s = .next { taken with mains := { taken.mains with settle := s.mains.settle + 1 } }) ∧
     (7000 ≤ now - c → now - c ≤ 12000 → s.mains.present = false → s.mains.settle = 7 →
       exec (.zcCrossing t) s = .next (State.startWindow { taken with
         mains := { taken.mains with settle := 8, present := true }
         bankNotices := { s.bankNotices with mainsReturned := true } })) ∧
     (12000 < now - c → s.mains.present = true →
       exec (.zcCrossing t) s = .next { taken with
         mains := { taken.mains with position := none }
         heater := { s.heater with schedule := [], gates := Vector.replicate 48 false } }) ∧
     (7000 ≤ now - c → now - c ≤ 12000 → s.mains.present = true → s.mains.position = none →
       exec (.zcCrossing t) s = .next taken.startWindow) ∧
     (∀ h, 7000 ≤ now - c → now - c ≤ 12000 → s.mains.present = true → s.mains.position = some h → h < 15 →
       ∃ u, exec (.zcCrossing t) s = .next u ∧
         u = { taken with
           mains := { taken.mains with position := some (h + 1) }, heater := { s.heater with gates := u.heater.gates } } ∧
         (∀ b < 48, u.gate b = true ↔ ∃ r ∈ s.heater.schedule, r.bay = b ∧ r.cut = false ∧
           ∃ n, r.first ≤ n ∧ n < r.first + r.length ∧ n % 16 = h + 1)) ∧
     (7000 ≤ now - c → now - c ≤ 12000 → s.mains.present = true → s.mains.position = some 15 →
       exec (.zcCrossing t) s = .next
         (State.startWindow { taken with heater := { s.heater with rotation := (s.heater.rotation + 1) % 48 } }))) ∧
  (∀ (s : State) (c t : Nat), s.running = true → s.mains.lastCrossing = some c → s.mains.watch = true →
     let now := max s.clock t
     (now < c + 25000 → exec (.absenceWatchExpiry t) s = .next { s with clock := now }) ∧
     (c + 25000 ≤ now → s.mains.present = false →
       exec (.absenceWatchExpiry t) s = .next { s with clock := now, mains := { s.mains with settle := 0, watch := false } }) ∧
     (c + 25000 ≤ now → s.mains.present = true →
       exec (.absenceWatchExpiry t) s = .next { s with
         clock := now, mains := { s.mains with present := false, settle := 0, watch := false, position := none }
         heater := { s.heater with schedule := [], gates := Vector.replicate 48 false }
         bankNotices := { s.bankNotices with mainsLost := true } })) ∧
  (∀ (s : State) (t : Nat), s.running = true →
     let now := max s.clock t
     let taken := { s with clock := now, mains := { s.mains with lastCrossing := some now, watch := true } }
     (s.mains.lastCrossing = none → s.mains.present = false →
       exec (.zcCrossing t) s = .next { taken with mains := { taken.mains with settle := 0 } }) ∧
     (s.mains.lastCrossing = none → s.mains.present = true →
       exec (.zcCrossing t) s = .next { taken with
         mains := { taken.mains with position := none }
         heater := { s.heater with schedule := [], gates := Vector.replicate 48 false } }) ∧
     (s.mains.lastCrossing = none ∨ s.mains.watch = false →
       exec (.absenceWatchExpiry t) s = .next { s with clock := now }))

/-! ### Doors and Latches (08) -/

/-- R135, R137: a switch change makes or ends the candidate of its door; no event comes before it has stood 40 ms; the door's alarm raises
DOOR_LEFT_OPEN once. -/
def Obligations.SwitchesAndAlarms : Prop :=
  ∀ (s : State) (d t : Nat), s.running = true → d < 96 →
    let now := max s.clock t
    (∀ level : Bool, exec (.doorSwitchChange d level t) s = .next { s with
      clock := now, pins := { s.pins with switches := s.pins.switches.setIfInBounds d level }
      doors := s.doors.setIfInBounds d { s.door d with
        candidate := if level = (s.door d).closed then none
          else some ((s.door d).candidate.getD { closed := level, since := now }) } }) ∧
    ((s.door d).candidate = none ∨ (∃ c, (s.door d).candidate = some c ∧ now < c.since + 40000) →
      exec (.doorOpened d t) s = .next { s with clock := now } ∧ exec (.doorClosed d t) s = .next { s with clock := now }) ∧
    (∀ e, (s.door d).alarm = some e → e ≤ s.bankTime →
      exec (.doorAlarmExpiry d) s = .next { s with
        doors := s.doors.setIfInBounds d { s.door d with alarm := none }
        bayNotices := s.bayNotices.setIfInBounds (d / 2)
          (if d % 2 = 0 then { s.notices (d / 2) with doorLeftOpenFront := true }
           else { s.notices (d / 2) with doorLeftOpenRear := true }) }) ∧
    ((∀ e, (s.door d).alarm = some e → s.bankTime < e) → exec (.doorAlarmExpiry d) s = .next s)

/-- R130, R136, R137, R147, R168, R171: a door opened against a LOCKED record is forced: the notice, the withdrawal of a meal, the heater
run cut, the alarm started. -/
def Obligations.ForcedDoor : Prop :=
  ∀ (s : State) (d x t : Nat), s.running = true → d < 96 → (s.door d).candidate = some { closed := false, since := x } →
    x + 40000 ≤ max s.clock t → s.latchPosition d = .locked →
    let b := d / 2
    let st := (s.bay b).state
    let forced := if d % 2 = 0 then { s.notices b with doorForcedFront := true } else { s.notices b with doorForcedRear := true }
    let alarm := if d % 2 = 0 then s.config.alarmFront else s.config.alarmRear
    let withdrawn := { s.bay b with
      state := .withdrawn, withdrawReason := some .forced, expectedLoad := none, lapseAt := none, restartPenaltyPending := 0
      demand := 0, timer := none, rearOpened := false }
    ∃ u, exec (.doorOpened d t) s = .next u ∧
      OnlyBays { s with
        clock := max s.clock t
        doors := s.doors.setIfInBounds d { closed := false, candidate := none
                                           alarm := some (min (s.bankTime + 10 * alarm) 4294967295) } } u [b] ∧
      u.directory = s.directory ∧ u.gate b = false ∧ (∀ r ∈ u.heater.schedule, r.bay = b → r.cut = true) ∧
      (st = .holding ∨ st = .releasing ∨ st = .loading →
        u.bay b = withdrawn ∧ u.notices b = { forced with withdrawn := some .forced } ∧
        u.scanner.rounds.getD b none = none) ∧
      (st ≠ .holding → st ≠ .releasing → st ≠ .loading → u.bay b = s.bay b ∧ u.notices b = forced) ∧
      (st ≠ .releasing → st ≠ .loading → u.latch = s.latch) ∧
      (st = .releasing → s.latchPosition (2 * b) = .locked → u.latch = (s.withdrawRequest (2 * b) .unlock).latch) ∧
      (st = .releasing → s.latchPosition (2 * b) = .unlocked ∨ s.latchPosition (2 * b) = .unlocking →
        u.latch = (s.requestLock (2 * b)).latch) ∧
      (st = .loading → s.latchPosition (2 * b + 1) = .locked ∨ s.latchPosition (2 * b + 1) = .locking →
        u.latch = (s.withdrawRequest (2 * b + 1) .unlock).latch) ∧
      (st = .loading → s.latchPosition (2 * b + 1) = .unlocked ∨ s.latchPosition (2 * b + 1) = .unlocking →
        (s.door (2 * b + 1)).closed = true →
        u.latch = ((s.withdrawRequest (2 * b + 1) .unlock).requestLock (2 * b + 1)).latch)

/-- R64, R136, R162, R163: openings that are not forced: the front door of a RELEASING bay, or of a HOLDING one whose latch is released,
begins the collection; the rear door of a LOADING bay sets rear_opened. -/
def Obligations.UnforcedOpenings : Prop :=
  ∀ (s : State) (d x t : Nat), s.running = true → d < 96 → (s.door d).candidate = some { closed := false, since := x } →
    x + 40000 ≤ max s.clock t → s.latchPosition d ≠ .locked →
    let b := d / 2
    let st := (s.bay b).state
    let alarm := if d % 2 = 0 then s.config.alarmFront else s.config.alarmRear
    let collecting := { s.bay b with state := .collecting, timer := none, restartPenaltyPending := 0, demand := 0 }
    ∃ u, exec (.doorOpened d t) s = .next u ∧
      OnlyBays { s with
        clock := max s.clock t
        doors := s.doors.setIfInBounds d { closed := false, candidate := none
                                           alarm := some (min (s.bankTime + 10 * alarm) 4294967295) } } u [b] ∧
      u.directory = s.directory ∧ u.bayNotices = s.bayNotices ∧ u.scanner = s.scanner ∧ u.gate b = false ∧
      (∀ r ∈ u.heater.schedule, r.bay = b → r.cut = true) ∧
      (d % 2 = 0 → st = .releasing → u.bay b = collecting ∧ u.latch = s.latch) ∧
      (d % 2 = 0 → st = .holding → s.latchPosition d = .unlocked ∨ s.latchPosition d = .locking →
        u.bay b = collecting ∧ u.latch = (s.withdrawRequest d .lock).latch) ∧
      (d % 2 = 1 → st = .loading → u.bay b = { s.bay b with rearOpened := true } ∧ u.latch = s.latch) ∧
      (d % 2 = 0 → st ≠ .releasing → st ≠ .holding → u.bay b = s.bay b ∧ u.latch = s.latch) ∧
      (d % 2 = 1 → st ≠ .loading → u.bay b = s.bay b ∧ u.latch = s.latch)

/-- R7 to R9, R30, R136, R142, R146, R166: the front close that ends a collection, and the relock test of a close that begins no hold and ends no
collection and no clearing. That the end of a collection withdraws an UNLOCK still pending for the front is read from R139
(log 21). -/
def Obligations.FrontCloseEndsCollection : Prop :=
  ∀ (s : State) (d x t : Nat), s.running = true → d < 96 →
    (s.door d).candidate = some { closed := true, since := x } → x + 40000 ≤ max s.clock t →
    let b := d / 2
    let r := s.bay b
    let cleared := s.latch.records.setIfInBounds d { position := s.latchPosition d, openAfterFailedLock := false }
    let base := { s with
      clock := max s.clock t, doors := s.doors.setIfInBounds d { closed := true, candidate := none, alarm := none }
      latch := { s.latch with records := cleared } }
    let toLocked := s.latchPosition d = .locked ∨ s.latchPosition d = .locking
    let toUnlocked := s.latchPosition d = .unlocked ∨ s.latchPosition d = .unlocking
    let kept := if d % 2 = 0 then r.state = .releasing else r.state = .loading
    (d % 2 = 0 → r.state = .collecting → ∃ u, exec (.doorClosed d t) s = .next u ∧ OnlyBays base u [b] ∧ Retired s u b ∧
      u.notices b = { s.notices b with collected := true } ∧ u.heater = s.heater ∧
      (toUnlocked → u.latch = { ((s.withdrawRequest d .unlock).requestLock d).latch with records := cleared }) ∧
      (toLocked → u.latch = { (s.withdrawRequest d .unlock).latch with records := cleared })) ∧
    ((d % 2 = 0 ∧ r.state ≠ .collecting) ∨ (d % 2 = 1 ∧ r.clearing = false ∧ (r.state = .loading → r.rearOpened = false)) →
      (toUnlocked → ¬ kept →
        exec (.doorClosed d t) s = .next { base with latch := { (s.requestLock d).latch with records := cleared } }) ∧
      (toLocked ∨ kept → exec (.doorClosed d t) s = .next base))

/-- R63, R141, R161, R180: a request for a door against its record and its pending request, and the window that the completion of an UNLOCK
starts by the bay at that moment. -/
def Obligations.RequestsAndCompletions : Prop :=
  (∀ (s : State) (b : Nat), b < 48 →
     let st := (s.bay b).state
     let timed := fun n => { s with
       bays := s.bays.setIfInBounds b { s.bay b with timer := some (min (s.bankTime + 10 * n) 4294967295) } }
     let clears := (s.bay b).clearing = true ∧ (st = .withdrawn ∨ st = .outOfService ∨ st = .vacant)
     (st = .releasing → (s.bay b).timer = none → s.unlockCompletion (2 * b) = timed s.config.releaseTimeout) ∧
     (st ≠ .releasing ∨ (s.bay b).timer ≠ none → s.unlockCompletion (2 * b) = s) ∧
     (st = .loading → (s.bay b).timer = none → s.unlockCompletion (2 * b + 1) = timed s.config.loadWindow) ∧
     (clears → (s.bay b).timer = none → s.unlockCompletion (2 * b + 1) = timed s.config.clearingWindow) ∧
     ((s.bay b).timer ≠ none ∨ (st ≠ .loading ∧ ¬ clears) → s.unlockCompletion (2 * b + 1) = s)) ∧
  (∀ (s : State) (d : Nat) (a : LatchAction) (c : RequestClass), s.QueueOrdered → (a = .lock → c = .lock) →
     let t := s.request d a c
     let here := a = (match s.latchPosition d with | .locked | .locking => LatchAction.lock | .unlocked | .unlocking => .unlock)
     t = { s with bays := t.bays, latch := { s.latch with queue := t.latch.queue, nextArrival := t.latch.nextArrival } } ∧
     (here → (∀ r, r ∈ t.latch.queue ↔ r ∈ s.latch.queue ∧ r.door ≠ d) ∧
       (s.pulseRuns d = true ∨ a = .lock → t.bays = s.bays) ∧
       (s.pulseRuns d = false → a = .unlock → t.bays = (s.unlockCompletion d).bays)) ∧
     (¬ here → t.bays = s.bays ∧ (∀ r, r.door ≠ d → (r ∈ t.latch.queue ↔ r ∈ s.latch.queue)) ∧
       (s.pendingFor d = none → t.pendingFor d = some { door := d, action := a, cls := c, arrival := s.latch.nextArrival }) ∧
       (∀ r, s.pendingFor d = some r → t.pendingFor d = some { r with cls := if r.cls.rank ≤ c.rank then r.cls else c })))

/-- R80, R143, R149, R150: a grant takes the head of the queue to the lowest free channel, drives its outputs, and holds the scanner off; there is
none past Lmax_eff, under the guard, without a free channel, or while a pulse runs for the head's door (that the queue behind it
waits too is the model's choice, log 37); the guard is engaged when the stall timer has run 2 s. -/
def Obligations.GrantsAndTheGuard : Prop :=
  ∀ (s : State) (t : Nat), s.running = true →
    let now := max s.clock t
    (∀ (r : LatchRequest) (rest : List LatchRequest) (c : Nat), s.latch.queue = r :: rest → c < 4 →
      s.latch.channels.getD c none = none → (∀ c' < c, s.latch.channels.getD c' none ≠ none) →
      s.energised < s.heater.budget.lmaxEff → s.latch.guard = false → s.pulseRuns r.door = false →
      ∃ u, exec (.latchGrant t) s = .next u ∧
        u = { s with
          clock := now, scanner := { s.scanner with conversion := none, discard := false }
          latch := { s.latch with
            queue := rest
            records := s.latch.records.setIfInBounds r.door { s.latchRecord r.door with
              position := match r.action with | .lock => .locking | .unlock => .unlocking }
            channels := s.latch.channels.setIfInBounds c
              (some { door := r.door, action := r.action, startedAt := now, length := 10000 * s.config.pulseUnits })
            stallTimer :=
              if ∃ p, s.scanner.pass = some p ∧ p.remaining ≠ [] then some (s.latch.stallTimer.getD now)
              else s.latch.stallTimer } } ∧
        u.lsel r.door = true ∧ u.lda c = decide (r.action = .lock) ∧ u.ldb c = decide (r.action = .unlock) ∧
        (∀ d, d ≠ r.door → u.lsel d = s.lsel d) ∧ ∀ c', c' ≠ c → u.lda c' = s.lda c' ∧ u.ldb c' = s.ldb c') ∧
    (s.latch.queue = [] ∨ s.heater.budget.lmaxEff ≤ s.energised ∨ s.latch.guard = true ∨
        (∃ r, s.latch.queue.head? = some r ∧ s.pulseRuns r.door = true) ∨ (∀ c < 4, s.latch.channels.getD c none ≠ none) →
      exec (.latchGrant t) s = .next { s with clock := now }) ∧
    (∀ since, s.latch.stallTimer = some since →
      exec (.stallTimerExpiry t) s = .next { s with
        clock := now, latch := { s.latch with guard := s.latch.guard || decide (since + 2000000 ≤ now) } })

/-- R63, R76, R80, R144, R145, R150, R161, R180: the ends of the pulses: the record, LOCK_FAILED, the completion, the outputs low, and, when the last
pulse has ended, the scanner going on with the first bay left in its pass that is not OUT_OF_SERVICE, or ending the pass (that the bay
of an abandoned pair is passed over too when it is then OUT_OF_SERVICE: log 38). -/
def Obligations.PulsesEnd : Prop :=
  ∀ (s : State) (c t : Nat) (p : Pulse), s.running = true → c < 4 → p.door < 96 → s.latch.channels.getD c none = some p →
    let now := max s.clock t
    let ended := fun (position : LatchPosition) (failed : Bool) (queue : List LatchRequest) => { s with
      clock := now, latch := { s.latch with
        channels := s.latch.channels.setIfInBounds c none, queue := queue
        records := s.latch.records.setIfInBounds p.door { position := position, openAfterFailedLock := failed } } }
    let goesOn := fun v u : State =>
      (1 < s.energised ∨ s.scanner.pass = none → u = v) ∧
      (∀ (pass : Pass) (past : List Nat) (b : Nat) (rest : List Nat), s.energised = 1 → s.scanner.pass = some pass →
        pass.remaining = past ++ b :: rest → (∀ a ∈ past, (s.bay a).state = .outOfService) → (s.bay b).state ≠ .outOfService →
        u = { v with scanner := { s.scanner with
          pass := some { pass with remaining := b :: rest }, discard := false
          conversion := some { bay := b, phase := .settling, since := now, filter := 4000 * 2 ^ s.config.filterCode } } }) ∧
      (∀ pass : Pass, s.energised = 1 → s.scanner.pass = some pass → (∀ a ∈ pass.remaining, (s.bay a).state = .outOfService) →
        u = { v with
          scanner := { s.scanner with pass := none, conversion := none, discard := false }
          latch := { v.latch with stallTimer := none, guard := false } }) ∧
      u.lda c = false ∧ u.ldb c = false ∧
      ((∀ c' < 4, c' ≠ c → ∀ q, s.latch.channels.getD c' none = some q → q.door ≠ p.door) → u.lsel p.door = false)
    let hasRun := p.startedAt + p.length ≤ now
    let kept := (s.latchRecord p.door).openAfterFailedLock
    let notices := s.bayNotices.setIfInBounds (p.door / 2)
      (if p.door % 2 = 0 then { s.notices (p.door / 2) with lockFailedFront := true }
       else { s.notices (p.door / 2) with lockFailedRear := true })
    (now < p.startedAt + p.length →
      exec (.unlockPulseEnd c t) s = .next { s with clock := now } ∧ exec (.lockPulseEnd c t) s = .next { s with clock := now }) ∧
    (p.action = .unlock → hasRun → ∃ u, exec (.unlockPulseEnd c t) s = .next u ∧
      goesOn { ended .unlocked kept s.latch.queue with bays := (s.unlockCompletion p.door).bays } u) ∧
    (p.action = .lock → hasRun → (s.door p.door).closed = true → ∃ u, exec (.lockPulseEnd c t) s = .next u ∧
      goesOn (ended .locked kept s.latch.queue) u) ∧
    (p.action = .lock → hasRun → (s.door p.door).closed = false → (∀ r, s.pendingFor p.door = some r → r.action = .lock) →
      ∃ u, exec (.lockPulseEnd c t) s = .next u ∧
        goesOn { ended .unlocked true s.latch.queue with bayNotices := notices } u) ∧
    (∀ r, p.action = .lock → hasRun → (s.door p.door).closed = false → s.pendingFor p.door = some r → r.action = .unlock →
      ∃ u, exec (.lockPulseEnd c t) s = .next u ∧
        goesOn { ended .unlocked true (s.latch.queue.filter (·.door ≠ p.door)) with
          bays := (s.unlockCompletion p.door).bays, bayNotices := notices } u)

/-! ### Release and Collection (09) -/

/-- R153, R154: what a character, a pause of 2 s and the end of a reply do to a kiosk port. That a KIOSK_ENTRY outside RECEIVING, a KIOSK_FRAME_TIMEOUT
that is early or outside RECEIVING and a KIOSK_REPLY_DONE outside REPLYING change nothing is the model's choice (log 4); so is that
the carriage return of a frame and the row KIOSK_ENTRY are one event (log 26). The end of the pause is not saturated (log 39). A carriage return
without its stop bit does not end the frame (log 41), and an abandoned frame leaves the malformed mark clear (log 42). -/
def Obligations.KioskCharacters : Prop :=
  ∀ (s : State) (l : KioskLine) (ch : Byte) (stop : Bool), s.running = true →
    let p := s.port l
    let becomes := fun q => exec (.kioskCharacter l ch stop) s = .next (s.setPort l q)
    (p.phase = .idle → ch = 0x45 → stop = true →
      becomes { p with phase := .receiving, digits := [], malformed := false, lastCharacter := s.bankTime }) ∧
    (p.phase = .idle → ch ≠ 0x45 ∨ stop = false → becomes p) ∧
    (p.phase = .replying → becomes p) ∧
    (∀ n ≤ 9, p.phase = .receiving → ch = byteOf (0x30 + n) → stop = true → p.digits.length < 6 →
      becomes { p with digits := p.digits ++ [n], lastCharacter := s.bankTime }) ∧
    (p.phase = .receiving → ch ≠ 0x0D ∨ stop = false →
      (∀ n ≤ 9, ch ≠ byteOf (0x30 + n)) ∨ stop = false ∨ 6 ≤ p.digits.length →
      becomes { p with malformed := true, lastCharacter := s.bankTime }) ∧
    (p.phase = .receiving → ch = 0x0D → stop = true → exec (.kioskCharacter l ch stop) s = exec (.kioskEntry l) s) ∧
    (p.phase ≠ .receiving → exec (.kioskEntry l) s = .next s) ∧
    (p.phase = .receiving → p.lastCharacter + 20 ≤ s.bankTime →
      exec (.kioskFrameTimeout l) s = .next (s.setPort l { p with phase := .idle, digits := [], malformed := false })) ∧
    (p.phase ≠ .receiving ∨ s.bankTime < p.lastCharacter + 20 → exec (.kioskFrameTimeout l) s = .next s) ∧
    (p.phase = .replying → exec (.kioskReplyDone l) s = .next (s.setPort l { p with phase := .idle, reply := [] })) ∧
    (p.phase ≠ .replying → exec (.kioskReplyDone l) s = .next s)

/-- R155, R156, R157, R158, R160: a code entry: locked out, a failure which may lock the line out, or a code found, whose HOLDING bays are released
one by one in ascending order, each against its front latch as O50 gives. -/
def Obligations.KioskEntries : Prop :=
  ∀ (s : State) (l : KioskLine), s.running = true → (s.port l).phase = .receiving → (s.port l).failures.length ≤ 5 →
    let p := s.port l
    let now := s.bankTime
    let free := ∀ e, p.lockout = some e → e ≤ now
    let code := p.digits.foldl (fun n d => 10 * n + d) 0
    let formed := p.digits.length = 6 ∧ p.malformed = false
    let replies := fun (q : KioskPort) (reply : List Byte) => { q with phase := .replying, lastCharacter := now, reply := reply }
    let list := (if p.failures.length < 5 then p.failures else p.failures.drop 1) ++ [now]
    let failed := fun letter =>
      if list.length = 5 ∧ now - list.headD 0 ≤ 600 then
        replies { p with failures := [], lockout := some (min (now + 1200) 4294967295) } [0x41, letter, 0x30, 0x30, 0x0D]
      else replies { p with failures := list, lockout := none } [0x41, letter, 0x30, 0x30, 0x0D]
    (∀ e, p.lockout = some e → now < e →
      exec (.kioskEntry l) s = .next (s.setPort l (replies p [0x41, 0x4C, 0x30, 0x30, 0x0D]))) ∧
    (free → ¬ formed → exec (.kioskEntry l) s = .next (s.setPort l (failed 0x4D))) ∧
    (free → formed → s.findCode code = none → exec (.kioskEntry l) s = .next (s.setPort l (failed 0x55))) ∧
    (∀ e, free → formed → s.findCode code = some e → ∃ t,
      exec (.kioskEntry l) s = .next t ∧ OnlyBays (s.setPort l (t.port l)) t e.bays ∧ t.directory = s.directory ∧
      t.bayNotices = s.bayNotices ∧
      (s.directory.Ordered →
        t = ((e.bays.filter fun b => (s.bay b).state = .holding).foldl State.releaseBay s).setPort l (t.port l)) ∧
      (∀ b ∈ e.bays, b < 48 →
        ((s.bay b).state ≠ .holding → t.bay b = s.bay b) ∧
        ((s.bay b).state = .holding →
          (t.bay b).state = if (s.door (2 * b)).closed then .releasing else .collecting)) ∧
      t.port l = replies { p with failures := [], lockout := none } (
        let opening := e.bays.filter fun b => (t.bay b).state = .releasing ∨ (t.bay b).state = .collecting
        let withdrawn := e.bays.filter fun b => (t.bay b).state = .withdrawn
        let letter := if opening ≠ [] then 0x4F else if withdrawn.length < e.bays.length then 0x4E else 0x57
        [0x41, letter, byteOf (0x30 + opening.length)] ++
          (opening.map fun b => [byteOf (0x30 + b / 10), byteOf (0x30 + b % 10)]).flatten ++
          [byteOf (0x30 + withdrawn.length), 0x0D]))

/-- R160, R164: a release against the front latch, and the release timer that returns the bay to HOLDING or, the deadline reached, to
WITHDRAWN in the same step (log 17). -/
def Obligations.ReleasesAndTheirTimer : Prop :=
  ∀ (s : State) (b : Nat), s.running = true → b < 48 →
    let d := 2 * b
    let st := (s.bay b).state
    let late := ∃ e, (s.bay b).deadline = some e ∧ e ≤ s.bankTime
    (st = .holding → (s.door d).closed = true → s.pendingFor d = none → s.latchPosition d = .locked ∨ s.latchPosition d = .locking →
      s.releaseBay b = { s.enqueue d .unlock .collection with
        bays := s.bays.setIfInBounds b { s.bay b with state := .releasing } }) ∧
    (st = .holding → (s.door d).closed = true → s.latchPosition d = .unlocked → s.pulseRuns d = false → (s.bay b).timer = none →
      s.releaseBay b = { s.dropRequest d with
        bays := s.bays.setIfInBounds b { s.bay b with
          state := .releasing, timer := some (min (s.bankTime + 10 * s.config.releaseTimeout) 4294967295) } }) ∧
    (st = .holding → (s.door d).closed = false →
      (s.releaseBay b).bay b = { s.bay b with state := .collecting, timer := none, restartPenaltyPending := 0, demand := 0 } ∧
      (s.releaseBay b).latch = s.latch ∧ OnlyBays s (s.releaseBay b) [b]) ∧
    (∀ e, st = .releasing → (s.bay b).timer = some e → e ≤ s.bankTime → ∃ t, exec (.releaseTimerExpiry b) s = .next t ∧
      OnlyBays s t [b] ∧ t.latch = (s.requestLock d).latch ∧ t.directory = s.directory ∧
      (¬ late → t.bay b = { s.bay b with state := .holding, timer := none } ∧ t.heater = s.heater ∧ t.scanner = s.scanner ∧
        t.notices b = { s.notices b with releaseTimeout := true }) ∧
      (late → t.bay b = { s.bay b with
          state := .withdrawn, withdrawReason := some .deadline, expectedLoad := none, lapseAt := none
          restartPenaltyPending := 0, demand := 0, timer := none, rearOpened := false } ∧
        t.notices b = { s.notices b with releaseTimeout := true, withdrawn := some .deadline } ∧ t.gate b = false)) ∧
    (st ≠ .releasing ∨ (∀ e, (s.bay b).timer = some e → s.bankTime < e) → exec (.releaseTimerExpiry b) s = .next s)

/-- R34, R157, R158, R159, R160: OPEN releases an order's HOLDING bays as a kiosk entry does, one by one in ascending order, and reports them. -/
def Obligations.OpenReleases : Prop :=
  ∀ (s : State) (k v : Nat), s.AtRest → k < 256 → v < 4294967296 →
    let c := Command.openOrder k v
    let found := if k = 0 then s.findCode v else s.findOrder v
    let valid := (k = 0 ∧ v ≤ 999999) ∨ (k = 1 ∧ 0 < v)
    (¬ valid → exec (.openOrder k v) s = .next (s.served c .badValue [])) ∧
    (valid → found = none → exec (.openOrder k v) s = .next (s.served c .notFound [])) ∧
    (∀ e, valid → found = some e → ∃ t data, exec (.openOrder k v) s = .next t ∧ OnlyBays (s.served c .done data) t e.bays ∧
      t.directory = s.directory ∧ t.bayNotices = s.bayNotices ∧
      (s.directory.Ordered →
        t = (e.bays.filter fun b => (s.bay b).state = .holding).foldl State.releaseBay (s.served c .done data)) ∧
      (∀ b ∈ e.bays, b < 48 →
        ((s.bay b).state ≠ .holding → t.bay b = s.bay b) ∧
        ((s.bay b).state = .holding →
          (t.bay b).state = if (s.door (2 * b)).closed then .releasing else .collecting)) ∧
      data =
        (if ∃ b ∈ e.bays, (t.bay b).state = .releasing ∨ (t.bay b).state = .collecting then 0
         else if ∃ b ∈ e.bays, (t.bay b).state ≠ .withdrawn then 1 else 2) ::
          byteOf e.bays.length :: (e.bays.map fun b => [byteOf b, stateByte (t.bay b).state]).flatten)

/-! ### Withdrawal, Cancellation and Clearing (10), and the modules (1.5) -/

/-- R31, R141, R142, R174, R175, R176, R180: CANCEL: its refusals, and its effect on the directory, on each bay by its state, and on the latch requests:
those of a LOADING bay's rear door alone change. -/
def Obligations.CancelEndsTheOrder : Prop :=
  ∀ (s : State) (ref : Nat), s.AtRest → s.DirectoryAgrees → ref < 4294967296 →
    let c := Command.cancel ref
    let going := fun b => (s.bay b).state = .releasing ∨ (s.bay b).state = .collecting
    let released := fun b => s.latchPosition (2 * b + 1) = .unlocked ∨ s.latchPosition (2 * b + 1) = .unlocking
    let latched := fun (u : State) (b : Nat) =>
      if (s.bay b).state ≠ .loading then u
      else if (s.bay b).rearOpened then u.request (2 * b + 1) .unlock .service
      else if released b ∧ (s.door (2 * b + 1)).closed = true then
        (u.withdrawRequest (2 * b + 1) .unlock).request (2 * b + 1) .lock .lock
      else u.withdrawRequest (2 * b + 1) .unlock
    (ref = 0 → exec (.cancel ref) s = .next (s.served c .badValue [])) ∧
    (0 < ref → s.findOrder ref = none → exec (.cancel ref) s = .next (s.served c .notFound [])) ∧
    (∀ (e : Entry) (b : Nat), 0 < ref → s.findOrder ref = some e → b ∈ e.bays → going b → (∀ b' ∈ e.bays, b' < b → ¬ going b') →
      exec (.cancel ref) s = .next (s.served c .releaseInProgress [byteOf b, stateByte (s.bay b).state])) ∧
    (∀ e : Entry, 0 < ref → s.findOrder ref = some e → (∀ b ∈ e.bays, ¬ going b) → ∃ t data,
      exec (.cancel ref) s = .next t ∧ OnlyBays (s.served c .done data) t e.bays ∧
      t.directory.generation = (s.directory.generation + 1) % 65536 ∧
      (∀ f, f ∈ t.directory.entries ↔ f ∈ s.directory.entries ∧ f ≠ e) ∧
      data = byteOf e.bays.length :: (e.bays.map fun b => [byteOf b, stateByte (t.bay b).state]).flatten ∧
      t.latch = (e.bays.foldl latched s).latch ∧
      (∀ b ∈ e.bays,
        ((s.bay b).state ≠ .loading →
          (t.latch.queue.filter fun r => bayOfDoor r.door = b) = s.latch.queue.filter fun r => bayOfDoor r.door = b) ∧
        ((s.bay b).state = .withdrawn → t.bay b = { s.bay b with entry := none } ∧ t.notices b = s.notices b) ∧
        ((s.bay b).state = .holding → t.bay b = { s.bay b with
            state := .withdrawn, withdrawReason := some .cancelled, entry := none, expectedLoad := none, lapseAt := none
            restartPenaltyPending := 0, demand := 0, timer := none, rearOpened := false } ∧
          t.notices b = { s.notices b with withdrawn := some .cancelled } ∧ t.gate b = false) ∧
        ((s.bay b).state = .loading → (s.bay b).rearOpened = true →
          t.bay b = { s.bay b with
            state := .withdrawn, withdrawReason := some .cancelled, entry := none, expectedLoad := none, lapseAt := none
            restartPenaltyPending := 0, demand := 0, rearOpened := false, clearing := true
            timer := if released b ∧ s.pulseRuns (2 * b + 1) = false then
              some (min (s.bankTime + 10 * s.config.clearingWindow) 4294967295) else none } ∧
          t.notices b = { s.notices b with withdrawn := some .cancelled }) ∧
        ((s.bay b).state = .loading ∧ (s.bay b).rearOpened = false ∨ (s.bay b).state = .booked ∨ (s.bay b).state = .preheating ∨
            (s.bay b).state = .ready →
          (t.bay b).state = (if (s.bay b).draining = true ∨ (s.bay b).sensorFault = true then .outOfService else .vacant) ∧
          (t.bay b).oosReason = (if (s.bay b).draining then some .lockout
            else if (s.bay b).sensorFault then some .sensor else none) ∧
          (t.bay b).entry = none ∧ (t.bay b).profile = none ∧ (t.bay b).qCold = 0 ∧ (t.bay b).qHot = 0 ∧ (t.bay b).demand = 0 ∧
          (t.bay b).lapseAt = none ∧ (t.bay b).faultStreak = (s.bay b).faultStreak ∧ t.notices b = s.notices b ∧
          ((s.bay b).clearing = false → (t.bay b).timer = none))))

/-- R7 to R9, R30, R142, R146, R179 to R182: CLEAR: its refusals, the clearing it begins, the rear close that ends it, and the clearing window that
abandons it. -/
def Obligations.ClearingBeginsAndLapses : Prop :=
  (∀ (s : State) (b : Nat), s.AtRest → b < 256 →
    let d := 2 * b + 1
    let st := (s.bay b).state
    let clearing := fun timer => { s.bay b with clearing := true, timer := timer }
    let answer := fun seconds => [byteOf b, stateByte st] ++ seconds
    (47 < b → exec (.clear b) s = .next (s.served (.clear b) .badValue [])) ∧
    (b < 48 → st ≠ .withdrawn → st ≠ .outOfService → exec (.clear b) s = .next (s.served (.clear b) .wrongState [stateByte st])) ∧
    (b < 48 → st = .withdrawn ∨ st = .outOfService →
      (s.pendingFor d = none → s.latchPosition d = .locked ∨ s.latchPosition d = .locking →
        exec (.clear b) s = .next { s.served (.clear b) .done (answer [0xFF, 0xFF]) with
          bays := s.bays.setIfInBounds b (clearing none), latch := (s.enqueue d .unlock .service).latch }) ∧
      (s.latchPosition d = .unlocked → s.pulseRuns d = false →
        let expiry := min (s.bankTime + 10 * s.config.clearingWindow) 4294967295
        exec (.clear b) s = .next { s.served (.clear b) .done (answer (bytesOf 2 ((expiry - s.bankTime) / 10))) with
          bays := s.bays.setIfInBounds b (clearing (some expiry)), latch := (s.dropRequest d).latch }))) ∧
  (∀ (s : State) (b : Nat), s.running = true → b < 48 →
    let watches := (s.bay b).clearing = true ∧
      ((s.bay b).state = .withdrawn ∨ (s.bay b).state = .outOfService ∨ (s.bay b).state = .vacant)
    (∀ e, watches → (s.bay b).timer = some e → e ≤ s.bankTime →
      exec (.clearingWindowExpiry b) s = .next { s with
        latch := (s.requestLock (2 * b + 1)).latch
        bays := s.bays.setIfInBounds b { s.bay b with clearing := false, timer := none } }) ∧
    (¬ watches ∨ (∀ e, (s.bay b).timer = some e → s.bankTime < e) → exec (.clearingWindowExpiry b) s = .next s)) ∧
  (∀ (s : State) (b x t : Nat), s.running = true → b < 48 → (s.bay b).clearing = true →
    (s.door (2 * b + 1)).candidate = some { closed := true, since := x } → x + 40000 ≤ max s.clock t →
    let d := 2 * b + 1
    let st := (s.bay b).state
    let ended := { s.bay b with clearing := false, timer := none }
    let cleared := s.latch.records.setIfInBounds d { position := s.latchPosition d, openAfterFailedLock := false }
    st = .withdrawn ∨ st = .outOfService ∨ st = .vacant → ∃ u, exec (.doorClosed d t) s = .next u ∧
      OnlyBays { s with
        clock := max s.clock t, doors := s.doors.setIfInBounds d { closed := true, candidate := none, alarm := none }
        latch := { s.latch with records := cleared } } u [b] ∧
      u.bayNotices = s.bayNotices ∧ u.heater = s.heater ∧
      (st = .withdrawn → Retired { s with bays := s.bays.setIfInBounds b ended } u b) ∧
      (st ≠ .withdrawn → u.bay b = ended ∧ u.directory = s.directory ∧ u.scanner = s.scanner) ∧
      (s.latchPosition d = .unlocked ∨ s.latchPosition d = .unlocking →
        u.latch = { ((s.withdrawRequest d .unlock).requestLock d).latch with records := cleared }) ∧
      (s.latchPosition d = .locked ∨ s.latchPosition d = .locking →
        u.latch = { (s.withdrawRequest d .unlock).latch with records := cleared }))

/-- R10 to R14, R76: LOCKOUT and RESTORE act on the four bays of the module by their states. A bay locked out during its conversion pair has that
pair's code discarded, whatever a RESTORE then does. -/
def Obligations.ModulesLockedOutAndRestored : Prop :=
  ∀ (s : State) (n : Nat), s.AtRest → n < 256 →
    let m := n / 4
    let four := [4 * m, 4 * m + 1, 4 * m + 2, 4 * m + 3]
    let report := fun t : State => byteOf m :: (four.map fun b => [stateByte (t.bay b).state] ++ oosBytes (t.bay b).oosReason).flatten
    let kept := fun b => { Bay.empty with
      lastRound := (s.bay b).lastRound, faultStreak := (s.bay b).faultStreak, clearing := (s.bay b).clearing
      timer := if (s.bay b).clearing then (s.bay b).timer else none }
    (47 < n → exec (.lockout n) s = .next (s.served (.lockout n) .badValue []) ∧
      exec (.restore n) s = .next (s.served (.restore n) .badValue [])) ∧
    (n < 48 → s.DirectoryAgrees → ∃ t data, exec (.lockout n) s = .next t ∧
      OnlyBays { s.served (.lockout n) .done data with lockedOut := s.lockedOut.setIfInBounds m true } t four ∧ data = report t ∧
      t.directory = s.directory ∧ t.bayNotices = s.bayNotices ∧ t.latch = s.latch ∧ t.heater = s.heater ∧
      (t.scanner.discard = true ↔ s.scanner.discard = true ∨
        ∃ c, s.scanner.conversion = some c ∧ c.bay ∈ four ∧ (s.bay c.bay).state = .vacant) ∧
      ∀ b ∈ four,
        ((s.bay b).state = .vacant → t.bay b = { kept b with
          state := .outOfService, oosReason := some .lockout, sensorFault := (s.bay b).sensorFault }) ∧
        ((s.bay b).state = .outOfService → t.bay b = s.bay b) ∧
        ((s.bay b).state ≠ .vacant → (s.bay b).state ≠ .outOfService → t.bay b = { s.bay b with draining := true })) ∧
    (n < 48 → s.DirectoryAgrees → ∃ t data, exec (.restore n) s = .next t ∧
      OnlyBays { s.served (.restore n) .done data with lockedOut := s.lockedOut.setIfInBounds m false } t four ∧ data = report t ∧
      t.directory = s.directory ∧ t.bayNotices = s.bayNotices ∧ t.latch = s.latch ∧ t.heater = s.heater ∧
      t.scanner.discard = s.scanner.discard ∧
      ∀ b ∈ four,
        ((s.bay b).state = .outOfService → t.bay b = { kept b with faultStreak := 0 }) ∧
        ((s.bay b).state ≠ .outOfService →
          t.bay b = { s.bay b with draining := false, sensorFault := false, faultStreak := 0 }))

/-! ### Notices (1.6) and STATUS (11.6) -/

/-- R18, R19, R78, R193, R194: STATUS reports and empties the bank set and at most twelve bay sets, and with its option clears the link's
flags and counters and the overrun count. -/
def Obligations.StatusGivesUpTheNotices : Prop :=
  ∀ (s : State) (o : Nat), s.AtRest → o < 256 →
    let waiting := allBays.filter fun b => s.notices b ≠ BayNotices.empty
    let taken := waiting.take 12
    let data := [byteOf s.bankNotices.bits, byteOf s.link.stickyBits] ++ bytesOf 2 s.link.truncatedCount ++
      bytesOf 2 s.link.crcCount ++ bytesOf 2 s.link.discardedCount ++ bytesOf 2 s.link.broadcastCount ++
      bytesOf 2 s.scanner.overruns ++ [if s.mains.present then 1 else 0, byteOf s.heater.budget.h, byteOf taken.length] ++
      (taken.map s.statusReport).flatten ++ [if 12 < waiting.length then 1 else 0]
    (1 < o → exec (.status o) s = .next (s.served (.status o) .badValue [])) ∧
    (o ≤ 1 → ∃ t, exec (.status o) s = .next t ∧
      t = { s.served (.status o) .done data with
        bankNotices := BankNotices.empty, bayNotices := t.bayNotices
        link := if o = 1 then (s.answeredLink (.status o) .done data).cleared else s.answeredLink (.status o) .done data
        scanner := if o = 1 then { s.scanner with overruns := 0 } else s.scanner } ∧
      (∀ b, t.notices b = if b ∈ taken then BayNotices.empty else s.notices b) ∧
      (waiting.length ≤ 12 → t.attn = false) ∧ (12 < waiting.length → t.attn = true))

/-! ### The Profile Store (12) -/

/-- R199 to R202: CONFIGURE, PROFILE_WRITE and PROFILE_READ: their refusals, the clamping of each field to the nearer end of its range with
the offsets reported, and the store write they begin. That the check value is the link's CRC, high byte first, is the
model's reading (log 11). A record of another length is answered BAD_LENGTH, or TOO_LONG above 59 bytes (R187, R189; log 7). -/
def Obligations.StoreCommands : Prop :=
  (∀ (s : State) (n : Nat) (bs : List Byte), s.AtRest → n < 256 →
    (bs.length ≠ 37 → bs.length ≤ 58 → exec (.configure bs) s = .next (s.served (.badLength 0x40) .badLength [])) ∧
    (58 < bs.length → bs.length ≤ 254 → exec (.configure bs) s = .next (s.served (.tooLong 0x40) .tooLong [])) ∧
    (bs.length ≠ 23 → bs.length ≤ 57 → exec (.profileWrite n bs) s = .next (s.served (.badLength 0x41) .badLength [])) ∧
    (57 < bs.length → bs.length ≤ 253 → exec (.profileWrite n bs) s = .next (s.served (.tooLong 0x41) .tooLong []))) ∧
  (∀ (s : State) (bs : List Byte), s.AtRest → bs.length = 37 →
    (s.store.write.isSome = true → exec (.configure bs) s = .next (s.served (.configure bs) .storeBusy [])) ∧
    (s.store.write = none → ∃ bs' : List Byte,
      let clamped := configFields.filter fun f => ¬ (f.low ≤ f.read bs ∧ f.read bs ≤ f.high)
      bs'.length = 37 ∧ (∀ f ∈ configFields, f.read bs' = clampTo (f.read bs) f.low f.high) ∧
      exec (.configure bs) s = .next {
        s.served (.configure bs) .done (byteOf clamped.length :: clamped.map fun f => byteOf f.offset) with
        store := { s.store with write := some {
          target := .configuration, contents := bs' ++ crcBytes (crcOf bs'), began := s.bankTime, startedAt := s.clock } } })) ∧
  (∀ (s : State) (n : Nat) (bs : List Byte), s.AtRest → n < 256 → bs.length = 23 →
    let answers := fun r data => exec (.profileWrite n bs) s = .next (s.served (.profileWrite n bs) r data)
    let begins := fun (data bs' : List Byte) => exec (.profileWrite n bs) s = .next {
      s.served (.profileWrite n bs) .done data with
      store := { s.store with write := some {
        target := .slot n, contents := bs' ++ crcBytes (crcOf bs'), began := s.bankTime, startedAt := s.clock } } }
    let free := n ≤ 15 ∧ s.store.write = none ∧ s.slotInUse n = false
    (15 < n → answers .badValue []) ∧
    (n ≤ 15 → s.store.write.isSome = true → answers .storeBusy []) ∧
    (n ≤ 15 → s.store.write = none → s.slotInUse n = true → answers .profileInUse []) ∧
    (free → bs.headD 0 ≠ 0x5A → begins [byteOf n, 0] bs) ∧
    (free → bs.headD 0 = 0x5A → 3 < fieldOf bs 9 1 → answers .badValue []) ∧
    (free → bs.headD 0 = 0x5A → fieldOf bs 9 1 ≤ 3 → ∃ bs' : List Byte,
      let clamped := profileFields.filter fun f => ¬ (f.low ≤ f.read bs ∧ f.read bs ≤ f.high)
      let ordered := (profileOf bs').floor ≤ (profileOf bs').setpoint ∧ (profileOf bs').setpoint ≤ (profileOf bs').ceiling
      bs'.length = 23 ∧ (∀ f ∈ profileFields, f.read bs' = clampTo (f.read bs) f.low f.high) ∧
      (∀ i ∈ [0, 8, 9, 15, 16, 17, 18, 19, 20], bs'.getD i 0 = bs.getD i 0) ∧
      (ordered → begins ([byteOf n, byteOf clamped.length] ++ clamped.map fun f => byteOf f.offset) bs') ∧
      (¬ ordered → answers .badValue []))) ∧
  (∀ (s : State) (n : Nat), s.AtRest → n < 256 →
    let answers := fun r data => exec (.profileRead n) s = .next (s.served (.profileRead n) r data)
    let written := ∃ w, s.store.write = some w ∧ w.target = .slot n
    (15 < n → answers .badValue []) ∧ (n ≤ 15 → written → answers .storeBusy []) ∧
    (n ≤ 15 → ¬ written → answers .done ([byteOf n,
      match s.slotCondition n with | .inService => 0 | .empty => 1 | .failed => 2] ++ s.slotRecord n ++
        [if (allBays.any fun b => (s.bay b).profile = some n) then 1 else 0])))

/-- R199, R203: the completion of a store write, 40 ms after it began: the target takes its contents, STORE_DONE is raised, and a new
configuration is in effect. -/
def Obligations.StoreWriteCompletes : Prop :=
  ∀ (s : State) (w : StoreWrite) (t : Nat), s.running = true → s.store.write = some w →
    let now := max s.clock t
    let done := { s with clock := now, bankNotices := { s.bankNotices with storeDone := true } }
    (now < w.startedAt + 40000 → exec (.storeWriteComplete t) s = .next { s with clock := now }) ∧
    (∀ n < 16, w.startedAt + 40000 ≤ now → w.target = .slot n → ∃ u, exec (.storeWriteComplete t) s = .next u ∧
      u = { done with store := { s.store with slots := u.store.slots, write := none } } ∧
      ∀ k < 16, u.slotRecord k = if k = n then w.contents else s.slotRecord k) ∧
    (w.startedAt + 40000 ≤ now → w.target = .configuration →
      exec (.storeWriteComplete t) s = .next { done with
        config := configOf w.contents, store := { s.store with configuration := w.contents, write := none } })

/-! ### Starts and stops (12.4, 12.5) -/

/-- R20, R21, R38, R94, R133, R134, R138, R151, R152, R170, R195, R198, R206, R207: a start by power or RESETN is warm where the retention
check agrees, else cold, and begins every block afresh. LOSS_OF_VRET leaves the contents of Retention Memory free (log 13) and makes the next
start cold. The values given to the kiosk lines' last character time and to the link fields that R195 does not name are the
model's (log 29). A start begun changes nothing retained until the next row that is no stop, or a step on an empty queue, which ends
it first: the model's choice (log 15); so is that a start in progress when VRET is lost makes its check after the loss (log 43). -/
def Obligations.StartsAreWarmOrCold : Prop :=
  (∀ s : State, ∃ t, exec .lossOfVret s = .next t ∧
    t = { s with
      bankTime := t.bankTime, bays := t.bays, lockedOut := t.lockedOut, directory := t.directory, bankNotices := t.bankNotices
      bayNotices := t.bayNotices, retentionAgrees := false, freeCount := s.freeCount + 1 } ∧
    t.bankTime ≤ 4294967295 ∧ t.directory.generation ≤ 65535) ∧
  (∀ (s : State) (i : Instr) (cold : Bool), s.powered = true → s.starting = some cold → i.wellFormed = true → Instr.isSupply i = false →
    s.awake.running = true ∧ exec i s = exec i s.awake) ∧
  (∀ (s : State) (i : Instr), s.store.write = none →
    (i = .powerOn ∧ s.pins.vdd = false ∧ s.pins.resetn = true) ∨
      (i = .resetnRelease ∧ s.pins.vdd = true ∧ s.pins.resetn = false) →
    let good := checkAgrees 37 s.store.configuration = true
    ∃ t u, exec i s = .next t ∧ t.starting = some false ∧ t.running = false ∧ SameRetained s t ∧
      (t.attn = true ↔ s.bankNotices ≠ BankNotices.empty ∨ ∃ b < 48, s.notices b ≠ BayNotices.empty) ∧
      t.retentionAgrees = s.retentionAgrees ∧ t.pending = s.pending ∧ t.store = s.store ∧
      step { t with pending := [] } = .next u ∧ u.running = true ∧ u.clock = s.clock ∧ u.store = s.store ∧
      u.pins.straps = s.pins.straps ∧ u.pins.switches = s.pins.switches ∧ u.retentionAgrees = true ∧ u.attn = true ∧
      (good → u.config = configOf s.store.configuration) ∧ (¬ good → u.config = BankConfig.defaults) ∧
      (s.retentionAgrees = true →
        u.bankTime = s.bankTime ∧ u.lockedOut = s.lockedOut ∧
        u.bankNotices = { s.bankNotices with
          warmStart := true, configDefaulted := s.bankNotices.configDefaulted || decide (¬ good) } ∧
        (∀ b < 48, (u.bay b).timer = none ∧ (u.bay b).clearing = false) ∧
        (∀ b < 48, (s.bay b).state = .withdrawn →
          u.bay b = { s.bay b with lastTemp := none, timer := none, clearing := false }) ∧
        (∀ b < 48, ∀ d, (s.bay b).state = .holding ∨ (s.bay b).state = .releasing → (s.bay b).deadline = some d →
          s.bankTime < d → u.bay b = { s.bay b with
            state := .holding, lastTemp := none, timer := none, clearing := false, demand := 16
            restartPenaltyPending := u.config.restartPenalty })) ∧
      (s.retentionAgrees = false →
        u.bankTime = 0 ∧ u.directory = { entries := [], generation := 0 } ∧
        u.bankNotices = { BankNotices.empty with coldStart := true, configDefaulted := decide (¬ good) } ∧
        (∀ b < 48, u.bay b = Bay.empty ∧ u.notices b = BayNotices.empty) ∧
        ∀ m < 12, u.lockedOut.getD m true = false) ∧
      u.link = OrderLink.start s.pins.straps ∧ u.ka = KioskPort.start ∧ u.kb = KioskPort.start ∧
      u.mains = MainsMonitor.start ∧ u.heater = HeaterAllocator.start u.heater.budget ∧
      u.heater.budget.b = u.config.budget ∧ u.heater.budget.lmaxEff = min u.config.lmax (u.config.budget - 1) ∧
      u.scanner = {
        passTimer := u.config.passPeriod, pass := none, conversion := none, discard := false, skip := Vector.replicate 48 0
        rounds := Vector.replicate 48 none, overruns := 0 } ∧
      u.latch.channels = Vector.replicate 4 none ∧ u.latch.stallTimer = none ∧ u.latch.guard = false ∧
      u.latch.queue.map LatchRequest.door = ((List.range 96).filter fun d => s.pins.switches.getD d true) ∧
      (∀ r ∈ u.latch.queue, r.action = .lock ∧ r.cls = .lock) ∧
      (∀ d < 96, let closed := s.pins.switches.getD d true
        let alarm := if d % 2 = 0 then u.config.alarmFront else u.config.alarmRear
        u.latchRecord d = { position := .unlocked, openAfterFailedLock := !closed } ∧
        u.door d = {
          closed := closed, candidate := none
          alarm := if closed then none else some (min (u.bankTime + 10 * alarm) 4294967295) }))

/-- R21: a bay record resolved at a warm restart by the state it was retained in. -/
def Obligations.WarmRestartResolvesBays : Prop :=
  ∀ (s : State) (b : Nat), b < 48 →
    let r := s.bay b
    let t := s.resolveBay b
    let kept := { r with lastTemp := none, timer := none, clearing := false }
    let held := { kept with state := .holding, demand := 16, restartPenaltyPending := s.config.restartPenalty }
    OnlyBays s t [b] ∧ t.latch = s.latch ∧
    (r.state = .vacant ∨ r.state = .booked ∨ r.state = .withdrawn ∨ r.state = .outOfService →
      t.bay b = kept ∧ t.notices b = s.notices b ∧ t.directory = s.directory) ∧
    (r.state = .preheating ∨ r.state = .ready →
      t.bay b = { kept with demand := 16 } ∧ t.notices b = s.notices b ∧ t.directory = s.directory) ∧
    (r.state = .loading → r.rearOpened = true →
      t.bay b = { kept with
        state := .withdrawn, withdrawReason := some .restart, expectedLoad := none, lapseAt := none, restartPenaltyPending := 0
        demand := 0, rearOpened := false } ∧
      t.notices b = { s.notices b with withdrawn := some .restart } ∧ t.directory = s.directory) ∧
    (r.state = .loading → r.rearOpened = false →
      t.bay b = { kept with state := .preheating, demand := 16 } ∧ t.notices b = s.notices b ∧ t.directory = s.directory) ∧
    (r.state = .holding ∨ r.state = .releasing → t.bay b = held ∧ t.notices b = s.notices b ∧ t.directory = s.directory) ∧
    (r.state = .collecting → (s.door (2 * b)).closed = true →
      Retired { s with bays := s.bays.setIfInBounds b kept } t b ∧ t.notices b = { s.notices b with collected := true }) ∧
    (r.state = .collecting → (s.door (2 * b)).closed = false → t.bay b = kept ∧ t.directory = s.directory)

/-- R18, R134, R151, R170, R195, R205, R206, R207: RESETN low and the loss of VDD end all activity, a start in progress with it, and keep Retention Memory, which
disagrees with its check only where a step was being written; a start whose resolution had been written has changed it. ATTN goes on
with the notice sets in a reset, and the other outputs are low, or at their stop level; that ATTN is low without VDD, and the others as in
a reset, is the model's reading (log 22); where among the
steps a stop falls is an operand of the row (log 14). A store write in flight is lost, whatever its target then holds. Bank time counts
while the part runs, and only then. -/
def Obligations.StopsKeepRetention : Prop :=
  (∀ (s : State) (i : Instr) (m : StopMoment), s.running = true ∨ (s.powered = true ∧ s.starting.isSome = true) →
    i = .resetnLow m ∨ i = .lossOfVdd m →
    ∃ t, exec i s = .next t ∧ t.running = false ∧ t.starting = none ∧ t.pins.vdd = decide (i = .resetnLow m) ∧
      t.pins.resetn = decide (i = .lossOfVdd m) ∧
      (m ≠ .resolutionWritten ∨ s.starting = none →
        SameRetained s t ∧ t.retentionAgrees = (s.retentionAgrees && decide (m ≠ .withinStep))) ∧
      (∀ cold, m = .resolutionWritten → s.starting = some cold →
        t.retentionAgrees = true ∧ SameRetained (s.resolved cold) t ∧
        (if s.retentionAgrees = true ∧ cold = false then t.bankNotices.warmStart = true ∧ t.bankTime = s.bankTime
         else t.bankNotices.coldStart = true ∧ t.bankTime = 0)) ∧
      (t.attn = true ↔ i = .resetnLow m ∧ (t.bankNotices ≠ BankNotices.empty ∨ ∃ b < 48, t.notices b ≠ BayNotices.empty)) ∧
      t.rdy = false ∧ t.lde = false ∧ (∀ b, t.gate b = false) ∧ (∀ d, t.lsel d = false) ∧
      (∀ c, t.lda c = false ∧ t.ldb c = false) ∧ t.ltx = .level false ∧ t.katx = .level true ∧ t.kbtx = .level true ∧
      t.store.write = none ∧
      (∀ n < 16, (∀ w, s.store.write = some w → w.target ≠ .slot n) → t.slotRecord n = s.slotRecord n) ∧
      (∀ (n : Nat) (w : StoreWrite), n < 16 → s.store.write = some w → w.target = .slot n → t.slotCondition n ≠ .inService) ∧
      (∀ w : StoreWrite, s.store.write = some w → w.target = .configuration →
        checkAgrees 37 t.store.configuration = false) ∧
      exec .bankTimeTick t = .next t) ∧
  (∀ s : State, s.running = true →
    exec .bankTimeTick s = .next { s with
      bankTime := min (s.bankTime + 1) 4294967295, scanner := { s.scanner with passTimer := s.scanner.passTimer - 1 } })
end

