-- ==== Sys2Proof/Laws/Bytes.lean ====
section
/-! SUPPORT. Numbers in bytes and back (11.8: high byte first). -/

namespace Sys2Proof.Machine

theorem length_bytesOf (k n : Nat) : (bytesOf k n).length = k := by
  induction k with
  | zero => rfl
  | succ k ih => simp [bytesOf, ih]

theorem toNat_byteOf (n : Nat) (h : n < 256) : (byteOf n).toNat = n := by
  simp [byteOf]; omega

theorem foldl_bytes (l : List Byte) (a : Nat) :
    l.foldl (fun n b => n * 256 + b.toNat) a = a * 256 ^ l.length + numberOf l := by
  induction l generalizing a with
  | nil => simp [numberOf]
  | cons b l ih =>
    simp only [numberOf, List.foldl_cons, List.length_cons]
    rw [ih, ih (0 * 256 + b.toNat)]
    ring

theorem numberOf_cons (b : Byte) (l : List Byte) : numberOf (b :: l) = b.toNat * 256 ^ l.length + numberOf l := by
  rw [numberOf, List.foldl_cons, foldl_bytes]
  simp

/-- The bytes of a number spell it again, cut to their width. -/
theorem numberOf_bytesOf (k n : Nat) : numberOf (bytesOf k n) = n % 256 ^ k := by
  induction k generalizing n with
  | zero => simp [bytesOf, numberOf, Nat.mod_one]
  | succ k ih =>
    rw [bytesOf, numberOf_cons, length_bytesOf, ih]
    have h : (BitVec.ofNat 8 (n / 256 ^ k)).toNat = n / 256 ^ k % 256 := BitVec.toNat_ofNat ..
    rw [h, pow_succ, Nat.mod_mul]
    ring

theorem numberOf_bytesOf_of_lt (k n : Nat) (h : n < 256 ^ k) : numberOf (bytesOf k n) = n := by
  rw [numberOf_bytesOf, Nat.mod_eq_of_lt h]

/-- A field read from the front of its bytes. -/
theorem fieldOf_here (k n : Nat) (rest : List Byte) (h : n < 256 ^ k) : fieldOf (bytesOf k n ++ rest) 0 k = n := by
  have := length_bytesOf k n
  simp [fieldOf, this, numberOf_bytesOf_of_lt k n h]

/-- A field read past `j` bytes. -/
theorem fieldOf_past (l rest : List Byte) (j o k : Nat) (h : l.length = j) : fieldOf (l ++ rest) (j + o) k = fieldOf rest o k := by
  subst h
  simp [fieldOf, List.drop_append, List.drop_eq_nil_of_le]

/-- A one-byte field. -/
theorem fieldOf_byte (n : Nat) (rest : List Byte) (h : n < 256) : fieldOf (byteOf n :: rest) 0 1 = n := by
  simp [fieldOf, toNat_byteOf n h, numberOf]

end Sys2Proof.Machine
end

