-- ==== Sys2Proof/Laws/State.lean ====
section
/-! SUPPORT. What each named update leaves alone, one lemma for each field, and what it writes: true by `rfl`, so that no later proof
unfolds a record update. -/

namespace Sys2Proof.Machine

variable (s : State)

/-! ### advance -/

@[simp] theorem State.advance_pending (t : Nat) : (s.advance t).pending = s.pending := rfl
@[simp] theorem State.advance_freeCount (t : Nat) : (s.advance t).freeCount = s.freeCount := rfl
@[simp] theorem State.advance_pins (t : Nat) : (s.advance t).pins = s.pins := rfl
@[simp] theorem State.advance_retentionAgrees (t : Nat) : (s.advance t).retentionAgrees = s.retentionAgrees := rfl
@[simp] theorem State.advance_starting (t : Nat) : (s.advance t).starting = s.starting := rfl
@[simp] theorem State.advance_bankTime (t : Nat) : (s.advance t).bankTime = s.bankTime := rfl
@[simp] theorem State.advance_bays (t : Nat) : (s.advance t).bays = s.bays := rfl
@[simp] theorem State.advance_lockedOut (t : Nat) : (s.advance t).lockedOut = s.lockedOut := rfl
@[simp] theorem State.advance_directory (t : Nat) : (s.advance t).directory = s.directory := rfl
@[simp] theorem State.advance_bankNotices (t : Nat) : (s.advance t).bankNotices = s.bankNotices := rfl
@[simp] theorem State.advance_bayNotices (t : Nat) : (s.advance t).bayNotices = s.bayNotices := rfl
@[simp] theorem State.advance_doors (t : Nat) : (s.advance t).doors = s.doors := rfl
@[simp] theorem State.advance_latch (t : Nat) : (s.advance t).latch = s.latch := rfl
@[simp] theorem State.advance_scanner (t : Nat) : (s.advance t).scanner = s.scanner := rfl
@[simp] theorem State.advance_mains (t : Nat) : (s.advance t).mains = s.mains := rfl
@[simp] theorem State.advance_heater (t : Nat) : (s.advance t).heater = s.heater := rfl
@[simp] theorem State.advance_ka (t : Nat) : (s.advance t).ka = s.ka := rfl
@[simp] theorem State.advance_kb (t : Nat) : (s.advance t).kb = s.kb := rfl
@[simp] theorem State.advance_link (t : Nat) : (s.advance t).link = s.link := rfl
@[simp] theorem State.advance_store (t : Nat) : (s.advance t).store = s.store := rfl
@[simp] theorem State.advance_config (t : Nat) : (s.advance t).config = s.config := rfl

/-! ### setBay -/

@[simp] theorem State.setBay_pending (b : Nat) (r : Bay) : (s.setBay b r).pending = s.pending := rfl
@[simp] theorem State.setBay_clock (b : Nat) (r : Bay) : (s.setBay b r).clock = s.clock := rfl
@[simp] theorem State.setBay_freeCount (b : Nat) (r : Bay) : (s.setBay b r).freeCount = s.freeCount := rfl
@[simp] theorem State.setBay_pins (b : Nat) (r : Bay) : (s.setBay b r).pins = s.pins := rfl
@[simp] theorem State.setBay_retentionAgrees (b : Nat) (r : Bay) : (s.setBay b r).retentionAgrees = s.retentionAgrees := rfl
@[simp] theorem State.setBay_starting (b : Nat) (r : Bay) : (s.setBay b r).starting = s.starting := rfl
@[simp] theorem State.setBay_bankTime (b : Nat) (r : Bay) : (s.setBay b r).bankTime = s.bankTime := rfl
@[simp] theorem State.setBay_lockedOut (b : Nat) (r : Bay) : (s.setBay b r).lockedOut = s.lockedOut := rfl
@[simp] theorem State.setBay_directory (b : Nat) (r : Bay) : (s.setBay b r).directory = s.directory := rfl
@[simp] theorem State.setBay_bankNotices (b : Nat) (r : Bay) : (s.setBay b r).bankNotices = s.bankNotices := rfl
@[simp] theorem State.setBay_bayNotices (b : Nat) (r : Bay) : (s.setBay b r).bayNotices = s.bayNotices := rfl
@[simp] theorem State.setBay_doors (b : Nat) (r : Bay) : (s.setBay b r).doors = s.doors := rfl
@[simp] theorem State.setBay_latch (b : Nat) (r : Bay) : (s.setBay b r).latch = s.latch := rfl
@[simp] theorem State.setBay_scanner (b : Nat) (r : Bay) : (s.setBay b r).scanner = s.scanner := rfl
@[simp] theorem State.setBay_mains (b : Nat) (r : Bay) : (s.setBay b r).mains = s.mains := rfl
@[simp] theorem State.setBay_heater (b : Nat) (r : Bay) : (s.setBay b r).heater = s.heater := rfl
@[simp] theorem State.setBay_ka (b : Nat) (r : Bay) : (s.setBay b r).ka = s.ka := rfl
@[simp] theorem State.setBay_kb (b : Nat) (r : Bay) : (s.setBay b r).kb = s.kb := rfl
@[simp] theorem State.setBay_link (b : Nat) (r : Bay) : (s.setBay b r).link = s.link := rfl
@[simp] theorem State.setBay_store (b : Nat) (r : Bay) : (s.setBay b r).store = s.store := rfl
@[simp] theorem State.setBay_config (b : Nat) (r : Bay) : (s.setBay b r).config = s.config := rfl

/-! ### setDoor -/

@[simp] theorem State.setDoor_pending (d : Nat) (r : Door) : (s.setDoor d r).pending = s.pending := rfl
@[simp] theorem State.setDoor_clock (d : Nat) (r : Door) : (s.setDoor d r).clock = s.clock := rfl
@[simp] theorem State.setDoor_freeCount (d : Nat) (r : Door) : (s.setDoor d r).freeCount = s.freeCount := rfl
@[simp] theorem State.setDoor_pins (d : Nat) (r : Door) : (s.setDoor d r).pins = s.pins := rfl
@[simp] theorem State.setDoor_retentionAgrees (d : Nat) (r : Door) : (s.setDoor d r).retentionAgrees = s.retentionAgrees := rfl
@[simp] theorem State.setDoor_starting (d : Nat) (r : Door) : (s.setDoor d r).starting = s.starting := rfl
@[simp] theorem State.setDoor_bankTime (d : Nat) (r : Door) : (s.setDoor d r).bankTime = s.bankTime := rfl
@[simp] theorem State.setDoor_bays (d : Nat) (r : Door) : (s.setDoor d r).bays = s.bays := rfl
@[simp] theorem State.setDoor_lockedOut (d : Nat) (r : Door) : (s.setDoor d r).lockedOut = s.lockedOut := rfl
@[simp] theorem State.setDoor_directory (d : Nat) (r : Door) : (s.setDoor d r).directory = s.directory := rfl
@[simp] theorem State.setDoor_bankNotices (d : Nat) (r : Door) : (s.setDoor d r).bankNotices = s.bankNotices := rfl
@[simp] theorem State.setDoor_bayNotices (d : Nat) (r : Door) : (s.setDoor d r).bayNotices = s.bayNotices := rfl
@[simp] theorem State.setDoor_latch (d : Nat) (r : Door) : (s.setDoor d r).latch = s.latch := rfl
@[simp] theorem State.setDoor_scanner (d : Nat) (r : Door) : (s.setDoor d r).scanner = s.scanner := rfl
@[simp] theorem State.setDoor_mains (d : Nat) (r : Door) : (s.setDoor d r).mains = s.mains := rfl
@[simp] theorem State.setDoor_heater (d : Nat) (r : Door) : (s.setDoor d r).heater = s.heater := rfl
@[simp] theorem State.setDoor_ka (d : Nat) (r : Door) : (s.setDoor d r).ka = s.ka := rfl
@[simp] theorem State.setDoor_kb (d : Nat) (r : Door) : (s.setDoor d r).kb = s.kb := rfl
@[simp] theorem State.setDoor_link (d : Nat) (r : Door) : (s.setDoor d r).link = s.link := rfl
@[simp] theorem State.setDoor_store (d : Nat) (r : Door) : (s.setDoor d r).store = s.store := rfl
@[simp] theorem State.setDoor_config (d : Nat) (r : Door) : (s.setDoor d r).config = s.config := rfl

/-! ### setLatchRecord -/

@[simp] theorem State.setLatchRecord_pending (d : Nat) (r : LatchRecord) : (s.setLatchRecord d r).pending = s.pending := rfl
@[simp] theorem State.setLatchRecord_clock (d : Nat) (r : LatchRecord) : (s.setLatchRecord d r).clock = s.clock := rfl
@[simp] theorem State.setLatchRecord_freeCount (d : Nat) (r : LatchRecord) : (s.setLatchRecord d r).freeCount = s.freeCount := rfl
@[simp] theorem State.setLatchRecord_pins (d : Nat) (r : LatchRecord) : (s.setLatchRecord d r).pins = s.pins := rfl
@[simp] theorem State.setLatchRecord_retentionAgrees (d : Nat) (r : LatchRecord) : (s.setLatchRecord d r).retentionAgrees = s.retentionAgrees := rfl
@[simp] theorem State.setLatchRecord_starting (d : Nat) (r : LatchRecord) : (s.setLatchRecord d r).starting = s.starting := rfl
@[simp] theorem State.setLatchRecord_bankTime (d : Nat) (r : LatchRecord) : (s.setLatchRecord d r).bankTime = s.bankTime := rfl
@[simp] theorem State.setLatchRecord_bays (d : Nat) (r : LatchRecord) : (s.setLatchRecord d r).bays = s.bays := rfl
@[simp] theorem State.setLatchRecord_lockedOut (d : Nat) (r : LatchRecord) : (s.setLatchRecord d r).lockedOut = s.lockedOut := rfl
@[simp] theorem State.setLatchRecord_directory (d : Nat) (r : LatchRecord) : (s.setLatchRecord d r).directory = s.directory := rfl
@[simp] theorem State.setLatchRecord_bankNotices (d : Nat) (r : LatchRecord) : (s.setLatchRecord d r).bankNotices = s.bankNotices := rfl
@[simp] theorem State.setLatchRecord_bayNotices (d : Nat) (r : LatchRecord) : (s.setLatchRecord d r).bayNotices = s.bayNotices := rfl
@[simp] theorem State.setLatchRecord_doors (d : Nat) (r : LatchRecord) : (s.setLatchRecord d r).doors = s.doors := rfl
@[simp] theorem State.setLatchRecord_scanner (d : Nat) (r : LatchRecord) : (s.setLatchRecord d r).scanner = s.scanner := rfl
@[simp] theorem State.setLatchRecord_mains (d : Nat) (r : LatchRecord) : (s.setLatchRecord d r).mains = s.mains := rfl
@[simp] theorem State.setLatchRecord_heater (d : Nat) (r : LatchRecord) : (s.setLatchRecord d r).heater = s.heater := rfl
@[simp] theorem State.setLatchRecord_ka (d : Nat) (r : LatchRecord) : (s.setLatchRecord d r).ka = s.ka := rfl
@[simp] theorem State.setLatchRecord_kb (d : Nat) (r : LatchRecord) : (s.setLatchRecord d r).kb = s.kb := rfl
@[simp] theorem State.setLatchRecord_link (d : Nat) (r : LatchRecord) : (s.setLatchRecord d r).link = s.link := rfl
@[simp] theorem State.setLatchRecord_store (d : Nat) (r : LatchRecord) : (s.setLatchRecord d r).store = s.store := rfl
@[simp] theorem State.setLatchRecord_config (d : Nat) (r : LatchRecord) : (s.setLatchRecord d r).config = s.config := rfl

/-! ### setLatchQueue -/

@[simp] theorem State.setLatchQueue_pending (q : List LatchRequest) : (s.setLatchQueue q).pending = s.pending := rfl
@[simp] theorem State.setLatchQueue_clock (q : List LatchRequest) : (s.setLatchQueue q).clock = s.clock := rfl
@[simp] theorem State.setLatchQueue_freeCount (q : List LatchRequest) : (s.setLatchQueue q).freeCount = s.freeCount := rfl
@[simp] theorem State.setLatchQueue_pins (q : List LatchRequest) : (s.setLatchQueue q).pins = s.pins := rfl
@[simp] theorem State.setLatchQueue_retentionAgrees (q : List LatchRequest) : (s.setLatchQueue q).retentionAgrees = s.retentionAgrees := rfl
@[simp] theorem State.setLatchQueue_starting (q : List LatchRequest) : (s.setLatchQueue q).starting = s.starting := rfl
@[simp] theorem State.setLatchQueue_bankTime (q : List LatchRequest) : (s.setLatchQueue q).bankTime = s.bankTime := rfl
@[simp] theorem State.setLatchQueue_bays (q : List LatchRequest) : (s.setLatchQueue q).bays = s.bays := rfl
@[simp] theorem State.setLatchQueue_lockedOut (q : List LatchRequest) : (s.setLatchQueue q).lockedOut = s.lockedOut := rfl
@[simp] theorem State.setLatchQueue_directory (q : List LatchRequest) : (s.setLatchQueue q).directory = s.directory := rfl
@[simp] theorem State.setLatchQueue_bankNotices (q : List LatchRequest) : (s.setLatchQueue q).bankNotices = s.bankNotices := rfl
@[simp] theorem State.setLatchQueue_bayNotices (q : List LatchRequest) : (s.setLatchQueue q).bayNotices = s.bayNotices := rfl
@[simp] theorem State.setLatchQueue_doors (q : List LatchRequest) : (s.setLatchQueue q).doors = s.doors := rfl
@[simp] theorem State.setLatchQueue_scanner (q : List LatchRequest) : (s.setLatchQueue q).scanner = s.scanner := rfl
@[simp] theorem State.setLatchQueue_mains (q : List LatchRequest) : (s.setLatchQueue q).mains = s.mains := rfl
@[simp] theorem State.setLatchQueue_heater (q : List LatchRequest) : (s.setLatchQueue q).heater = s.heater := rfl
@[simp] theorem State.setLatchQueue_ka (q : List LatchRequest) : (s.setLatchQueue q).ka = s.ka := rfl
@[simp] theorem State.setLatchQueue_kb (q : List LatchRequest) : (s.setLatchQueue q).kb = s.kb := rfl
@[simp] theorem State.setLatchQueue_link (q : List LatchRequest) : (s.setLatchQueue q).link = s.link := rfl
@[simp] theorem State.setLatchQueue_store (q : List LatchRequest) : (s.setLatchQueue q).store = s.store := rfl
@[simp] theorem State.setLatchQueue_config (q : List LatchRequest) : (s.setLatchQueue q).config = s.config := rfl

/-! ### setChannel -/

@[simp] theorem State.setChannel_pending (c : Nat) (p : Option Pulse) : (s.setChannel c p).pending = s.pending := rfl
@[simp] theorem State.setChannel_clock (c : Nat) (p : Option Pulse) : (s.setChannel c p).clock = s.clock := rfl
@[simp] theorem State.setChannel_freeCount (c : Nat) (p : Option Pulse) : (s.setChannel c p).freeCount = s.freeCount := rfl
@[simp] theorem State.setChannel_pins (c : Nat) (p : Option Pulse) : (s.setChannel c p).pins = s.pins := rfl
@[simp] theorem State.setChannel_retentionAgrees (c : Nat) (p : Option Pulse) : (s.setChannel c p).retentionAgrees = s.retentionAgrees := rfl
@[simp] theorem State.setChannel_starting (c : Nat) (p : Option Pulse) : (s.setChannel c p).starting = s.starting := rfl
@[simp] theorem State.setChannel_bankTime (c : Nat) (p : Option Pulse) : (s.setChannel c p).bankTime = s.bankTime := rfl
@[simp] theorem State.setChannel_bays (c : Nat) (p : Option Pulse) : (s.setChannel c p).bays = s.bays := rfl
@[simp] theorem State.setChannel_lockedOut (c : Nat) (p : Option Pulse) : (s.setChannel c p).lockedOut = s.lockedOut := rfl
@[simp] theorem State.setChannel_directory (c : Nat) (p : Option Pulse) : (s.setChannel c p).directory = s.directory := rfl
@[simp] theorem State.setChannel_bankNotices (c : Nat) (p : Option Pulse) : (s.setChannel c p).bankNotices = s.bankNotices := rfl
@[simp] theorem State.setChannel_bayNotices (c : Nat) (p : Option Pulse) : (s.setChannel c p).bayNotices = s.bayNotices := rfl
@[simp] theorem State.setChannel_doors (c : Nat) (p : Option Pulse) : (s.setChannel c p).doors = s.doors := rfl
@[simp] theorem State.setChannel_scanner (c : Nat) (p : Option Pulse) : (s.setChannel c p).scanner = s.scanner := rfl
@[simp] theorem State.setChannel_mains (c : Nat) (p : Option Pulse) : (s.setChannel c p).mains = s.mains := rfl
@[simp] theorem State.setChannel_heater (c : Nat) (p : Option Pulse) : (s.setChannel c p).heater = s.heater := rfl
@[simp] theorem State.setChannel_ka (c : Nat) (p : Option Pulse) : (s.setChannel c p).ka = s.ka := rfl
@[simp] theorem State.setChannel_kb (c : Nat) (p : Option Pulse) : (s.setChannel c p).kb = s.kb := rfl
@[simp] theorem State.setChannel_link (c : Nat) (p : Option Pulse) : (s.setChannel c p).link = s.link := rfl
@[simp] theorem State.setChannel_store (c : Nat) (p : Option Pulse) : (s.setChannel c p).store = s.store := rfl
@[simp] theorem State.setChannel_config (c : Nat) (p : Option Pulse) : (s.setChannel c p).config = s.config := rfl

/-! ### setNotices -/

@[simp] theorem State.setNotices_pending (b : Nat) (n : BayNotices) : (s.setNotices b n).pending = s.pending := rfl
@[simp] theorem State.setNotices_clock (b : Nat) (n : BayNotices) : (s.setNotices b n).clock = s.clock := rfl
@[simp] theorem State.setNotices_freeCount (b : Nat) (n : BayNotices) : (s.setNotices b n).freeCount = s.freeCount := rfl
@[simp] theorem State.setNotices_pins (b : Nat) (n : BayNotices) : (s.setNotices b n).pins = s.pins := rfl
@[simp] theorem State.setNotices_retentionAgrees (b : Nat) (n : BayNotices) : (s.setNotices b n).retentionAgrees = s.retentionAgrees := rfl
@[simp] theorem State.setNotices_starting (b : Nat) (n : BayNotices) : (s.setNotices b n).starting = s.starting := rfl
@[simp] theorem State.setNotices_bankTime (b : Nat) (n : BayNotices) : (s.setNotices b n).bankTime = s.bankTime := rfl
@[simp] theorem State.setNotices_bays (b : Nat) (n : BayNotices) : (s.setNotices b n).bays = s.bays := rfl
@[simp] theorem State.setNotices_lockedOut (b : Nat) (n : BayNotices) : (s.setNotices b n).lockedOut = s.lockedOut := rfl
@[simp] theorem State.setNotices_directory (b : Nat) (n : BayNotices) : (s.setNotices b n).directory = s.directory := rfl
@[simp] theorem State.setNotices_bankNotices (b : Nat) (n : BayNotices) : (s.setNotices b n).bankNotices = s.bankNotices := rfl
@[simp] theorem State.setNotices_doors (b : Nat) (n : BayNotices) : (s.setNotices b n).doors = s.doors := rfl
@[simp] theorem State.setNotices_latch (b : Nat) (n : BayNotices) : (s.setNotices b n).latch = s.latch := rfl
@[simp] theorem State.setNotices_scanner (b : Nat) (n : BayNotices) : (s.setNotices b n).scanner = s.scanner := rfl
@[simp] theorem State.setNotices_mains (b : Nat) (n : BayNotices) : (s.setNotices b n).mains = s.mains := rfl
@[simp] theorem State.setNotices_heater (b : Nat) (n : BayNotices) : (s.setNotices b n).heater = s.heater := rfl
@[simp] theorem State.setNotices_ka (b : Nat) (n : BayNotices) : (s.setNotices b n).ka = s.ka := rfl
@[simp] theorem State.setNotices_kb (b : Nat) (n : BayNotices) : (s.setNotices b n).kb = s.kb := rfl
@[simp] theorem State.setNotices_link (b : Nat) (n : BayNotices) : (s.setNotices b n).link = s.link := rfl
@[simp] theorem State.setNotices_store (b : Nat) (n : BayNotices) : (s.setNotices b n).store = s.store := rfl
@[simp] theorem State.setNotices_config (b : Nat) (n : BayNotices) : (s.setNotices b n).config = s.config := rfl

/-! ### raiseBank -/

@[simp] theorem State.raiseBank_pending (n : BankNotice) : (s.raiseBank n).pending = s.pending := rfl
@[simp] theorem State.raiseBank_clock (n : BankNotice) : (s.raiseBank n).clock = s.clock := rfl
@[simp] theorem State.raiseBank_freeCount (n : BankNotice) : (s.raiseBank n).freeCount = s.freeCount := rfl
@[simp] theorem State.raiseBank_pins (n : BankNotice) : (s.raiseBank n).pins = s.pins := rfl
@[simp] theorem State.raiseBank_retentionAgrees (n : BankNotice) : (s.raiseBank n).retentionAgrees = s.retentionAgrees := rfl
@[simp] theorem State.raiseBank_starting (n : BankNotice) : (s.raiseBank n).starting = s.starting := rfl
@[simp] theorem State.raiseBank_bankTime (n : BankNotice) : (s.raiseBank n).bankTime = s.bankTime := rfl
@[simp] theorem State.raiseBank_bays (n : BankNotice) : (s.raiseBank n).bays = s.bays := rfl
@[simp] theorem State.raiseBank_lockedOut (n : BankNotice) : (s.raiseBank n).lockedOut = s.lockedOut := rfl
@[simp] theorem State.raiseBank_directory (n : BankNotice) : (s.raiseBank n).directory = s.directory := rfl
@[simp] theorem State.raiseBank_bayNotices (n : BankNotice) : (s.raiseBank n).bayNotices = s.bayNotices := rfl
@[simp] theorem State.raiseBank_doors (n : BankNotice) : (s.raiseBank n).doors = s.doors := rfl
@[simp] theorem State.raiseBank_latch (n : BankNotice) : (s.raiseBank n).latch = s.latch := rfl
@[simp] theorem State.raiseBank_scanner (n : BankNotice) : (s.raiseBank n).scanner = s.scanner := rfl
@[simp] theorem State.raiseBank_mains (n : BankNotice) : (s.raiseBank n).mains = s.mains := rfl
@[simp] theorem State.raiseBank_heater (n : BankNotice) : (s.raiseBank n).heater = s.heater := rfl
@[simp] theorem State.raiseBank_ka (n : BankNotice) : (s.raiseBank n).ka = s.ka := rfl
@[simp] theorem State.raiseBank_kb (n : BankNotice) : (s.raiseBank n).kb = s.kb := rfl
@[simp] theorem State.raiseBank_link (n : BankNotice) : (s.raiseBank n).link = s.link := rfl
@[simp] theorem State.raiseBank_store (n : BankNotice) : (s.raiseBank n).store = s.store := rfl
@[simp] theorem State.raiseBank_config (n : BankNotice) : (s.raiseBank n).config = s.config := rfl

/-! ### setRound -/

@[simp] theorem State.setRound_pending (b : Nat) (r : Option Samples) : (s.setRound b r).pending = s.pending := rfl
@[simp] theorem State.setRound_clock (b : Nat) (r : Option Samples) : (s.setRound b r).clock = s.clock := rfl
@[simp] theorem State.setRound_freeCount (b : Nat) (r : Option Samples) : (s.setRound b r).freeCount = s.freeCount := rfl
@[simp] theorem State.setRound_pins (b : Nat) (r : Option Samples) : (s.setRound b r).pins = s.pins := rfl
@[simp] theorem State.setRound_retentionAgrees (b : Nat) (r : Option Samples) : (s.setRound b r).retentionAgrees = s.retentionAgrees := rfl
@[simp] theorem State.setRound_starting (b : Nat) (r : Option Samples) : (s.setRound b r).starting = s.starting := rfl
@[simp] theorem State.setRound_bankTime (b : Nat) (r : Option Samples) : (s.setRound b r).bankTime = s.bankTime := rfl
@[simp] theorem State.setRound_bays (b : Nat) (r : Option Samples) : (s.setRound b r).bays = s.bays := rfl
@[simp] theorem State.setRound_lockedOut (b : Nat) (r : Option Samples) : (s.setRound b r).lockedOut = s.lockedOut := rfl
@[simp] theorem State.setRound_directory (b : Nat) (r : Option Samples) : (s.setRound b r).directory = s.directory := rfl
@[simp] theorem State.setRound_bankNotices (b : Nat) (r : Option Samples) : (s.setRound b r).bankNotices = s.bankNotices := rfl
@[simp] theorem State.setRound_bayNotices (b : Nat) (r : Option Samples) : (s.setRound b r).bayNotices = s.bayNotices := rfl
@[simp] theorem State.setRound_doors (b : Nat) (r : Option Samples) : (s.setRound b r).doors = s.doors := rfl
@[simp] theorem State.setRound_latch (b : Nat) (r : Option Samples) : (s.setRound b r).latch = s.latch := rfl
@[simp] theorem State.setRound_mains (b : Nat) (r : Option Samples) : (s.setRound b r).mains = s.mains := rfl
@[simp] theorem State.setRound_heater (b : Nat) (r : Option Samples) : (s.setRound b r).heater = s.heater := rfl
@[simp] theorem State.setRound_ka (b : Nat) (r : Option Samples) : (s.setRound b r).ka = s.ka := rfl
@[simp] theorem State.setRound_kb (b : Nat) (r : Option Samples) : (s.setRound b r).kb = s.kb := rfl
@[simp] theorem State.setRound_link (b : Nat) (r : Option Samples) : (s.setRound b r).link = s.link := rfl
@[simp] theorem State.setRound_store (b : Nat) (r : Option Samples) : (s.setRound b r).store = s.store := rfl
@[simp] theorem State.setRound_config (b : Nat) (r : Option Samples) : (s.setRound b r).config = s.config := rfl

/-! ### dropConversion -/

@[simp] theorem State.dropConversion_pending : s.dropConversion.pending = s.pending := rfl
@[simp] theorem State.dropConversion_clock : s.dropConversion.clock = s.clock := rfl
@[simp] theorem State.dropConversion_freeCount : s.dropConversion.freeCount = s.freeCount := rfl
@[simp] theorem State.dropConversion_pins : s.dropConversion.pins = s.pins := rfl
@[simp] theorem State.dropConversion_retentionAgrees : s.dropConversion.retentionAgrees = s.retentionAgrees := rfl
@[simp] theorem State.dropConversion_starting : s.dropConversion.starting = s.starting := rfl
@[simp] theorem State.dropConversion_bankTime : s.dropConversion.bankTime = s.bankTime := rfl
@[simp] theorem State.dropConversion_bays : s.dropConversion.bays = s.bays := rfl
@[simp] theorem State.dropConversion_lockedOut : s.dropConversion.lockedOut = s.lockedOut := rfl
@[simp] theorem State.dropConversion_directory : s.dropConversion.directory = s.directory := rfl
@[simp] theorem State.dropConversion_bankNotices : s.dropConversion.bankNotices = s.bankNotices := rfl
@[simp] theorem State.dropConversion_bayNotices : s.dropConversion.bayNotices = s.bayNotices := rfl
@[simp] theorem State.dropConversion_doors : s.dropConversion.doors = s.doors := rfl
@[simp] theorem State.dropConversion_latch : s.dropConversion.latch = s.latch := rfl
@[simp] theorem State.dropConversion_mains : s.dropConversion.mains = s.mains := rfl
@[simp] theorem State.dropConversion_heater : s.dropConversion.heater = s.heater := rfl
@[simp] theorem State.dropConversion_ka : s.dropConversion.ka = s.ka := rfl
@[simp] theorem State.dropConversion_kb : s.dropConversion.kb = s.kb := rfl
@[simp] theorem State.dropConversion_link : s.dropConversion.link = s.link := rfl
@[simp] theorem State.dropConversion_store : s.dropConversion.store = s.store := rfl
@[simp] theorem State.dropConversion_config : s.dropConversion.config = s.config := rfl

/-! ### setReceiver -/

@[simp] theorem State.setReceiver_pending (r : Receiver) : (s.setReceiver r).pending = s.pending := rfl
@[simp] theorem State.setReceiver_clock (r : Receiver) : (s.setReceiver r).clock = s.clock := rfl
@[simp] theorem State.setReceiver_freeCount (r : Receiver) : (s.setReceiver r).freeCount = s.freeCount := rfl
@[simp] theorem State.setReceiver_pins (r : Receiver) : (s.setReceiver r).pins = s.pins := rfl
@[simp] theorem State.setReceiver_retentionAgrees (r : Receiver) : (s.setReceiver r).retentionAgrees = s.retentionAgrees := rfl
@[simp] theorem State.setReceiver_starting (r : Receiver) : (s.setReceiver r).starting = s.starting := rfl
@[simp] theorem State.setReceiver_bankTime (r : Receiver) : (s.setReceiver r).bankTime = s.bankTime := rfl
@[simp] theorem State.setReceiver_bays (r : Receiver) : (s.setReceiver r).bays = s.bays := rfl
@[simp] theorem State.setReceiver_lockedOut (r : Receiver) : (s.setReceiver r).lockedOut = s.lockedOut := rfl
@[simp] theorem State.setReceiver_directory (r : Receiver) : (s.setReceiver r).directory = s.directory := rfl
@[simp] theorem State.setReceiver_bankNotices (r : Receiver) : (s.setReceiver r).bankNotices = s.bankNotices := rfl
@[simp] theorem State.setReceiver_bayNotices (r : Receiver) : (s.setReceiver r).bayNotices = s.bayNotices := rfl
@[simp] theorem State.setReceiver_doors (r : Receiver) : (s.setReceiver r).doors = s.doors := rfl
@[simp] theorem State.setReceiver_latch (r : Receiver) : (s.setReceiver r).latch = s.latch := rfl
@[simp] theorem State.setReceiver_scanner (r : Receiver) : (s.setReceiver r).scanner = s.scanner := rfl
@[simp] theorem State.setReceiver_mains (r : Receiver) : (s.setReceiver r).mains = s.mains := rfl
@[simp] theorem State.setReceiver_heater (r : Receiver) : (s.setReceiver r).heater = s.heater := rfl
@[simp] theorem State.setReceiver_ka (r : Receiver) : (s.setReceiver r).ka = s.ka := rfl
@[simp] theorem State.setReceiver_kb (r : Receiver) : (s.setReceiver r).kb = s.kb := rfl
@[simp] theorem State.setReceiver_store (r : Receiver) : (s.setReceiver r).store = s.store := rfl
@[simp] theorem State.setReceiver_config (r : Receiver) : (s.setReceiver r).config = s.config := rfl

/-! ### setReply -/

@[simp] theorem State.setReply_pending (r : Option Reply) : (s.setReply r).pending = s.pending := rfl
@[simp] theorem State.setReply_clock (r : Option Reply) : (s.setReply r).clock = s.clock := rfl
@[simp] theorem State.setReply_freeCount (r : Option Reply) : (s.setReply r).freeCount = s.freeCount := rfl
@[simp] theorem State.setReply_pins (r : Option Reply) : (s.setReply r).pins = s.pins := rfl
@[simp] theorem State.setReply_retentionAgrees (r : Option Reply) : (s.setReply r).retentionAgrees = s.retentionAgrees := rfl
@[simp] theorem State.setReply_starting (r : Option Reply) : (s.setReply r).starting = s.starting := rfl
@[simp] theorem State.setReply_bankTime (r : Option Reply) : (s.setReply r).bankTime = s.bankTime := rfl
@[simp] theorem State.setReply_bays (r : Option Reply) : (s.setReply r).bays = s.bays := rfl
@[simp] theorem State.setReply_lockedOut (r : Option Reply) : (s.setReply r).lockedOut = s.lockedOut := rfl
@[simp] theorem State.setReply_directory (r : Option Reply) : (s.setReply r).directory = s.directory := rfl
@[simp] theorem State.setReply_bankNotices (r : Option Reply) : (s.setReply r).bankNotices = s.bankNotices := rfl
@[simp] theorem State.setReply_bayNotices (r : Option Reply) : (s.setReply r).bayNotices = s.bayNotices := rfl
@[simp] theorem State.setReply_doors (r : Option Reply) : (s.setReply r).doors = s.doors := rfl
@[simp] theorem State.setReply_latch (r : Option Reply) : (s.setReply r).latch = s.latch := rfl
@[simp] theorem State.setReply_scanner (r : Option Reply) : (s.setReply r).scanner = s.scanner := rfl
@[simp] theorem State.setReply_mains (r : Option Reply) : (s.setReply r).mains = s.mains := rfl
@[simp] theorem State.setReply_heater (r : Option Reply) : (s.setReply r).heater = s.heater := rfl
@[simp] theorem State.setReply_ka (r : Option Reply) : (s.setReply r).ka = s.ka := rfl
@[simp] theorem State.setReply_kb (r : Option Reply) : (s.setReply r).kb = s.kb := rfl
@[simp] theorem State.setReply_store (r : Option Reply) : (s.setReply r).store = s.store := rfl
@[simp] theorem State.setReply_config (r : Option Reply) : (s.setReply r).config = s.config := rfl

/-! ### setFrames -/

@[simp] theorem State.setFrames_pending (q : List QueuedFrame) : (s.setFrames q).pending = s.pending := rfl
@[simp] theorem State.setFrames_clock (q : List QueuedFrame) : (s.setFrames q).clock = s.clock := rfl
@[simp] theorem State.setFrames_freeCount (q : List QueuedFrame) : (s.setFrames q).freeCount = s.freeCount := rfl
@[simp] theorem State.setFrames_pins (q : List QueuedFrame) : (s.setFrames q).pins = s.pins := rfl
@[simp] theorem State.setFrames_retentionAgrees (q : List QueuedFrame) : (s.setFrames q).retentionAgrees = s.retentionAgrees := rfl
@[simp] theorem State.setFrames_starting (q : List QueuedFrame) : (s.setFrames q).starting = s.starting := rfl
@[simp] theorem State.setFrames_bankTime (q : List QueuedFrame) : (s.setFrames q).bankTime = s.bankTime := rfl
@[simp] theorem State.setFrames_bays (q : List QueuedFrame) : (s.setFrames q).bays = s.bays := rfl
@[simp] theorem State.setFrames_lockedOut (q : List QueuedFrame) : (s.setFrames q).lockedOut = s.lockedOut := rfl
@[simp] theorem State.setFrames_directory (q : List QueuedFrame) : (s.setFrames q).directory = s.directory := rfl
@[simp] theorem State.setFrames_bankNotices (q : List QueuedFrame) : (s.setFrames q).bankNotices = s.bankNotices := rfl
@[simp] theorem State.setFrames_bayNotices (q : List QueuedFrame) : (s.setFrames q).bayNotices = s.bayNotices := rfl
@[simp] theorem State.setFrames_doors (q : List QueuedFrame) : (s.setFrames q).doors = s.doors := rfl
@[simp] theorem State.setFrames_latch (q : List QueuedFrame) : (s.setFrames q).latch = s.latch := rfl
@[simp] theorem State.setFrames_scanner (q : List QueuedFrame) : (s.setFrames q).scanner = s.scanner := rfl
@[simp] theorem State.setFrames_mains (q : List QueuedFrame) : (s.setFrames q).mains = s.mains := rfl
@[simp] theorem State.setFrames_heater (q : List QueuedFrame) : (s.setFrames q).heater = s.heater := rfl
@[simp] theorem State.setFrames_ka (q : List QueuedFrame) : (s.setFrames q).ka = s.ka := rfl
@[simp] theorem State.setFrames_kb (q : List QueuedFrame) : (s.setFrames q).kb = s.kb := rfl
@[simp] theorem State.setFrames_store (q : List QueuedFrame) : (s.setFrames q).store = s.store := rfl
@[simp] theorem State.setFrames_config (q : List QueuedFrame) : (s.setFrames q).config = s.config := rfl

/-! ### setSwitch -/

@[simp] theorem State.setSwitch_pending (d : Nat) (v : Bool) : (s.setSwitch d v).pending = s.pending := rfl
@[simp] theorem State.setSwitch_clock (d : Nat) (v : Bool) : (s.setSwitch d v).clock = s.clock := rfl
@[simp] theorem State.setSwitch_freeCount (d : Nat) (v : Bool) : (s.setSwitch d v).freeCount = s.freeCount := rfl
@[simp] theorem State.setSwitch_retentionAgrees (d : Nat) (v : Bool) : (s.setSwitch d v).retentionAgrees = s.retentionAgrees := rfl
@[simp] theorem State.setSwitch_starting (d : Nat) (v : Bool) : (s.setSwitch d v).starting = s.starting := rfl
@[simp] theorem State.setSwitch_bankTime (d : Nat) (v : Bool) : (s.setSwitch d v).bankTime = s.bankTime := rfl
@[simp] theorem State.setSwitch_bays (d : Nat) (v : Bool) : (s.setSwitch d v).bays = s.bays := rfl
@[simp] theorem State.setSwitch_lockedOut (d : Nat) (v : Bool) : (s.setSwitch d v).lockedOut = s.lockedOut := rfl
@[simp] theorem State.setSwitch_directory (d : Nat) (v : Bool) : (s.setSwitch d v).directory = s.directory := rfl
@[simp] theorem State.setSwitch_bankNotices (d : Nat) (v : Bool) : (s.setSwitch d v).bankNotices = s.bankNotices := rfl
@[simp] theorem State.setSwitch_bayNotices (d : Nat) (v : Bool) : (s.setSwitch d v).bayNotices = s.bayNotices := rfl
@[simp] theorem State.setSwitch_doors (d : Nat) (v : Bool) : (s.setSwitch d v).doors = s.doors := rfl
@[simp] theorem State.setSwitch_latch (d : Nat) (v : Bool) : (s.setSwitch d v).latch = s.latch := rfl
@[simp] theorem State.setSwitch_scanner (d : Nat) (v : Bool) : (s.setSwitch d v).scanner = s.scanner := rfl
@[simp] theorem State.setSwitch_mains (d : Nat) (v : Bool) : (s.setSwitch d v).mains = s.mains := rfl
@[simp] theorem State.setSwitch_heater (d : Nat) (v : Bool) : (s.setSwitch d v).heater = s.heater := rfl
@[simp] theorem State.setSwitch_ka (d : Nat) (v : Bool) : (s.setSwitch d v).ka = s.ka := rfl
@[simp] theorem State.setSwitch_kb (d : Nat) (v : Bool) : (s.setSwitch d v).kb = s.kb := rfl
@[simp] theorem State.setSwitch_link (d : Nat) (v : Bool) : (s.setSwitch d v).link = s.link := rfl
@[simp] theorem State.setSwitch_store (d : Nat) (v : Bool) : (s.setSwitch d v).store = s.store := rfl
@[simp] theorem State.setSwitch_config (d : Nat) (v : Bool) : (s.setSwitch d v).config = s.config := rfl

/-! ### setLockedOut -/

@[simp] theorem State.setLockedOut_pending (m : Nat) (v : Bool) : (s.setLockedOut m v).pending = s.pending := rfl
@[simp] theorem State.setLockedOut_clock (m : Nat) (v : Bool) : (s.setLockedOut m v).clock = s.clock := rfl
@[simp] theorem State.setLockedOut_freeCount (m : Nat) (v : Bool) : (s.setLockedOut m v).freeCount = s.freeCount := rfl
@[simp] theorem State.setLockedOut_pins (m : Nat) (v : Bool) : (s.setLockedOut m v).pins = s.pins := rfl
@[simp] theorem State.setLockedOut_retentionAgrees (m : Nat) (v : Bool) : (s.setLockedOut m v).retentionAgrees = s.retentionAgrees := rfl
@[simp] theorem State.setLockedOut_starting (m : Nat) (v : Bool) : (s.setLockedOut m v).starting = s.starting := rfl
@[simp] theorem State.setLockedOut_bankTime (m : Nat) (v : Bool) : (s.setLockedOut m v).bankTime = s.bankTime := rfl
@[simp] theorem State.setLockedOut_bays (m : Nat) (v : Bool) : (s.setLockedOut m v).bays = s.bays := rfl
@[simp] theorem State.setLockedOut_directory (m : Nat) (v : Bool) : (s.setLockedOut m v).directory = s.directory := rfl
@[simp] theorem State.setLockedOut_bankNotices (m : Nat) (v : Bool) : (s.setLockedOut m v).bankNotices = s.bankNotices := rfl
@[simp] theorem State.setLockedOut_bayNotices (m : Nat) (v : Bool) : (s.setLockedOut m v).bayNotices = s.bayNotices := rfl
@[simp] theorem State.setLockedOut_doors (m : Nat) (v : Bool) : (s.setLockedOut m v).doors = s.doors := rfl
@[simp] theorem State.setLockedOut_latch (m : Nat) (v : Bool) : (s.setLockedOut m v).latch = s.latch := rfl
@[simp] theorem State.setLockedOut_scanner (m : Nat) (v : Bool) : (s.setLockedOut m v).scanner = s.scanner := rfl
@[simp] theorem State.setLockedOut_mains (m : Nat) (v : Bool) : (s.setLockedOut m v).mains = s.mains := rfl
@[simp] theorem State.setLockedOut_heater (m : Nat) (v : Bool) : (s.setLockedOut m v).heater = s.heater := rfl
@[simp] theorem State.setLockedOut_ka (m : Nat) (v : Bool) : (s.setLockedOut m v).ka = s.ka := rfl
@[simp] theorem State.setLockedOut_kb (m : Nat) (v : Bool) : (s.setLockedOut m v).kb = s.kb := rfl
@[simp] theorem State.setLockedOut_link (m : Nat) (v : Bool) : (s.setLockedOut m v).link = s.link := rfl
@[simp] theorem State.setLockedOut_store (m : Nat) (v : Bool) : (s.setLockedOut m v).store = s.store := rfl
@[simp] theorem State.setLockedOut_config (m : Nat) (v : Bool) : (s.setLockedOut m v).config = s.config := rfl

/-! ### What the updates write -/

@[simp] theorem State.advance_clock (t : Nat) : (s.advance t).clock = max s.clock t := rfl
@[simp] theorem State.setBay_bays (b : Nat) (r : Bay) : (s.setBay b r).bays = s.bays.setIfInBounds b r := rfl
@[simp] theorem State.setDoor_doors (d : Nat) (r : Door) : (s.setDoor d r).doors = s.doors.setIfInBounds d r := rfl
@[simp] theorem State.setNotices_bayNotices (b : Nat) (n : BayNotices) :
    (s.setNotices b n).bayNotices = s.bayNotices.setIfInBounds b n := rfl
@[simp] theorem State.raiseBank_bankNotices (n : BankNotice) : (s.raiseBank n).bankNotices = s.bankNotices.raise n := rfl
@[simp] theorem State.setLatchQueue_latch (q : List LatchRequest) : (s.setLatchQueue q).latch = { s.latch with queue := q } := rfl
@[simp] theorem State.setLatchRecord_latch (d : Nat) (r : LatchRecord) :
    (s.setLatchRecord d r).latch = { s.latch with records := s.latch.records.setIfInBounds d r } := rfl
@[simp] theorem State.setChannel_latch (c : Nat) (p : Option Pulse) :
    (s.setChannel c p).latch = { s.latch with channels := s.latch.channels.setIfInBounds c p } := rfl
@[simp] theorem State.setRound_scanner (b : Nat) (r : Option Samples) :
    (s.setRound b r).scanner = { s.scanner with rounds := s.scanner.rounds.setIfInBounds b r } := rfl
@[simp] theorem State.setReceiver_link (r : Receiver) : (s.setReceiver r).link = { s.link with receiver := r } := rfl
@[simp] theorem State.setReply_link (r : Option Reply) : (s.setReply r).link = { s.link with reply := r } := rfl
@[simp] theorem State.setFrames_link (q : List QueuedFrame) : (s.setFrames q).link = { s.link with queue := q } := rfl
@[simp] theorem State.setSwitch_pins (d : Nat) (v : Bool) :
    (s.setSwitch d v).pins = { s.pins with switches := s.pins.switches.setIfInBounds d v } := rfl
@[simp] theorem State.setLockedOut_lockedOut (m : Nat) (v : Bool) :
    (s.setLockedOut m v).lockedOut = s.lockedOut.setIfInBounds m v := rfl

/-! ### Vectors by number -/

@[simp] theorem getD_setIfInBounds_self {α : Type} {n : Nat} (v : Vector α n) (i : Nat) (x d : α) (h : i < n) :
    (v.setIfInBounds i x).getD i d = x := by simp [Vector.getD, h]

@[simp] theorem getD_setIfInBounds_ne {α : Type} {n : Nat} (v : Vector α n) (i j : Nat) (x d : α) (h : i ≠ j) :
    (v.setIfInBounds i x).getD j d = v.getD j d := by
  by_cases hj : j < n <;> simp [Vector.getD, hj, h]

@[simp] theorem setIfInBounds_twice {α : Type} {n : Nat} (v : Vector α n) (i : Nat) (x y : α) :
    (v.setIfInBounds i x).setIfInBounds i y = v.setIfInBounds i y := by
  apply Vector.ext
  intro j hj
  simp only [Vector.getElem_setIfInBounds]
  split <;> rfl

/-! ### Records by number -/

@[simp] theorem State.setBay_bay_self (b : Nat) (r : Bay) (h : b < 48) : (s.setBay b r).bay b = r :=
  getD_setIfInBounds_self s.bays b r Bay.empty h
@[simp] theorem State.setBay_bay_ne (b c : Nat) (r : Bay) (h : b ≠ c) : (s.setBay b r).bay c = s.bay c :=
  getD_setIfInBounds_ne s.bays b c r Bay.empty h
@[simp] theorem State.setNotices_notices_self (b : Nat) (n : BayNotices) (h : b < 48) : (s.setNotices b n).notices b = n :=
  getD_setIfInBounds_self s.bayNotices b n BayNotices.empty h
@[simp] theorem State.setNotices_notices_ne (b c : Nat) (n : BayNotices) (h : b ≠ c) :
    (s.setNotices b n).notices c = s.notices c :=
  getD_setIfInBounds_ne s.bayNotices b c n BayNotices.empty h
@[simp] theorem State.setDoor_door_self (d : Nat) (r : Door) (h : d < 96) : (s.setDoor d r).door d = r :=
  getD_setIfInBounds_self s.doors d r _ h
@[simp] theorem State.setDoor_door_ne (d e : Nat) (r : Door) (h : d ≠ e) : (s.setDoor d r).door e = s.door e :=
  getD_setIfInBounds_ne s.doors d e r _ h
@[simp] theorem State.setLatchRecord_self (d : Nat) (r : LatchRecord) (h : d < 96) : (s.setLatchRecord d r).latchRecord d = r :=
  getD_setIfInBounds_self s.latch.records d r _ h
@[simp] theorem State.setLatchRecord_ne (d e : Nat) (r : LatchRecord) (h : d ≠ e) :
    (s.setLatchRecord d r).latchRecord e = s.latchRecord e :=
  getD_setIfInBounds_ne s.latch.records d e r _ h
/-- A bay outside the 48 has the empty record, whatever the state. -/
theorem State.bay_of_le (b : Nat) (h : 48 ≤ b) : s.bay b = Bay.empty := by
  simp [State.bay, Vector.getD, Nat.not_lt.mpr h]

/-! ### What is read through an update of something else -/

@[simp] theorem State.setBay_notices (b : Nat) (r : Bay) (c : Nat) : (s.setBay b r).notices c = s.notices c := rfl
@[simp] theorem State.setBay_door (b : Nat) (r : Bay) (e : Nat) : (s.setBay b r).door e = s.door e := rfl
@[simp] theorem State.setBay_latchRecord (b : Nat) (r : Bay) (e : Nat) : (s.setBay b r).latchRecord e = s.latchRecord e := rfl
@[simp] theorem State.setBay_latchPosition (b : Nat) (r : Bay) (e : Nat) : (s.setBay b r).latchPosition e = s.latchPosition e := rfl
@[simp] theorem State.setBay_pendingFor (b : Nat) (r : Bay) (e : Nat) : (s.setBay b r).pendingFor e = s.pendingFor e := rfl
@[simp] theorem State.setBay_pulseRuns (b : Nat) (r : Bay) (e : Nat) : (s.setBay b r).pulseRuns e = s.pulseRuns e := rfl
@[simp] theorem State.setBay_profile (b : Nat) (r : Bay) (n : Nat) : (s.setBay b r).profile n = s.profile n := rfl
@[simp] theorem State.setBay_running (b : Nat) (r : Bay) : (s.setBay b r).running = s.running := rfl
@[simp] theorem State.setBay_energised (b : Nat) (r : Bay) : (s.setBay b r).energised = s.energised := rfl
@[simp] theorem State.setBay_after (b : Nat) (r : Bay) (n : Nat) : (s.setBay b r).after n = s.after n := rfl
@[simp] theorem State.setBay_reached (b : Nat) (r : Bay) (x : Option Nat) : (s.setBay b r).reached x = s.reached x := rfl
@[simp] theorem State.setBay_findCode (b : Nat) (r : Bay) (k : Nat) : (s.setBay b r).findCode k = s.findCode k := rfl
@[simp] theorem State.setBay_findOrder (b : Nat) (r : Bay) (k : Nat) : (s.setBay b r).findOrder k = s.findOrder k := rfl
@[simp] theorem State.setBay_doorsClosed (b : Nat) (r : Bay) (c : Nat) : (s.setBay b r).doorsClosed c = s.doorsClosed c := rfl
@[simp] theorem State.setBay_slotRecord (b : Nat) (r : Bay) (n : Nat) : (s.setBay b r).slotRecord n = s.slotRecord n := rfl

@[simp] theorem State.setDoor_bay (d : Nat) (r : Door) (c : Nat) : (s.setDoor d r).bay c = s.bay c := rfl
@[simp] theorem State.setDoor_notices (d : Nat) (r : Door) (c : Nat) : (s.setDoor d r).notices c = s.notices c := rfl
@[simp] theorem State.setDoor_latchRecord (d : Nat) (r : Door) (e : Nat) : (s.setDoor d r).latchRecord e = s.latchRecord e := rfl
@[simp] theorem State.setDoor_latchPosition (d : Nat) (r : Door) (e : Nat) : (s.setDoor d r).latchPosition e = s.latchPosition e := rfl
@[simp] theorem State.setDoor_pendingFor (d : Nat) (r : Door) (e : Nat) : (s.setDoor d r).pendingFor e = s.pendingFor e := rfl
@[simp] theorem State.setDoor_pulseRuns (d : Nat) (r : Door) (e : Nat) : (s.setDoor d r).pulseRuns e = s.pulseRuns e := rfl
@[simp] theorem State.setDoor_profile (d : Nat) (r : Door) (n : Nat) : (s.setDoor d r).profile n = s.profile n := rfl
@[simp] theorem State.setDoor_boundProfile (d : Nat) (r : Door) (c : Nat) : (s.setDoor d r).boundProfile c = s.boundProfile c := rfl
@[simp] theorem State.setDoor_running (d : Nat) (r : Door) : (s.setDoor d r).running = s.running := rfl
@[simp] theorem State.setDoor_energised (d : Nat) (r : Door) : (s.setDoor d r).energised = s.energised := rfl
@[simp] theorem State.setDoor_after (d : Nat) (r : Door) (n : Nat) : (s.setDoor d r).after n = s.after n := rfl
@[simp] theorem State.setDoor_reached (d : Nat) (r : Door) (x : Option Nat) : (s.setDoor d r).reached x = s.reached x := rfl
@[simp] theorem State.setDoor_findCode (d : Nat) (r : Door) (k : Nat) : (s.setDoor d r).findCode k = s.findCode k := rfl
@[simp] theorem State.setDoor_findOrder (d : Nat) (r : Door) (k : Nat) : (s.setDoor d r).findOrder k = s.findOrder k := rfl
@[simp] theorem State.setDoor_slotRecord (d : Nat) (r : Door) (n : Nat) : (s.setDoor d r).slotRecord n = s.slotRecord n := rfl

@[simp] theorem State.setNotices_bay (b : Nat) (n' : BayNotices) (c : Nat) : (s.setNotices b n').bay c = s.bay c := rfl
@[simp] theorem State.setNotices_door (b : Nat) (n' : BayNotices) (e : Nat) : (s.setNotices b n').door e = s.door e := rfl
@[simp] theorem State.setNotices_latchRecord (b : Nat) (n' : BayNotices) (e : Nat) : (s.setNotices b n').latchRecord e = s.latchRecord e := rfl
@[simp] theorem State.setNotices_latchPosition (b : Nat) (n' : BayNotices) (e : Nat) : (s.setNotices b n').latchPosition e = s.latchPosition e := rfl
@[simp] theorem State.setNotices_pendingFor (b : Nat) (n' : BayNotices) (e : Nat) : (s.setNotices b n').pendingFor e = s.pendingFor e := rfl
@[simp] theorem State.setNotices_pulseRuns (b : Nat) (n' : BayNotices) (e : Nat) : (s.setNotices b n').pulseRuns e = s.pulseRuns e := rfl
@[simp] theorem State.setNotices_profile (b : Nat) (n' : BayNotices) (n : Nat) : (s.setNotices b n').profile n = s.profile n := rfl
@[simp] theorem State.setNotices_boundProfile (b : Nat) (n' : BayNotices) (c : Nat) : (s.setNotices b n').boundProfile c = s.boundProfile c := rfl
@[simp] theorem State.setNotices_running (b : Nat) (n' : BayNotices) : (s.setNotices b n').running = s.running := rfl
@[simp] theorem State.setNotices_energised (b : Nat) (n' : BayNotices) : (s.setNotices b n').energised = s.energised := rfl
@[simp] theorem State.setNotices_after (b : Nat) (n' : BayNotices) (n : Nat) : (s.setNotices b n').after n = s.after n := rfl
@[simp] theorem State.setNotices_reached (b : Nat) (n' : BayNotices) (x : Option Nat) : (s.setNotices b n').reached x = s.reached x := rfl
@[simp] theorem State.setNotices_findCode (b : Nat) (n' : BayNotices) (k : Nat) : (s.setNotices b n').findCode k = s.findCode k := rfl
@[simp] theorem State.setNotices_findOrder (b : Nat) (n' : BayNotices) (k : Nat) : (s.setNotices b n').findOrder k = s.findOrder k := rfl
@[simp] theorem State.setNotices_doorsClosed (b : Nat) (n' : BayNotices) (c : Nat) : (s.setNotices b n').doorsClosed c = s.doorsClosed c := rfl
@[simp] theorem State.setNotices_slotRecord (b : Nat) (n' : BayNotices) (n : Nat) : (s.setNotices b n').slotRecord n = s.slotRecord n := rfl

@[simp] theorem State.setLatchRecord_bay (d : Nat) (r : LatchRecord) (c : Nat) : (s.setLatchRecord d r).bay c = s.bay c := rfl
@[simp] theorem State.setLatchRecord_notices (d : Nat) (r : LatchRecord) (c : Nat) : (s.setLatchRecord d r).notices c = s.notices c := rfl
@[simp] theorem State.setLatchRecord_door (d : Nat) (r : LatchRecord) (e : Nat) : (s.setLatchRecord d r).door e = s.door e := rfl
@[simp] theorem State.setLatchRecord_pendingFor (d : Nat) (r : LatchRecord) (e : Nat) : (s.setLatchRecord d r).pendingFor e = s.pendingFor e := rfl
@[simp] theorem State.setLatchRecord_pulseRuns (d : Nat) (r : LatchRecord) (e : Nat) : (s.setLatchRecord d r).pulseRuns e = s.pulseRuns e := rfl
@[simp] theorem State.setLatchRecord_profile (d : Nat) (r : LatchRecord) (n : Nat) : (s.setLatchRecord d r).profile n = s.profile n := rfl
@[simp] theorem State.setLatchRecord_boundProfile (d : Nat) (r : LatchRecord) (c : Nat) : (s.setLatchRecord d r).boundProfile c = s.boundProfile c := rfl
@[simp] theorem State.setLatchRecord_running (d : Nat) (r : LatchRecord) : (s.setLatchRecord d r).running = s.running := rfl
@[simp] theorem State.setLatchRecord_energised (d : Nat) (r : LatchRecord) : (s.setLatchRecord d r).energised = s.energised := rfl
@[simp] theorem State.setLatchRecord_after (d : Nat) (r : LatchRecord) (n : Nat) : (s.setLatchRecord d r).after n = s.after n := rfl
@[simp] theorem State.setLatchRecord_reached (d : Nat) (r : LatchRecord) (x : Option Nat) : (s.setLatchRecord d r).reached x = s.reached x := rfl
@[simp] theorem State.setLatchRecord_findCode (d : Nat) (r : LatchRecord) (k : Nat) : (s.setLatchRecord d r).findCode k = s.findCode k := rfl
@[simp] theorem State.setLatchRecord_findOrder (d : Nat) (r : LatchRecord) (k : Nat) : (s.setLatchRecord d r).findOrder k = s.findOrder k := rfl
@[simp] theorem State.setLatchRecord_doorsClosed (d : Nat) (r : LatchRecord) (c : Nat) : (s.setLatchRecord d r).doorsClosed c = s.doorsClosed c := rfl
@[simp] theorem State.setLatchRecord_slotRecord (d : Nat) (r : LatchRecord) (n : Nat) : (s.setLatchRecord d r).slotRecord n = s.slotRecord n := rfl

@[simp] theorem State.setLatchQueue_bay (q : List LatchRequest) (c : Nat) : (s.setLatchQueue q).bay c = s.bay c := rfl
@[simp] theorem State.setLatchQueue_notices (q : List LatchRequest) (c : Nat) : (s.setLatchQueue q).notices c = s.notices c := rfl
@[simp] theorem State.setLatchQueue_door (q : List LatchRequest) (e : Nat) : (s.setLatchQueue q).door e = s.door e := rfl
@[simp] theorem State.setLatchQueue_latchRecord (q : List LatchRequest) (e : Nat) : (s.setLatchQueue q).latchRecord e = s.latchRecord e := rfl
@[simp] theorem State.setLatchQueue_latchPosition (q : List LatchRequest) (e : Nat) : (s.setLatchQueue q).latchPosition e = s.latchPosition e := rfl
@[simp] theorem State.setLatchQueue_pulseRuns (q : List LatchRequest) (e : Nat) : (s.setLatchQueue q).pulseRuns e = s.pulseRuns e := rfl
@[simp] theorem State.setLatchQueue_profile (q : List LatchRequest) (n : Nat) : (s.setLatchQueue q).profile n = s.profile n := rfl
@[simp] theorem State.setLatchQueue_boundProfile (q : List LatchRequest) (c : Nat) : (s.setLatchQueue q).boundProfile c = s.boundProfile c := rfl
@[simp] theorem State.setLatchQueue_running (q : List LatchRequest) : (s.setLatchQueue q).running = s.running := rfl
@[simp] theorem State.setLatchQueue_energised (q : List LatchRequest) : (s.setLatchQueue q).energised = s.energised := rfl
@[simp] theorem State.setLatchQueue_after (q : List LatchRequest) (n : Nat) : (s.setLatchQueue q).after n = s.after n := rfl
@[simp] theorem State.setLatchQueue_reached (q : List LatchRequest) (x : Option Nat) : (s.setLatchQueue q).reached x = s.reached x := rfl
@[simp] theorem State.setLatchQueue_findCode (q : List LatchRequest) (k : Nat) : (s.setLatchQueue q).findCode k = s.findCode k := rfl
@[simp] theorem State.setLatchQueue_findOrder (q : List LatchRequest) (k : Nat) : (s.setLatchQueue q).findOrder k = s.findOrder k := rfl
@[simp] theorem State.setLatchQueue_doorsClosed (q : List LatchRequest) (c : Nat) : (s.setLatchQueue q).doorsClosed c = s.doorsClosed c := rfl
@[simp] theorem State.setLatchQueue_slotRecord (q : List LatchRequest) (n : Nat) : (s.setLatchQueue q).slotRecord n = s.slotRecord n := rfl

@[simp] theorem State.setRound_bay (b : Nat) (r : Option Samples) (c : Nat) : (s.setRound b r).bay c = s.bay c := rfl
@[simp] theorem State.setRound_notices (b : Nat) (r : Option Samples) (c : Nat) : (s.setRound b r).notices c = s.notices c := rfl
@[simp] theorem State.setRound_door (b : Nat) (r : Option Samples) (e : Nat) : (s.setRound b r).door e = s.door e := rfl
@[simp] theorem State.setRound_latchRecord (b : Nat) (r : Option Samples) (e : Nat) : (s.setRound b r).latchRecord e = s.latchRecord e := rfl
@[simp] theorem State.setRound_latchPosition (b : Nat) (r : Option Samples) (e : Nat) : (s.setRound b r).latchPosition e = s.latchPosition e := rfl
@[simp] theorem State.setRound_pendingFor (b : Nat) (r : Option Samples) (e : Nat) : (s.setRound b r).pendingFor e = s.pendingFor e := rfl
@[simp] theorem State.setRound_pulseRuns (b : Nat) (r : Option Samples) (e : Nat) : (s.setRound b r).pulseRuns e = s.pulseRuns e := rfl
@[simp] theorem State.setRound_profile (b : Nat) (r : Option Samples) (n : Nat) : (s.setRound b r).profile n = s.profile n := rfl
@[simp] theorem State.setRound_boundProfile (b : Nat) (r : Option Samples) (c : Nat) : (s.setRound b r).boundProfile c = s.boundProfile c := rfl
@[simp] theorem State.setRound_running (b : Nat) (r : Option Samples) : (s.setRound b r).running = s.running := rfl
@[simp] theorem State.setRound_energised (b : Nat) (r : Option Samples) : (s.setRound b r).energised = s.energised := rfl
@[simp] theorem State.setRound_after (b : Nat) (r : Option Samples) (n : Nat) : (s.setRound b r).after n = s.after n := rfl
@[simp] theorem State.setRound_reached (b : Nat) (r : Option Samples) (x : Option Nat) : (s.setRound b r).reached x = s.reached x := rfl
@[simp] theorem State.setRound_findCode (b : Nat) (r : Option Samples) (k : Nat) : (s.setRound b r).findCode k = s.findCode k := rfl
@[simp] theorem State.setRound_findOrder (b : Nat) (r : Option Samples) (k : Nat) : (s.setRound b r).findOrder k = s.findOrder k := rfl
@[simp] theorem State.setRound_doorsClosed (b : Nat) (r : Option Samples) (c : Nat) : (s.setRound b r).doorsClosed c = s.doorsClosed c := rfl
@[simp] theorem State.setRound_slotRecord (b : Nat) (r : Option Samples) (n : Nat) : (s.setRound b r).slotRecord n = s.slotRecord n := rfl

@[simp] theorem State.advance_bay (t : Nat) (c : Nat) : (s.advance t).bay c = s.bay c := rfl
@[simp] theorem State.advance_notices (t : Nat) (c : Nat) : (s.advance t).notices c = s.notices c := rfl
@[simp] theorem State.advance_door (t : Nat) (e : Nat) : (s.advance t).door e = s.door e := rfl
@[simp] theorem State.advance_latchRecord (t : Nat) (e : Nat) : (s.advance t).latchRecord e = s.latchRecord e := rfl
@[simp] theorem State.advance_latchPosition (t : Nat) (e : Nat) : (s.advance t).latchPosition e = s.latchPosition e := rfl
@[simp] theorem State.advance_pendingFor (t : Nat) (e : Nat) : (s.advance t).pendingFor e = s.pendingFor e := rfl
@[simp] theorem State.advance_pulseRuns (t : Nat) (e : Nat) : (s.advance t).pulseRuns e = s.pulseRuns e := rfl
@[simp] theorem State.advance_profile (t : Nat) (n : Nat) : (s.advance t).profile n = s.profile n := rfl
@[simp] theorem State.advance_boundProfile (t : Nat) (c : Nat) : (s.advance t).boundProfile c = s.boundProfile c := rfl
@[simp] theorem State.advance_running (t : Nat) : (s.advance t).running = s.running := rfl
@[simp] theorem State.advance_energised (t : Nat) : (s.advance t).energised = s.energised := rfl
@[simp] theorem State.advance_after (t : Nat) (n : Nat) : (s.advance t).after n = s.after n := rfl
@[simp] theorem State.advance_reached (t : Nat) (x : Option Nat) : (s.advance t).reached x = s.reached x := rfl
@[simp] theorem State.advance_findCode (t : Nat) (k : Nat) : (s.advance t).findCode k = s.findCode k := rfl
@[simp] theorem State.advance_findOrder (t : Nat) (k : Nat) : (s.advance t).findOrder k = s.findOrder k := rfl
@[simp] theorem State.advance_doorsClosed (t : Nat) (c : Nat) : (s.advance t).doorsClosed c = s.doorsClosed c := rfl
@[simp] theorem State.advance_slotRecord (t : Nat) (n : Nat) : (s.advance t).slotRecord n = s.slotRecord n := rfl

end Sys2Proof.Machine
end

