-- ==== Sys2Proof/Laws/Ops.lean ====
section
/-! SUPPORT. What each shared operation can do, said once: the fields it may touch, as an equation, and its effect on the records. Proofs cite
these in place of unfolding the operations. -/

namespace Sys2Proof.Machine

variable (s : State)

/-! ### Running -/

theorem State.not_starting_of_running (h : s.running = true) : s.starting = none := by
  simpa using (Bool.and_eq_true _ _ ▸ h : s.powered = true ∧ s.starting.isNone = true).2

theorem State.awake_of_not_starting (h : s.starting = none) : s.awake = s := by simp [State.awake, h]

theorem State.awake_of_running (h : s.running = true) : s.awake = s := s.awake_of_not_starting (s.not_starting_of_running h)

/-- A start that has ended is not ended again. -/
theorem State.awake_awake : s.awake.awake = s.awake := by
  unfold State.awake
  cases h : s.starting with
  | none => simp [h]
  | some cold =>
    by_cases hp : s.powered = true
    · simp [hp, State.endStart]
    · simp [hp, h]

theorem State.whenRunning_of_running (f : State → State) (h : s.running = true) : s.whenRunning f = f s := by
  simp [State.whenRunning, s.awake_of_running h, h]

theorem State.whenRunning_of_stopped (f : State → State) (h : s.running = false) (hs : s.starting = none) : s.whenRunning f = s := by
  simp [State.whenRunning, s.awake_of_not_starting hs, h]

/-- A row that comes during a start is taken from the moment the start has ended. -/
theorem State.whenRunning_awake (f : State → State) : s.awake.whenRunning f = s.whenRunning f := by
  simp [State.whenRunning, s.awake_awake]

/-- A command with a moment `t`, while the part runs. -/
theorem State.whenRunningAt_of_running (t : Nat) (f : State → State) (h : s.running = true) : s.whenRunningAt t f = f (s.advance t) := by
  have : (s.advance t).running = true := h
  simp [State.whenRunningAt, s.awake_of_running h, this]

theorem State.whenRunningAt_awake (t : Nat) (f : State → State) : s.awake.whenRunningAt t f = s.whenRunningAt t f := by
  unfold State.whenRunningAt; rw [s.awake_awake]

theorem nextIf_true (t : State) : nextIf true s t = .next t := rfl

/-! ### Changes of bay state -/

/-- A change of a bay record touches the records, the rounds, and the schedule and gates, and nothing else. -/
theorem State.changeBay_frame (b : Nat) (f : Bay → Bay) :
    s.changeBay b f = { s with
      bays := s.bays.setIfInBounds b { f (s.bay b) with demand := demandAfter (s.bay b).state (f (s.bay b)) }
      scanner := if (s.bay b).state.group = (f (s.bay b)).state.group then s.scanner
        else { s.scanner with rounds := s.scanner.rounds.setIfInBounds b none }
      heater := if (s.bay b).state.heating && !(f (s.bay b)).state.heating then (s.cutRun b).heater else s.heater } := by
  unfold State.changeBay
  by_cases h : (s.bay b).state.group = (f (s.bay b)).state.group <;>
  by_cases h' : ((s.bay b).state.heating && !(f (s.bay b)).state.heating) = true <;>
  simp [h, h', State.discardRound, State.cutRun, State.setBay]

/-- R76: the mark touches the scanner's discard alone. -/
theorem State.markDiscard_frame (b : Nat) :
    s.markDiscard b = { s with scanner := { s.scanner with discard := (s.markDiscard b).scanner.discard } } := by
  unfold State.markDiscard; split <;> rfl

theorem State.changeBay_bay_self (b : Nat) (f : Bay → Bay) (h : b < 48) :
    (s.changeBay b f).bay b = { f (s.bay b) with demand := demandAfter (s.bay b).state (f (s.bay b)) } := by
  rw [State.changeBay_frame]
  exact getD_setIfInBounds_self _ _ _ _ h

theorem State.changeBay_bay_ne (b c : Nat) (f : Bay → Bay) (h : b ≠ c) : (s.changeBay b f).bay c = s.bay c := by
  rw [State.changeBay_frame]
  exact getD_setIfInBounds_ne _ _ _ _ _ h

/-- After a change out of the heating states the bay's gate is off and its runs are cut (R130). -/
theorem State.cutRun_off (b : Nat) :
    (s.cutRun b).heater.gates.getD b false = false ∧ ∀ r ∈ (s.cutRun b).heater.schedule, r.bay = b → r.cut = true := by
  refine ⟨?_, fun r hr h => ?_⟩
  · by_cases hb : b < 48 <;> simp [State.cutRun, Vector.getD, hb]
  · simp only [State.cutRun, List.mem_map] at hr
    obtain ⟨a, -, rfl⟩ := hr
    split at h <;> simp_all

/-- R30: leaving the entry changes the directory alone. -/
theorem State.leaveEntry_frame (b : Nat) : s.leaveEntry b = { s with directory := (s.leaveEntry b).directory } := by
  unfold State.leaveEntry; split <;> rfl

/-- R171: entering WITHDRAWN is a change of record and a notice. -/
theorem State.enterWithdrawn_bay_self (b : Nat) (why : WithdrawReason) (h : b < 48) :
    (s.enterWithdrawn b why).bay b = { (s.bay b).withdrawnFor why with demand := 0 } := by
  have : (s.enterWithdrawn b why).bay b = (s.changeBay b (·.withdrawnFor why)).bay b := rfl
  rw [this, State.changeBay_bay_self _ _ _ h]
  rfl

/-! ### Latch requests -/

/-- R161, R180: a completion writes at most the timer of one bay. -/
theorem State.unlockCompletion_frame (d : Nat) : s.unlockCompletion d = { s with bays := (s.unlockCompletion d).bays } := by
  unfold State.unlockCompletion
  cases sideOfDoor d <;> simp only <;> split <;> first | rfl | (split <;> rfl)

/-- R142: a withdrawal touches the queue alone. -/
theorem State.withdrawRequest_frame (d : Nat) (a : LatchAction) :
    s.withdrawRequest d a = { s with latch := { s.latch with queue := (s.withdrawRequest d a).latch.queue } } := by
  unfold State.withdrawRequest
  split
  · split <;> rfl
  · rfl

theorem State.mergeRequest_frame (r : LatchRequest) (c : RequestClass) :
    s.mergeRequest r c = { s with latch := { s.latch with queue := (s.mergeRequest r c).latch.queue } } := rfl

/-- R141: a request touches the queue and its arrivals, and, where an UNLOCK is satisfied at once, the timer of the bay. -/
theorem State.request_frame (d : Nat) (a : LatchAction) (c : RequestClass) :
    s.request d a c = { s with
      bays := (s.request d a c).bays
      latch := { s.latch with queue := (s.request d a c).latch.queue, nextArrival := (s.request d a c).latch.nextArrival } } := by
  unfold State.request
  split
  · split
    · split
      · rfl
      · cases a
        · rfl
        · simp only [State.satisfied]; rw [State.unlockCompletion_frame]
    · rfl
  · split
    · simp only
      split
      · rfl
      · cases a
        · rfl
        · simp only [State.satisfied]; rw [State.unlockCompletion_frame]; rfl
    · rfl

/-- A LOCK request delivers nothing: it touches the queue and its arrivals alone. -/
theorem State.requestLock_frame (d : Nat) : s.requestLock d = { s with latch := (s.requestLock d).latch } := by
  unfold State.requestLock State.request
  split
  · split
    · split <;> rfl
    · rfl
  · split
    · simp only; split <;> rfl
    · rfl

/-- R168: returning the front latch touches the queue and its arrivals alone. -/
theorem State.returnFrontLatch_frame (b : Nat) : s.returnFrontLatch b = { s with latch := (s.returnFrontLatch b).latch } := by
  unfold State.returnFrontLatch
  split
  · rw [State.withdrawRequest_frame]
  · rw [State.requestLock_frame]

/-! ### Courses of bays -/

theorem BaysOnly.refl : BaysOnly s s := rfl

theorem BaysOnly.trans {s t u : State} (h : BaysOnly s t) (h' : BaysOnly t u) : BaysOnly s u := by
  unfold BaysOnly at *
  rw [h] at h'
  rw [h']

theorem State.setBay_baysOnly (b : Nat) (r : Bay) : BaysOnly s (s.setBay b r) := rfl

theorem State.raiseBay_baysOnly (b : Nat) (n : BayNotice) : BaysOnly s (s.raiseBay b n) := rfl

theorem State.cutRun_baysOnly (b : Nat) : BaysOnly s (s.cutRun b) := rfl

theorem State.changeBay_baysOnly (b : Nat) (f : Bay → Bay) : BaysOnly s (s.changeBay b f) := by
  rw [State.changeBay_frame]
  unfold BaysOnly
  by_cases h : (s.bay b).state.group = (f (s.bay b)).state.group <;>
  by_cases h' : ((s.bay b).state.heating && !(f (s.bay b)).state.heating) = true <;>
  simp [h, h', State.cutRun]

theorem State.markDiscard_baysOnly (b : Nat) : BaysOnly s (s.markDiscard b) := by
  unfold BaysOnly; rw [State.markDiscard_frame]

theorem State.leaveEntry_baysOnly (b : Nat) : BaysOnly s (s.leaveEntry b) := by
  unfold BaysOnly; rw [State.leaveEntry_frame]

theorem State.request_baysOnly (d : Nat) (a : LatchAction) (c : RequestClass) : BaysOnly s (s.request d a c) := by
  unfold BaysOnly; rw [State.request_frame]

theorem State.requestLock_baysOnly (d : Nat) : BaysOnly s (s.requestLock d) := s.request_baysOnly d .lock .lock

theorem State.withdrawRequest_baysOnly (d : Nat) (a : LatchAction) : BaysOnly s (s.withdrawRequest d a) := by
  unfold BaysOnly; rw [State.withdrawRequest_frame]

theorem State.unlockCompletion_baysOnly (d : Nat) : BaysOnly s (s.unlockCompletion d) := by
  unfold BaysOnly; rw [State.unlockCompletion_frame]

theorem State.sendToVacant_baysOnly (b : Nat) : BaysOnly s (s.sendToVacant b) := by
  unfold State.sendToVacant State.enterOutOfService State.enterVacant
  have left : ∀ f, BaysOnly s ((s.leaveEntry b).changeBay b f) :=
    fun f => (s.leaveEntry_baysOnly b).trans (State.changeBay_baysOnly _ _ f)
  split
  · exact (left _).trans (State.markDiscard_baysOnly _ _)
  · split
    · exact (left _).trans (State.markDiscard_baysOnly _ _)
    · exact left _

theorem State.enterWithdrawn_baysOnly (b : Nat) (why : WithdrawReason) : BaysOnly s (s.enterWithdrawn b why) :=
  (s.changeBay_baysOnly b _).trans (State.raiseBay_baysOnly _ _ _)

theorem State.returnFrontLatch_baysOnly (b : Nat) : BaysOnly s (s.returnFrontLatch b) := by
  unfold State.returnFrontLatch
  split
  · exact State.withdrawRequest_baysOnly _ _ _
  · exact State.requestLock_baysOnly _ _

theorem State.withdrawHeld_baysOnly (b : Nat) (why : WithdrawReason) : BaysOnly s (s.withdrawHeld b why) := by
  unfold State.withdrawHeld
  split
  · exact (s.enterWithdrawn_baysOnly b why).trans (State.returnFrontLatch_baysOnly _ _)
  · exact s.enterWithdrawn_baysOnly b why

theorem State.forBays_baysOnly (bs : List Nat) (f : State → Nat → State) (h : ∀ s b, BaysOnly s (f s b)) :
    BaysOnly s (s.forBays bs f) := by
  induction bs generalizing s with
  | nil => exact BaysOnly.refl s
  | cons b bs ih => exact (h s b).trans (ih (f s b))

end Sys2Proof.Machine
end

