-- ==== Sys2Proof/Laws/Link.lean ====
section
/-! SUPPORT. A server command at a link at rest, said once: it is carried out at once, on the state in which its frame stands in the queue,
and its reply waits. -/

namespace Sys2Proof.Machine

/-- R190: the bank transmits while the end of its reply is ahead. -/
theorem State.transmits_iff (s : State) : s.transmits = true ↔ ∃ e, s.link.sending = some e ∧ s.clock < e := by
  cases h : s.link.sending <;> simp [State.transmits, h]

/-- R190: a character that ends while LDE is high does nothing. -/
theorem State.whenListening_of_transmits (s : State) (f : State → State) (h : s.transmits = true) : s.whenListening f = s := by
  simp [State.whenListening, h]

/-- R184, R190: a character that ends while LDE is low is received. -/
theorem State.whenListening_of_silent (s : State) (f : State → State) (h : s.transmits = false) :
    s.whenListening f = f s.heard := by
  simp [State.whenListening, h]

/-- The state in which the frame of a command has just joined the empty queue (R188). -/
def State.joined (s : State) (c : Command) : State :=
  { s with link := { s.link with lastCharacter := some s.clock, queue := [{ broadcast := false, command := c }] } }

theorem State.abandonFrame_asleep (s : State) (h : s.link.receiver.phase = .asleep) : s.abandonFrame = s := if_pos h

theorem State.receiveCommand_atRest (s : State) (c : Command) (h : s.AtRest) :
    s.receiveCommand false c = (s.joined c).answer c := by
  have ha : ¬ (false = false ∧ s.heard.link.address = 0) := fun hc => h.addressed hc.2
  have hq : s.heard.link.queue = [] := h.empty
  rw [State.receiveCommand, s.whenRunning_of_running _ h.running, State.whenListening, if_neg (by simp [State.transmits, h.silent])]
  dsimp only
  rw [s.heard.abandonFrame_asleep h.asleep, if_neg ha, State.offerFrame, hq, if_neg (by simp), if_pos rfl]
  rfl

/-- R189: a server command at rest. -/
theorem exec_atRest (s : State) (i : Instr) (c : Command) (hw : i.wellFormed = true) (hc : Instr.serverCommand i = some c)
    (h : s.AtRest) : exec i s = .next ((s.joined c).answer c) := by
  have arrives : ∀ k : Command, s.receiveCommand false k = (s.joined k).answer k := fun k => s.receiveCommand_atRest k h
  cases i
  case restart b o =>
    cases b
    · cases hc
      simp only [exec, execRestart, hw, nextIf, if_true, arrives]
    · cases hc
  case book r k ss o =>
    cases hc
    have hs : ¬ 48 < ss.length := by simp only [Instr.wellFormed, Bool.and_eq_true, decide_eq_true_eq] at hw; omega
    simp only [exec, execBook, hs, hw, nextIf, if_false, if_true, arrives]
  case configure bs =>
    cases hc
    have hs : bs.length = 37 := by simpa [Instr.wellFormed] using hw
    simp only [exec, execConfigure, hs, if_true, arrives]
  case profileWrite n bs =>
    cases hc
    have hs : n < 2 ^ 8 ∧ bs.length = 23 := by simpa [Instr.wellFormed] using hw
    simp only [exec, execProfileWrite, hs, nextIf, decide_true, if_true, arrives]
  case unknownCommand k =>
    cases hc
    have hs : commandBytes.contains k = false := by simpa [Instr.wellFormed] using hw
    simp only [exec, execUnknownCommand, hs, Bool.false_eq_true, if_false, arrives]
  all_goals first
    | (cases hc; done)
    | (cases hc
       simp only [exec, execAmendNewCode, execAmendExtend, execAmendNewLoad, execCancel, execLoad, execClear, execOpenOrder,
         execLockout, execRestore, execQuery, execScan, execStatus, execProfileRead, hw, nextIf, if_true, arrives]
       try rfl)

/-- A command that leaves the link alone, at rest: its state with the link answered. -/
theorem State.joined_answer (s : State) (c : Command) (h : (carryOut (s.joined c) c).state.link = (s.joined c).link) :
    (s.joined c).answer c = { (carryOut (s.joined c) c).state with
      link := s.answeredLink c (carryOut (s.joined c) c).result (carryOut (s.joined c) c).data } := by
  simp only [State.answer, State.setReply, h]
  rfl

/-- A refusal, at rest (R189). -/
theorem State.joined_refused (s : State) (c : Command) (r : Result) (data : List Byte)
    (h : carryOut (s.joined c) c = refuse (s.joined c) r data) : (s.joined c).answer c = s.served c r data := by
  simp only [State.answer, h]
  rfl

end Sys2Proof.Machine
end

