-- ==== Sys2Proof/Laws/PerInstr.lean ====
section
/-! SUPPORT. The family CommandBytes, one lemma for each command: the bytes of a server command's frame spell that command, and fit a frame
(R186, R189, 11.8). A command that no server frame carries has no bytes. -/

namespace Sys2Proof.Laws.CommandBytes

-- One proof at a time: the proofs here together ask for more threads than the memory limit leaves room for.
set_option Elab.async false

open Sys2Proof.Machine

/-- The statement of the family, of one command. -/
def Statement (i : Instr) : Prop :=
  ∀ c, i.wellFormed = true → Machine.Instr.serverCommand i = some c →
    parseCommand (Machine.Command.bytes c) = c ∧ 1 ≤ (Machine.Command.bytes c).length ∧ (Machine.Command.bytes c).length ≤ 59

/-- The bytes of one field and a byte after it. -/
theorem field_byte (k n m : Nat) (rest : List Byte) (hm : m < 256) :
    fieldOf (bytesOf k n ++ byteOf m :: rest) k 1 = m := by
  have := fieldOf_past (bytesOf k n) (byteOf m :: rest) k 0 1 (length_bytesOf k n)
  rw [fieldOf_byte m rest hm] at this
  exact this

theorem whole (k n : Nat) (h : n < 256 ^ k) : fieldOf (bytesOf k n) 0 k = n := by
  have := fieldOf_here k n [] h
  rwa [List.append_nil] at this

theorem byte_then (a : Nat) (k n : Nat) (h : n < 256 ^ k) : fieldOf (byteOf a :: bytesOf k n) 1 k = n := by
  have := fieldOf_past [byteOf a] (bytesOf k n) 1 0 k rfl
  rw [whole k n h] at this
  exact this

theorem amend (r f v : Nat) (hr : r < 2 ^ 32) (hf : f < 256) (hv : v < 2 ^ 24) :
    parseCommand (Command.bytes (.amend r f v)) = .amend r f v ∧ 1 ≤ (Command.bytes (.amend r f v)).length ∧
      (Command.bytes (.amend r f v)).length ≤ 59 := by
  have h4 := length_bytesOf 4 r
  have h3 := length_bytesOf 3 v
  refine ⟨?_, by simp [Command.bytes], by simp [Command.bytes, h4, h3]⟩
  have e1 : fieldOf (bytesOf 4 r ++ byteOf f :: bytesOf 3 v) 0 4 = r := fieldOf_here 4 r _ hr
  have e2 : fieldOf (bytesOf 4 r ++ byteOf f :: bytesOf 3 v) 4 1 = f := field_byte 4 r f _ hf
  have e3 : fieldOf (bytesOf 4 r ++ byteOf f :: bytesOf 3 v) 5 3 = v := by
    have := fieldOf_past (bytesOf 4 r) (byteOf f :: bytesOf 3 v) 4 1 3 h4
    rwa [byte_then f 3 v hv] at this
  simp [Command.bytes, parseCommand, e1, e2, e3, h4, h3]

theorem key (k v : Nat) (hk : k < 256) (hv : v < 2 ^ 32) :
    fieldOf (byteOf k :: bytesOf 4 v) 0 1 = k ∧ fieldOf (byteOf k :: bytesOf 4 v) 1 4 = v :=
  ⟨fieldOf_byte k _ hk, byte_then k 4 v hv⟩

theorem book (r c : Nat) (ss : List Nat) (o : Nat) : Statement (.book r c ss o) := by
  intro k hw hk
  cases hk
  simp only [Instr.wellFormed, Bool.and_eq_true, decide_eq_true_eq, List.all_eq_true] at hw
  obtain ⟨⟨⟨⟨hr, hc⟩, hl⟩, hs⟩, ho⟩ := hw
  have h4 := length_bytesOf 4 r
  have h3 := length_bytesOf 3 c
  have h2 := length_bytesOf 2 o
  refine ⟨?_, by simp [Command.bytes], by simp [Command.bytes, h4, h3, h2]; omega⟩
  have hb : (bytesOf 4 r ++ bytesOf 3 c).length = 7 := by simp [h4, h3]
  have e1 : fieldOf (bytesOf 4 r ++ (bytesOf 3 c ++ byteOf ss.length :: (ss.map byteOf ++ bytesOf 2 o))) 0 4 = r :=
    fieldOf_here 4 r _ hr
  have e2 : fieldOf (bytesOf 4 r ++ (bytesOf 3 c ++ byteOf ss.length :: (ss.map byteOf ++ bytesOf 2 o))) 4 3 = c := by
    have := fieldOf_past (bytesOf 4 r) (bytesOf 3 c ++ byteOf ss.length :: (ss.map byteOf ++ bytesOf 2 o)) 4 0 3 h4
    rwa [fieldOf_here 3 c _ hc] at this
  have e3 : fieldOf (bytesOf 4 r ++ (bytesOf 3 c ++ byteOf ss.length :: (ss.map byteOf ++ bytesOf 2 o))) 7 1 = ss.length := by
    have := fieldOf_past (bytesOf 4 r ++ bytesOf 3 c) (byteOf ss.length :: (ss.map byteOf ++ bytesOf 2 o)) 7 0 1 hb
    rw [fieldOf_byte _ _ (by omega), List.append_assoc] at this
    exact this
  have e4 : fieldOf (bytesOf 4 r ++ (bytesOf 3 c ++ byteOf ss.length :: (ss.map byteOf ++ bytesOf 2 o))) (8 + ss.length) 2 = o := by
    have := fieldOf_past (bytesOf 4 r ++ bytesOf 3 c ++ byteOf ss.length :: ss.map byteOf) (bytesOf 2 o) (8 + ss.length) 0 2
      (by simp [h4, h3]; omega)
    rw [whole 2 o ho] at this
    simpa using this
  have e5 : ((bytesOf 4 r ++ (bytesOf 3 c ++ byteOf ss.length :: (ss.map byteOf ++ bytesOf 2 o))).drop 8).take ss.length =
      ss.map byteOf := by
    have e : bytesOf 4 r ++ (bytesOf 3 c ++ byteOf ss.length :: (ss.map byteOf ++ bytesOf 2 o)) =
        (bytesOf 4 r ++ bytesOf 3 c ++ [byteOf ss.length]) ++ (ss.map byteOf ++ bytesOf 2 o) := by simp
    have hl8 : (bytesOf 4 r ++ bytesOf 3 c ++ [byteOf ss.length]).length = 8 := by simp [h4, h3]
    rw [e, ← hl8, List.drop_left, List.take_append_of_le_length (by simp)]
    exact List.take_of_length_le (by simp)
  have e6 : (ss.map byteOf).map BitVec.toNat = ss := by
    rw [List.map_map]
    conv_rhs => rw [← List.map_id ss]
    exact List.map_congr_left fun x hx => toNat_byteOf x (by simpa using hs x hx)
  have e7 : List.map (BitVec.toNat ∘ byteOf) ss = ss := by rw [← List.map_map]; exact e6
  simp [Command.bytes, parseCommand, e1, e2, e3, e4, e5, e7, h4, h3, h2]
  omega

theorem amendNewCode (r v : Nat) : Statement (.amendNewCode r v) := by
  intro k hw hk
  cases hk
  simp only [Instr.wellFormed, Bool.and_eq_true, decide_eq_true_eq] at hw
  exact amend r 0 v hw.1 (by decide) hw.2

theorem amendExtend (r v : Nat) : Statement (.amendExtend r v) := by
  intro k hw hk
  cases hk
  simp only [Instr.wellFormed, Bool.and_eq_true, decide_eq_true_eq] at hw
  exact amend r 1 v hw.1 (by decide) hw.2

theorem amendNewLoad (r v : Nat) : Statement (.amendNewLoad r v) := by
  intro k hw hk
  cases hk
  simp only [Instr.wellFormed, Bool.and_eq_true, decide_eq_true_eq] at hw
  exact amend r 2 v hw.1 (by decide) hw.2

theorem cancel (r : Nat) : Statement (.cancel r) := by
  intro k hw hk
  cases hk
  simp only [Instr.wellFormed, decide_eq_true_eq] at hw
  simp [Command.bytes, parseCommand, whole 4 r hw, length_bytesOf]

theorem load (r b f : Nat) : Statement (.load r b f) := by
  intro k hw hk
  cases hk
  simp only [Instr.wellFormed, Bool.and_eq_true, decide_eq_true_eq] at hw
  obtain ⟨⟨hr, hb⟩, hf⟩ := hw
  have h4 := length_bytesOf 4 r
  have e1 : fieldOf (bytesOf 4 r ++ [byteOf b, byteOf f]) 0 4 = r := fieldOf_here 4 r _ hr
  have e2 : fieldOf (bytesOf 4 r ++ [byteOf b, byteOf f]) 4 1 = b := field_byte 4 r b _ hb
  have e3 : fieldOf (bytesOf 4 r ++ [byteOf b, byteOf f]) 5 1 = f := by
    have := fieldOf_past (bytesOf 4 r ++ [byteOf b]) [byteOf f] 5 0 1 (by simp [h4])
    rw [fieldOf_byte f [] hf] at this
    simpa using this
  simp [Command.bytes, parseCommand, e1, e2, e3, h4]

theorem clear (b : Nat) : Statement (.clear b) := by
  intro k hw hk
  cases hk
  simp only [Instr.wellFormed, decide_eq_true_eq] at hw
  simp [Command.bytes, parseCommand, fieldOf_byte b [] hw]

theorem openOrder (k v : Nat) : Statement (.openOrder k v) := by
  intro c hw hc
  cases hc
  simp only [Instr.wellFormed, Bool.and_eq_true, decide_eq_true_eq] at hw
  have e := key k v hw.1 hw.2
  simp [Command.bytes, parseCommand, e.1, e.2, length_bytesOf]

theorem lockout (b : Nat) : Statement (.lockout b) := by
  intro k hw hk
  cases hk
  simp only [Instr.wellFormed, decide_eq_true_eq] at hw
  simp [Command.bytes, parseCommand, fieldOf_byte b [] hw]

theorem restore (b : Nat) : Statement (.restore b) := by
  intro k hw hk
  cases hk
  simp only [Instr.wellFormed, decide_eq_true_eq] at hw
  simp [Command.bytes, parseCommand, fieldOf_byte b [] hw]

theorem query (k v : Nat) : Statement (.query k v) := by
  intro c hw hc
  cases hc
  simp only [Instr.wellFormed, Bool.and_eq_true, decide_eq_true_eq] at hw
  have e := key k v hw.1 hw.2
  simp [Command.bytes, parseCommand, e.1, e.2, length_bytesOf]

theorem scan (o c : Nat) : Statement (.scan o c) := by
  intro k hw hk
  cases hk
  simp only [Instr.wellFormed, Bool.and_eq_true, decide_eq_true_eq] at hw
  have e1 : fieldOf (byteOf o :: bytesOf 3 c) 0 1 = o := fieldOf_byte o _ hw.1
  simp [Command.bytes, parseCommand, e1, byte_then o 3 c hw.2, length_bytesOf]

theorem status (o : Nat) : Statement (.status o) := by
  intro k hw hk
  cases hk
  simp only [Instr.wellFormed, decide_eq_true_eq] at hw
  simp [Command.bytes, parseCommand, fieldOf_byte o [] hw]

theorem configure (bs : List Byte) : Statement (.configure bs) := by
  intro k hw hk
  cases hk
  simp only [Instr.wellFormed, decide_eq_true_eq] at hw
  simp [Command.bytes, parseCommand, hw]

theorem profileWrite (n : Nat) (bs : List Byte) : Statement (.profileWrite n bs) := by
  intro k hw hk
  cases hk
  simp only [Instr.wellFormed, Bool.and_eq_true, decide_eq_true_eq] at hw
  have e1 : fieldOf (byteOf n :: bs) 0 1 = n := fieldOf_byte n _ hw.1
  simp [Command.bytes, parseCommand, e1, hw.2]

theorem profileRead (n : Nat) : Statement (.profileRead n) := by
  intro k hw hk
  cases hk
  simp only [Instr.wellFormed, decide_eq_true_eq] at hw
  simp [Command.bytes, parseCommand, fieldOf_byte n [] hw]

theorem restart (b : Bool) (o : Nat) : Statement (.restart b o) := by
  intro k hw hk
  cases b <;> cases hk
  simp only [Instr.wellFormed, decide_eq_true_eq] at hw
  simp [Command.bytes, parseCommand, fieldOf_byte o [] hw]

theorem unknownCommand (c : Byte) : Statement (.unknownCommand c) := by
  intro k hw hk
  cases hk
  simp [Instr.wellFormed, commandBytes] at hw
  simp [Command.bytes, parseCommand, hw]

/-! ### Commands that are no server frame -/

theorem linkAddressCharacter (address : Byte) (t : Nat) : Statement (.linkAddressCharacter address t) := fun _ _ h => nomatch h
theorem linkDataCharacter (data : Byte) (stopBit : Bool) (t : Nat) : Statement (.linkDataCharacter data stopBit t) := fun _ _ h => nomatch h
theorem frameEnd (data : Byte) (stopBit : Bool) (t : Nat) : Statement (.frameEnd data stopBit t) := fun _ _ h => nomatch h
theorem frameGapTimeout (t : Nat) : Statement (.frameGapTimeout t) := fun _ _ h => nomatch h
theorem replySend (t : Nat) : Statement (.replySend t) := fun _ _ h => nomatch h
theorem replyDone (t : Nat) : Statement (.replyDone t) := fun _ _ h => nomatch h
theorem powerOn : Statement .powerOn := fun _ _ h => nomatch h
theorem resetnLow (moment : StopMoment) : Statement (.resetnLow moment) := fun _ _ h => nomatch h
theorem resetnRelease : Statement .resetnRelease := fun _ _ h => nomatch h
theorem kioskCharacter (line : KioskLine) (data : Byte) (stopBit : Bool) : Statement (.kioskCharacter line data stopBit) := fun _ _ h => nomatch h
theorem kioskEntry (line : KioskLine) : Statement (.kioskEntry line) := fun _ _ h => nomatch h
theorem kioskFrameTimeout (line : KioskLine) : Statement (.kioskFrameTimeout line) := fun _ _ h => nomatch h
theorem kioskReplyDone (line : KioskLine) : Statement (.kioskReplyDone line) := fun _ _ h => nomatch h
theorem doorSwitchChange (door : Nat) (closed : Bool) (t : Nat) : Statement (.doorSwitchChange door closed t) := fun _ _ h => nomatch h
theorem doorOpened (door t : Nat) : Statement (.doorOpened door t) := fun _ _ h => nomatch h
theorem doorClosed (door t : Nat) : Statement (.doorClosed door t) := fun _ _ h => nomatch h
theorem doorAlarmExpiry (door : Nat) : Statement (.doorAlarmExpiry door) := fun _ _ h => nomatch h
theorem latchGrant (t : Nat) : Statement (.latchGrant t) := fun _ _ h => nomatch h
theorem unlockPulseEnd (channel t : Nat) : Statement (.unlockPulseEnd channel t) := fun _ _ h => nomatch h
theorem lockPulseEnd (channel t : Nat) : Statement (.lockPulseEnd channel t) := fun _ _ h => nomatch h
theorem stallTimerExpiry (t : Nat) : Statement (.stallTimerExpiry t) := fun _ _ h => nomatch h
theorem passPeriodExpiry (t : Nat) : Statement (.passPeriodExpiry t) := fun _ _ h => nomatch h
theorem settlingConversionEnd (t : Nat) : Statement (.settlingConversionEnd t) := fun _ _ h => nomatch h
theorem keptConversionEnd (code t : Nat) : Statement (.keptConversionEnd code t) := fun _ _ h => nomatch h
theorem zcCrossing (t : Nat) : Statement (.zcCrossing t) := fun _ _ h => nomatch h
theorem absenceWatchExpiry (t : Nat) : Statement (.absenceWatchExpiry t) := fun _ _ h => nomatch h
theorem preheatStartExpiry (bay : Nat) : Statement (.preheatStartExpiry bay) := fun _ _ h => nomatch h
theorem lapseExpiry (bay : Nat) : Statement (.lapseExpiry bay) := fun _ _ h => nomatch h
theorem loadWindowExpiry (bay : Nat) : Statement (.loadWindowExpiry bay) := fun _ _ h => nomatch h
theorem deadlineExpiry (bay : Nat) : Statement (.deadlineExpiry bay) := fun _ _ h => nomatch h
theorem releaseTimerExpiry (bay : Nat) : Statement (.releaseTimerExpiry bay) := fun _ _ h => nomatch h
theorem clearingWindowExpiry (bay : Nat) : Statement (.clearingWindowExpiry bay) := fun _ _ h => nomatch h
theorem storeWriteComplete (t : Nat) : Statement (.storeWriteComplete t) := fun _ _ h => nomatch h
theorem bankTimeTick : Statement .bankTimeTick := fun _ _ h => nomatch h
theorem lossOfVdd (moment : StopMoment) : Statement (.lossOfVdd moment) := fun _ _ h => nomatch h
theorem lossOfVret : Statement .lossOfVret := fun _ _ h => nomatch h

end Sys2Proof.Laws.CommandBytes
end

