-- ==== Sys2Proof/Tests/Slice0.lean ====
section
/-! SUPPORT. Own tests. Part 1: ill-formed terms, one for each check of WellFormed, which turns them away; exec then
changes nothing (log 7), or answers the length (R189). Part 2: at most two small
tests a command, each one step, with values worked out in the examples of spec/ (named in the comments) or by hand from
its rules. Part 3: for every statement with hypotheses, a state and operands that meet them. -/

namespace Sys2Proof.Tests

open Sys2Proof Sys2Proof.Machine

set_option Elab.async false

/-! ### Helpers -/

/-- What a function reads of the next state; nothing where there is none. -/
def look {α : Type} (o : Host.Outcome State Fault Refusal) (f : State → α) : Option α :=
  match o with
  | .next t => some (f t)
  | .fault _ | .refused _ => none

/-- The step after a command, with no command waiting: a start in progress ends (log 15). -/
def thenIdle (o : Host.Outcome State Fault Refusal) : Host.Outcome State Fault Refusal :=
  match o with
  | .next t => step { t with pending := [] }
  | .fault f => .fault f
  | .refused r => .refused r

/-- The result and data of the reply that waits. -/
def replied (s : State) : Option (Nat × List Nat) := s.link.reply.map fun r => (r.result.code, r.data.map BitVec.toNat)

/-- A profile record with its check value: S, F, C, margin, gain, mode, K, skip, lead, max hold, allowance, limits, penalty. -/
def profileRecord (s f c : Int) (margin gain mode k skip lead hold allowance cold hot penalty : Nat) : List Byte :=
  withCheck ([0x5A] ++ signedBytesOf 2 s ++ signedBytesOf 2 f ++ signedBytesOf 2 c ++
    [margin, gain, mode, k, skip, lead, hold, allowance].map byteOf ++ bytesOf 3 cold ++ bytesOf 3 hot ++ bytesOf 2 penalty)

/-- The profiles of the examples 3.10, 4.7 and 6.11: stew in slot 2, soup in 5, rice in 9, and slot 7. -/
def stew : List Byte := profileRecord 700 650 850 30 8 0 1 0 15 90 20 6000 0 0
def soup : List Byte := profileRecord 650 600 850 20 8 3 2 0 25 60 20 6000 0 0
def rice : List Byte := profileRecord 620 600 850 20 8 0 1 0 5 60 20 6000 0 0
def roast : List Byte := profileRecord 720 650 800 20 8 0 1 0 10 30 20 20000 9000 40

/-- After a start, with the relock sweep done, at a bank time, with the profiles stored. -/
def bankAt (now : Nat) : State :=
  { State.reset with
    clock := 1000000, bankTime := now
    latch := { LatchArbiter.start with records := Vector.replicate 96 { position := .locked, openAfterFailedLock := false } }
    store := { State.reset.store with
      slots := (((State.reset.store.slots.setIfInBounds 2 stew).setIfInBounds 5 soup).setIfInBounds 9 rice).setIfInBounds 7 roast } }

/-- Bay records of order 91207, code 508863. -/
def bookedBay (slot : Nat) : Bay :=
  { Bay.empty with
    state := .booked, entry := some 508863, profile := some slot, expectedLoad := some 3014000, preheatStart := some 3005000
    lapseAt := some 3023000 }

def readyBay (slot : Nat) : Bay :=
  { bookedBay slot with
    state := .ready, preheatStart := none, lastTemp := some 690, lastRound := some 2999990, demand := 4 }

def preheatingBay (slot : Nat) : Bay := { readyBay slot with state := .preheating, lastTemp := some 500, demand := 16 }

def loadingBay (slot : Nat) (opened : Bool) : Bay :=
  { readyBay slot with state := .loading, demand := 0, rearOpened := opened }

def heldBay (slot : Nat) : Bay :=
  { Bay.empty with
    state := .holding, entry := some 508863, profile := some slot, loadTime := some 2990000, deadline := some 3052420
    extUsed := some 0, lastTemp := some 690, lastRound := some 2999990, demand := 5 }

def releasingBay (slot : Nat) : Bay := { heldBay slot with state := .releasing }

def collectingBay (slot : Nat) : Bay := { heldBay slot with state := .collecting, demand := 0 }

def withdrawnBay (slot : Nat) : Bay :=
  { heldBay slot with state := .withdrawn, withdrawReason := some .cold, demand := 0, qCold := 6600 }

def outBay : Bay := { Bay.empty with state := .outOfService, oosReason := some .lockout }

/-- Several bay records set. -/
def setBays (s : State) (l : List (Nat × Bay)) : State := l.foldl (fun s p => s.setBay p.1 p.2) s

/-- The one entry of order 91207 with these bays. -/
def withOrder (s : State) (bays : List Nat) : State :=
  { s with directory := { entries := [{ code := 508863, orderRef := 91207, bays := bays, created := 2990000 }], generation := 200 } }

/-- A door's latch record and door state. -/
def withDoor (s : State) (d : Nat) (p : LatchPosition) (closed : Bool) : State :=
  (s.setLatchPosition d p).setDoor d { s.door d with closed := closed }

/-- A switch level of a door that has stood for 40 ms at the present moment. -/
def withCandidate (s : State) (d : Nat) (closed : Bool) : State :=
  s.setDoor d { s.door d with closed := !closed, candidate := some { closed := closed, since := 960000 } }

/-- The links of the reset state are at rest whatever else has changed. -/
theorem atRest {s : State} (hp : s.pins = State.reset.pins) (hl : s.link = State.reset.link) (hs : s.starting = none := by rfl) :
    s.AtRest where
  running := by unfold State.running State.powered; rw [hp, hs]; rfl
  silent := by rw [hl]; rfl
  empty := by rw [hl]; rfl
  asleep := by rw [hl]; rfl
  addressed := by rw [hl]; decide

/-! ### Part 1. Ill-formed terms -/

/-- A term that is not well-formed and changes nothing. -/
def turnedAway (i : Instr) : Bool :=
  !i.wellFormed && look (exec i State.reset) (fun t => decide (t = State.reset)) = some true

theorem test_illFormed_server_commands :
    [Instr.book (2 ^ 32) 1 [2] 0, .book 1 (2 ^ 24) [2] 0, .book 1 1 [256] 0,
      .book 1 1 [2] (2 ^ 16), .amendNewCode (2 ^ 32) 1, .amendNewCode 1 (2 ^ 24), .amendExtend (2 ^ 32) 1, .amendExtend 1 (2 ^ 24),
      .amendNewLoad (2 ^ 32) 1, .amendNewLoad 1 (2 ^ 24), .cancel (2 ^ 32), .load (2 ^ 32) 1 0, .load 1 256 0, .load 1 1 256,
      .clear 256, .openOrder 256 1, .openOrder 0 (2 ^ 32), .lockout 256, .restore 256, .query 256 1, .query 0 (2 ^ 32),
      .scan 256 1, .scan 0 (2 ^ 24), .status 256, .profileWrite 256 (List.replicate 23 0),
      .profileRead 256, .restart false 256].all turnedAway = true := by
  decide +kernel

theorem test_illFormed_events :
    [Instr.doorSwitchChange 96 true 0, .doorOpened 96 0, .doorClosed 96 0, .doorAlarmExpiry 96, .unlockPulseEnd 4 0,
      .lockPulseEnd 4 0, .keptConversionEnd 1024 0, .preheatStartExpiry 48, .lapseExpiry 48, .loadWindowExpiry 48,
      .deadlineExpiry 48, .releaseTimerExpiry 48, .clearingWindowExpiry 48].all turnedAway = true := by
  decide +kernel

/-- R187, R189: a frame whose length does not fit its command is answered BAD_LENGTH, one longer than 59 TOO_LONG. -/
theorem test_illFormed_lengths :
    ([Instr.configure (List.replicate 36 0), .profileWrite 1 (List.replicate 24 0), .unknownCommand 0x10,
      .book 1 1 (List.replicate 49 2) 0, .configure (List.replicate 59 0)].map fun i => (i.wellFormed, look (exec i State.reset) replied)) =
      [(false, some (some (2, []))), (false, some (some (2, []))), (false, some (some (2, []))), (false, some (some (4, []))),
        (false, some (some (4, [])))] := by
  decide +kernel

/-- No row gives bits, so no word spells a command (log 32). -/
theorem test_no_word_spells_a_command : decodeTableWord 8 0x10 = none := rfl

/-! ### Part 2. Commands, one step each -/

/-- The published check value of this CRC (polynomial 1021h, initial FFFFh, no inversion) over the characters "123456789". -/
theorem test_crc_check_value : crcOf [0x31, 0x32, 0x33, 0x34, 0x35, 0x36, 0x37, 0x38, 0x39] = 0x29B1 := by decide +kernel

/-- R198: the factory record holds the defaults and passes its check. -/
theorem test_factory_configuration :
    configOf factoryConfiguration = BankConfig.defaults ∧ checkAgrees 37 factoryConfiguration = true := by decide +kernel

/-- 3.10: the bank before the BOOK: the candidates are those of the table. -/
def shelf : State :=
  setBays (bankAt 3000000) ([0, 1, 2, 3, 4, 6, 10, 11, 12, 13, 14, 15, 18, 22].map fun b => (b, { outBay with oosReason := none }))

/-- 3.10: bays 24 to 27 are chosen, and bay 26 preheats at once. -/
theorem test_book_party_of_four :
    look (exec (.book 91207 508863 [2, 2, 5, 9] 1200) shelf) replied =
      some (some (0, [4, 24, 2, 1, 25, 2, 1, 26, 5, 2, 27, 9, 1])) := by decide +kernel

/-- 3.10: the times bound to bays 24 and 26, and the entry. -/
theorem test_book_binds_times :
    look (exec (.book 91207 508863 [2, 2, 5, 9] 1200) shelf)
      (fun t => ([(t.bay 24).expectedLoad, (t.bay 24).preheatStart, (t.bay 24).lapseAt, (t.bay 26).preheatStart],
        t.directory.entries.map fun e => (e.code, e.bays))) =
      some ([some 3012000, some 3003000, some 3021000, none], [(508863, [24, 25, 26, 27])]) := by decide +kernel

/-- 2.9: NEW_CODE moves the entry from first place to last, and its bays follow. -/
theorem test_amendNewCode_moves_entry :
    look (exec (.amendNewCode 88012 777430) { bankAt 1209200 with directory := { generation := 201, entries :=
        [⟨33810, 88012, [4, 5], 1204300⟩, ⟨240771, 88019, [17], 1206950⟩, ⟨402118, 88040, [9], 1209115⟩,
          ⟨615002, 88031, [36, 37, 38], 1207420⟩] } })
      (fun t => (t.directory.entries.map Entry.code, t.directory.generation, (t.bay 4).entry, (t.bay 17).entry)) =
      some ([240771, 402118, 615002, 777430], 202, some 777430, none) := by decide +kernel

/-- 6.11: at 5,012,000 EXTEND 15 grants 5. -/
theorem test_amendExtend_second :
    look (exec (.amendExtend 91207 15) (withOrder ((bankAt 5012000).setBay 18 { heldBay 7 with
        loadTime := some 5000000, deadline := some 5027000, extUsed := some 15 }) [18]))
      (fun t => (replied t, (t.bay 18).deadline)) = some (some (0, [1, 18, 5, 5, 20, 7, 8]), some 5030000) := by decide +kernel

/-- 3.10: at 3,001,500 NEW_LOAD 1,800 re-times a booked bay and a preheating one. -/
theorem test_amendNewLoad_retimes :
    look (exec (.amendNewLoad 91207 1800) (withOrder (setBays (bankAt 3001500) [(24, bookedBay 2), (26, preheatingBay 5)]) [24, 26]))
      (fun t => (replied t, (t.bay 24).preheatStart, (t.bay 26).lapseAt, (t.bay 26).preheatStart)) =
      some (some (0, [2, 24, 1, 1, 26, 2, 1]), some 3010500, some 3028500, none) := by decide +kernel

/-- 10.6: the bank before the CANCEL of order 91207 (77310 there), with its module draining. -/
def draining : State :=
  withDoor (withOrder (setBays (bankAt 6400000)
    [(40, { heldBay 2 with draining := true, qCold := 900 }),
     (41, { loadingBay 2 true with draining := true, timer := some 6400100 }),
     (42, { readyBay 2 with draining := true }), (43, outBay)]) [40, 41, 42]) 83 .unlocked false

/-- 10.6: the reply and the bays after the CANCEL. -/
theorem test_cancel_in_draining_module :
    look (exec (.cancel 91207) draining)
      (fun t => (replied t, (t.bay 41).timer, (t.bay 42).oosReason, t.directory.entries)) =
      some (some (0, [3, 40, 8, 41, 8, 42, 9]), some 6401200, some .lockout, []) := by decide +kernel

/-- 10.6: the front of the order RELEASING refuses the CANCEL (R174). -/
theorem test_cancel_refused_while_releasing :
    look (exec (.cancel 91207) (withOrder ((bankAt 6400000).setBay 40 (releasingBay 2)) [40])) replied = some (some (10, [40, 6])) := by
  decide +kernel

/-- 4.7: LOAD of a READY bay: LOADING, with a LOAD UNLOCK pending for door 51. -/
theorem test_load_ready_bay :
    look (exec (.load 91207 25 0) (withOrder ((bankAt 3015000).setBay 25 (readyBay 2)) [25]))
      (fun t => (replied t, (t.bay 25).state, t.latch.queue.map fun r => (r.door, r.cls))) =
      some (some (0, [25, 3]), .loading, [(51, .load)]) := by decide +kernel

/-- 4.7: at 3,016,000 a PREHEATING bay with force clear is refused. -/
theorem test_load_preheating_refused :
    look (exec (.load 91207 26 0) (withOrder ((bankAt 3016000).setBay 26 (preheatingBay 5)) [26])) replied =
      some (some (9, [2])) := by decide +kernel

/-- 10.6: CLEAR of bay 40 waits for its pulse, so remaining is absent. -/
theorem test_clear_waits_for_pulse :
    look (exec (.clear 40) ((bankAt 6401000).setBay 40 (withdrawnBay 2)))
      (fun t => (replied t, (t.bay 40).clearing, t.latch.queue.map fun r => (r.door, r.cls))) =
      some (some (0, [40, 8, 0xFF, 0xFF]), true, [(81, .service)]) := by decide +kernel

/-- R159: OPEN by code releases a HOLDING bay and lists the order's bays. -/
theorem test_open_releases :
    look (exec (.openOrder 0 508863) (withOrder (setBays (bankAt 3030000) [(25, heldBay 2), (26, withdrawnBay 5)]) [25, 26]))
      (fun t => (replied t, t.latch.queue.map LatchRequest.door)) = some (some (0, [0, 2, 25, 6, 26, 8]), [50]) := by decide +kernel

/-- 01: LOCKOUT naming bay 22 of module 5. -/
theorem test_lockout_drains_module :
    look (exec (.lockout 22) (setBays (bankAt 3000000) [(21, heldBay 2), (22, bookedBay 2), (23, bookedBay 2)]))
      (fun t => (replied t, t.lockedOut.getD 5 false, (t.bay 23).draining)) =
      some (some (0, [5, 9, 1, 5, 0xFF, 1, 0xFF, 1, 0xFF]), true, true) := by decide +kernel

/-- R14: RESTORE returns a bay to VACANT. -/
theorem test_restore_returns_bay :
    look (exec (.restore 23) ((bankAt 3000000).setBay 20 { outBay with faultStreak := 3, sensorFault := true }))
      (fun t => (replied t, (t.bay 20).faultStreak)) = some (some (0, [5, 0, 0xFF, 0, 0xFF, 0, 0xFF, 0, 0xFF]), 0) := by decide +kernel

/-- 2.9: QUERY by order: bay 38 with q_cold 1,800 of 6,000 reports 70, and 4,215 ticks ahead 421 s. -/
theorem test_query_held_bay :
    look (exec (.query 1 91207) (withOrder ((bankAt 3000000).setBay 38 { heldBay 2 with
        qCold := 1800, lastTemp := some 640, deadline := some 3004215 }) [38])) replied =
      some (some (0, [0, 200, 7, 195, 191, 0, 1, 100, 71, 0, 45, 159, 176, 1, 38, 5, 0xFF, 2, 2, 128, 70, 1, 165, 0xFF, 0xFF])) := by
  decide +kernel

/-- R37: SCAN from the beginning. -/
theorem test_scan_page :
    look (exec (.scan 1 0) (withOrder (bankAt 3000000) [38])) replied =
      some (some (0, [0, 200, 1, 7, 195, 191, 0, 1, 100, 71, 1, 0])) := by decide +kernel

/-- R18, R194: the first STATUS after a cold start reports COLD_START and lowers ATTN. -/
theorem test_status_cold_start :
    look (exec (.status 0) State.reset) (fun t => (replied t, t.attn)) =
      some (some (0, [1, 0, 0, 0, 0, 0, 0, 0, 0, 0, 0, 0, 0, 10, 0, 0]), false) := by decide +kernel

/-- 12.7: B 1 is clamped to 2 and the pulse length 200 to 150: count 2, offsets 0 and 14. -/
theorem test_configure_clamps :
    look (exec (.configure ((1 : Byte) :: 3 :: (factoryConfiguration.drop 2).take 12 ++ 200 :: (factoryConfiguration.drop 15).take 22))
        State.reset)
      (fun t => (replied t, t.store.write.map fun w => (w.contents.take 2, w.contents.getD 14 0))) =
      some (some (0, [2, 0, 14]), some ([2, 3], 150)) := by decide +kernel

/-- 12.7: S 700, F 650, C 820 and K 6: K is clamped to 4, count 1, offset 10. -/
theorem test_profileWrite_clamps :
    look (exec (.profileWrite 4 ((profileRecord 700 650 820 30 8 0 6 0 15 90 20 6000 0 0).take 23)) State.reset) replied =
      some (some (0, [4, 1, 10])) := by decide +kernel

/-- 12.7: S 650, F 680: BAD_VALUE. -/
theorem test_profileWrite_unordered :
    look (exec (.profileWrite 4 ((profileRecord 650 680 800 30 8 0 1 0 15 90 20 6000 0 0).take 23)) State.reset) replied =
      some (some (3, [])) := by decide +kernel

/-- R201: PROFILE_READ of an EMPTY slot not in use. -/
theorem test_profileRead_empty :
    look (exec (.profileRead 4) State.reset) (fun t => (replied t).map fun r => (r.1, r.2.take 2, r.2.length, r.2.getLastD 9)) =
      some (some (0, [4, 1], 28, 0)) := by decide +kernel

/-- R192: RESTART is answered before it starts the part; R191: broadcast, it starts the part at once. -/
theorem test_restart_answered :
    look (exec (.restart false 1) (bankAt 5)) (fun t => (replied t, t.bankTime)) = some (some (0, []), 5) := by decide +kernel

theorem test_restart_broadcast :
    look (exec (.restart true 1) (bankAt 5)) (fun t => (t.starting, t.running, t.bankTime)) = some (some true, false, 5) ∧
    look (thenIdle (exec (.restart true 1) (bankAt 5))) (fun t => (t.link.reply, t.running, t.bankTime)) = some (none, true, 0) := by
  decide +kernel

/-- R189: UNKNOWN_COMMAND. -/
theorem test_unknown_command : look (exec (.unknownCommand 0x77) State.reset) replied = some (some (1, [])) := by decide +kernel

/-- R185: address 0 opens a broadcast frame, another bank's address none. -/
theorem test_address_character :
    look (exec (.linkAddressCharacter 0 5) State.reset) (fun t => (t.link.receiver.phase, t.link.receiver.broadcast)) =
      some (.receiving, true) ∧
    look (exec (.linkAddressCharacter 4 5) State.reset) (fun t => t.link.receiver.phase) = some .asleep := by decide +kernel

/-- A link receiving an addressed frame, given the length it declared and the characters still expected. -/
def receiving (declared : Option Nat) (expected : Nat) : State :=
  { bankAt 5 with link := { State.reset.link with
      lastCharacter := some 1000000
      receiver := { Receiver.opened false with declared := declared, expected := expected, buffer := [2, 0x20] } } }

/-- R186: a length above 59 makes the frame one that is counted. -/
theorem test_data_character_length :
    look (exec (.linkDataCharacter 60 true 5) (receiving none 0)) (fun t => (t.link.receiver.phase, t.link.receiver.expected)) =
      some (.counting, 62) := by decide +kernel

/-- R187: a second CRC byte without its stop bit: CRC_ERROR, and nothing is queued. -/
theorem test_frame_end_corrupt :
    look (exec (.frameEnd 0 false 5) (receiving (some 2) 1)) (fun t => (t.link.crcError, t.link.crcCount, t.link.queue)) =
      some (true, 1, []) := by decide +kernel

/-- R186: 5 ms without a character abandons the frame, 4.999 ms do not. -/
theorem test_frame_gap :
    look (exec (.frameGapTimeout 1005000) (receiving (some 2) 1)) (fun t => (t.link.receiver.phase, t.link.truncatedCount)) =
      some (.asleep, 1) ∧
    look (exec (.frameGapTimeout 1004999) (receiving (some 2) 1)) (fun t => t.link.truncatedCount) = some 0 := by decide +kernel

/-- A bank with frames waiting and the first one's reply formed. -/
def replying (sending : Option Nat) (commands : List Command) : State :=
  { bankAt 5 with link := { State.reset.link with
      lastCharacter := some 1000000, sending := sending, queue := commands.map fun c => { broadcast := false, command := c }
      reply := some { command := 0x20, result := .done, data := [] } } }

/-- R184: two character times are 573 microseconds, within a microsecond. -/
theorem test_reply_send_waits :
    look (exec (.replySend 1000573) (replying none [.lockout 1])) State.lde = some true ∧
    look (exec (.replySend 1000572) (replying none [.lockout 1])) State.lde = some false := by decide +kernel

/-- A frame that lacks its second CRC byte 00h, behind `n` others. -/
def judged (broadcast : Bool) (n : Nat) : State :=
  { bankAt 5 with link := { State.reset.link with
      lastCharacter := some 1000000, queue := List.replicate n { broadcast := false, command := .lockout 1 }
      receiver := { Receiver.opened broadcast with declared := some 2, expected := 1, crc := 0, crcHigh := 0, buffer := [2, 0x20, 7, 0] } } }

/-- R188, R190: a good frame that ends with the last stop bit of a reply finds its head still in a full queue where it is taken first, and joins
the queue where it is taken after; one that ends before is not received. -/
theorem test_frame_ends_as_the_head_leaves :
    (let s := { judged false 4 with link := { (judged false 4).link with
       sending := some 1000600, reply := some { command := 0x20, result := .done, data := [] } } }
     look (exec (.frameEnd 0 true 1000600) s) (fun t => (t.link.overrun, t.link.discardedCount)) = some (true, 1) ∧
     look (exec (.frameEnd 0 true 1000599) s) (fun t => (t.link.overrun, t.lde)) = some (false, true) ∧
     look (execAll [.replyDone 1000600, .frameEnd 0 true 1000600] s) (fun t => (t.link.overrun, t.link.queue.length)) =
       some (false, 4)) := by decide +kernel

/-- R190: the second frame is carried out when the first reply has left. -/
theorem test_reply_done_serves_next :
    look (exec (.replyDone 1000600) (replying (some 1000600) [.lockout 1, .clear 48])) (fun t => (replied t, t.link.queue.length)) =
      some (some (3, []), 1) := by decide +kernel

/-- The part stopped by RESETN, or by the loss of VDD. -/
def stopped (s : State) (byReset : Bool) : State :=
  { s with pins := { s.pins with resetn := !byReset, vdd := byReset } }

/-- 01, the warm restart across a busy bank: bays 12, 13, 14 and 15. -/
def busyModule : State :=
  setBays (bankAt 3000000) [(12, { releasingBay 2 with deadline := some 3005400 }), (13, loadingBay 2 true), (14, collectingBay 2),
    (15, { withdrawnBay 2 with clearing := true, timer := some 3000100 })]

theorem test_warm_restart_resolves_bays :
    ([12, 13, 15].map fun b => ((busyModule.resolveBay b).bay b).state) = [.holding, .withdrawn, .withdrawn] ∧
    ((busyModule.resolveBay 12).bay 12).restartPenaltyPending = 600 ∧ ((busyModule.resolveBay 15).bay 15).clearing = false ∧
    (((busyModule.setDoor 28 { closed := false, candidate := none, alarm := none }).resolveBay 14).bay 14).state = .collecting ∧
    ((busyModule.resolveBay 13).notices 13).withdrawn = some .restart := by decide +kernel

/-- R206: with VDD present the release of RESETN is a start, here a cold one; without VDD it is none. -/
theorem test_resetnRelease :
    look (thenIdle (exec .resetnRelease (stopped { bankAt 7 with retentionAgrees := false } true)))
      (fun t => (t.running, t.bankTime, t.latch.queue.length))
      = some (true, 0, 96) ∧
    look (exec .resetnRelease { bankAt 7 with pins := { State.reset.pins with vdd := false, resetn := false } })
      (fun t => (t.running, t.bankTime)) = some (false, 7) := by decide +kernel

/-- R206: a matching check makes the start warm, unless a cold start is asked for. -/
theorem test_startsWarm : (bankAt 7).startsWarm false = true ∧ (bankAt 7).startsWarm true = false := by decide +kernel

/-- R20: a power-on whose retention check fails is a cold start; R151: no LOCK for the open door 28. -/
theorem test_powerOn_cold :
    look (thenIdle (exec .powerOn (stopped { busyModule with
        retentionAgrees := false, pins := { busyModule.pins with switches := busyModule.pins.switches.setIfInBounds 28 false } } false)))
      (fun t => (t.bankTime, (t.bay 12).state, t.bankNotices.coldStart, t.latch.queue.length, (t.door 28).alarm)) =
      some (0, .vacant, true, 95, some 900) := by decide +kernel

/-- R18, R205, R206: RESETN stops the part and bank time; ATTN goes on with the notice sets. -/
theorem test_resetnLow_stops :
    look (exec (.resetnLow .withinStep) (bankAt 7)) (fun t => (t.running, t.attn, t.bankTime, t.retentionAgrees)) =
      some (false, true, 7, false) := by decide +kernel

/-- R206: RESETN low during a start: the records as they were, or as the resolution wrote them. -/
theorem test_resetnLow_abandons_start :
    ([StopMoment.betweenSteps, .resolutionWritten].map fun m =>
      look (exec (.resetnLow m) { bankAt 7 with starting := some true }) fun t => (t.starting, t.bankTime, t.retentionAgrees)) =
      [some (none, 7, true), some (none, 0, true)] := by decide +kernel

/-- R170, R195: LTX is low and KATX and KBTX are at their stop level while the part is stopped. -/
theorem test_lossOfVdd_stops :
    ∃ t, exec (.lossOfVdd .betweenSteps) (bankAt 7) = .next t ∧ t.running = false ∧ t.rdy = false ∧ t.retentionAgrees = true ∧
      t.ltx = .level false ∧ t.katx = .level true ∧ t.kbtx = .level true := ⟨_, rfl, rfl, rfl, rfl, rfl, rfl, rfl⟩

/-- R205: the check no longer agrees, and the free value taken is counted. -/
theorem test_lossOfVret :
    look (exec .lossOfVret (bankAt 7)) (fun t => (t.retentionAgrees, t.freeCount)) = some (false, 1) := by decide +kernel

/-- R74, R205: one tick of bank time and of the pass timer. -/
theorem test_bankTimeTick :
    look (exec .bankTimeTick State.reset) (fun t => (t.bankTime, t.scanner.passTimer)) = some (1, 9) := by decide +kernel

/-- A KA port that is receiving, with these digits and failures. -/
def entering (s : State) (digits failures : List Nat) : State :=
  { s with ka := { KioskPort.start with phase := .receiving, digits := digits, failures := failures } }

/-- R154: E begins a frame; a seventh digit marks it malformed. -/
theorem test_kioskCharacter :
    look (exec (.kioskCharacter .ka 0x45 true) State.reset) (fun t => t.ka.phase) = some .receiving ∧
    look (exec (.kioskCharacter .ka 0x37 true) (entering State.reset [1, 2, 3, 4, 5, 6] [])) (fun t => (t.ka.digits.length, t.ka.malformed))
      = some (6, true) := by decide +kernel

/-- 9.11: at 3,030,000 KA takes E508863: the reply is O, bays 25 and 26, withdrawn count 0, and both bays are released. -/
theorem test_kioskEntry_releases :
    look (exec (.kioskEntry .ka)
        (entering (withOrder (setBays (bankAt 3030000) [(25, heldBay 2), (26, heldBay 5)]) [25, 26]) [5, 0, 8, 8, 6, 3] [3029900]))
      (fun t => (t.ka.reply.map BitVec.toNat, t.ka.failures, t.latch.queue.map LatchRequest.door)) =
      some ([0x41, 0x4F, 0x32, 0x32, 0x35, 0x32, 0x36, 0x30, 0x0D], [], [50, 52]) := by decide +kernel

/-- R156: a fifth failure within 600 ticks locks the line out for 1,200. -/
theorem test_kioskEntry_lockout :
    look (exec (.kioskEntry .ka) (entering (bankAt 1600) [1] [1000, 1001, 1002, 1003])) (fun t => (t.ka.lockout, t.ka.failures)) =
      some (some 2800, []) := by decide +kernel

theorem test_kioskFrameTimeout :
    look (exec (.kioskFrameTimeout .ka) (entering (bankAt 20) [1] [])) (fun t => (t.ka.phase, t.ka.digits)) = some (.idle, []) ∧
    look (exec (.kioskFrameTimeout .ka) (entering (bankAt 19) [1] [])) (fun t => t.ka.phase) = some .receiving := by decide +kernel

theorem test_kioskReplyDone :
    look (exec (.kioskReplyDone .kb) { bankAt 5 with kb := { KioskPort.start with phase := .replying, reply := [0x41] } })
      (fun t => (t.kb.phase, t.kb.reply)) = some (.idle, []) := by decide +kernel

/-- R135: a level that differs from the door state makes a candidate. -/
theorem test_doorSwitchChange :
    look (exec (.doorSwitchChange 95 false 5) State.reset) (fun t => (t.door 95).candidate) =
      some (some { closed := false, since := 5 }) := by decide +kernel

/-- R147 and 9.11: the front door of a HOLDING bay opened against LOCKED is forced. -/
theorem test_doorOpened_forced :
    look (exec (.doorOpened 52 1000000) (withCandidate ((bankAt 3030210).setBay 26 (heldBay 5)) 52 false))
      (fun t => ((t.bay 26).withdrawReason, (t.notices 26).doorForcedFront, (t.door 52).alarm)) =
      some (some .forced, true, some 3031110) := by decide +kernel

/-- 9.11: pulled at 3,030,206, while the LOCK pulse runs, the opening begins the collection. -/
theorem test_doorOpened_while_locking :
    look (exec (.doorOpened 52 1000000) (withCandidate (((bankAt 3030206).setBay 26 (heldBay 5)).setLatchPosition 52 .locking) 52 false))
      (fun t => (t.bay 26).state) = some .collecting := by decide +kernel

/-- 4.7: at 3,015,290 the rear close of bay 25 begins the hold, with deadline 3,069,290, and asks for a LOCK of door 51. -/
theorem test_doorClosed_begins_hold :
    look (exec (.doorClosed 51 1000000) (withCandidate (((bankAt 3015290).setBay 25 (loadingBay 2 true)).setLatchPosition 51 .unlocked) 51
        true))
      (fun t => ((t.bay 25).deadline, (t.bay 25).demand, (t.notices 25).loaded, t.latch.queue.map LatchRequest.door)) =
      some (some 3069290, 16, true, [51]) := by decide +kernel

/-- 10.6: at 6,400,350 the rear close ends the clearing of a draining bay. -/
theorem test_doorClosed_ends_clearing :
    look (exec (.doorClosed 83 1000000) (withCandidate (((bankAt 6400350).setBay 41 { withdrawnBay 2 with
        entry := none, draining := true, clearing := true, timer := some 6401200 }).setLatchPosition 83 .unlocked) 83 true))
      (fun t => ((t.bay 41).oosReason, (t.bay 41).timer, t.latch.queue.map LatchRequest.door)) =
      some (some .lockout, none, [83]) := by decide +kernel

/-- R137: the alarm raises DOOR_LEFT_OPEN. -/
theorem test_doorAlarmExpiry :
    look (exec (.doorAlarmExpiry 3) ((bankAt 900).setDoor 3 { closed := false, candidate := none, alarm := some 900 }))
      (fun t => ((t.notices 1).doorLeftOpenRear, (t.door 3).alarm)) = some (true, none) := by decide +kernel

/-- 08: LATCH_GRANT takes door 0 to channel 0 for 400 ms at a cold start. -/
theorem test_latchGrant :
    look (exec (.latchGrant 5) State.reset) (fun t => (t.latch.channels.getD 0 none, t.latchPosition 0, t.latch.queue.length)) =
      some (some { door := 0, action := .lock, startedAt := 5, length := 400000 }, .locking, 95) := by decide +kernel

/-- R141: a LOCK at the head waits while the UNLOCK pulse of its door runs, with another channel free. -/
theorem test_latchGrant_waits_for_the_door :
    look (exec (.latchGrant 5) (((bankAt 5).setChannel 1 (some { door := 51, action := .unlock, startedAt := 600000, length := 400000 }))
        |>.setLatchPosition 51 .unlocking |>.requestLock 51))
      (fun t => (t.energised, t.latch.queue.length, t.latchPosition 51)) = some (1, 1, .unlocking) := by decide +kernel

/-- A pulse on channel 1 that began at 600,000. -/
def pulsing (s : State) (d : Nat) (a : LatchAction) : State :=
  (s.setChannel 1 (some { door := d, action := a, startedAt := 600000, length := 400000 })).setLatchPosition d a.moving

/-- 4.7: the UNLOCK pulse of door 51 ends at 3,015,004 and the load window runs to 3,015,604. -/
theorem test_unlockPulseEnd :
    look (exec (.unlockPulseEnd 1 1000000) (pulsing ((bankAt 3015004).setBay 25 (loadingBay 2 false)) 51 .unlock))
      (fun t => ((t.bay 25).timer, t.latchPosition 51, t.energised)) = some (some 3015604, .unlocked, 0) := by decide +kernel

/-- R145: a LOCK pulse that ends on an open door fails. -/
theorem test_lockPulseEnd_fails :
    look (exec (.lockPulseEnd 1 1000000) (pulsing (withDoor (bankAt 5) 52 .locked false) 52 .lock))
      (fun t => (t.latchPosition 52, (t.notices 26).lockFailedFront)) = some (.unlocked, true) := by decide +kernel

/-- R149: the guard is engaged 2 s after the stall timer started. -/
theorem test_stallTimerExpiry :
    look (exec (.stallTimerExpiry 3000000) { bankAt 5 with latch := { (bankAt 5).latch with stallTimer := some 1000000 } })
      (fun t => t.latch.guard) = some true := by decide +kernel

/-- R74, R75: the first pass after a start holds all 48 bays, and the idle skip is 7. -/
theorem test_passPeriodExpiry :
    look (exec (.passPeriodExpiry 5) { bankAt 10 with scanner := { State.reset.scanner with passTimer := 0 } })
      (fun t => (t.scanner.pass.map (·.due.length), t.scanner.conversion.map Conversion.bay, t.scanner.skip.getD 47 0)) =
      some (some 48, some 0, 7) := by decide +kernel

/-- A pass in which a bay is being converted since 992,000 with a filter of 8 ms, and bay 40 follows. -/
def converting (s : State) (b : Nat) (phase : ConversionPhase) : State :=
  { s with scanner := { s.scanner with
      pass := some { due := [b, 40], remaining := [b, 40] }, conversion := some { bay := b, phase := phase, since := 992000, filter := 8000 } } }

theorem test_settlingConversionEnd :
    look (exec (.settlingConversionEnd 1000000) (converting (bankAt 5) 8 .settling)) (fun t => t.scanner.conversion) =
      some (some { bay := 8, phase := .kept, since := 1000000, filter := 8000 }) := by decide +kernel

/-- R76: a bay locked out during its conversion pair has the pair's code discarded, though it is restored before the pair ends. -/
theorem test_lockout_discards_the_pair :
    look (exec (.lockout 8) (converting (bankAt 5) 8 .kept)) (fun t => t.scanner.discard) = some true ∧
    look (exec (.keptConversionEnd 512 1000000) { converting (bankAt 5) 8 .kept with
        scanner := { (converting (bankAt 5) 8 .kept).scanner with discard := true } })
      (fun t => ((t.bay 8).lastTemp, t.scanner.discard, t.scanner.conversion.map Conversion.bay)) = some (none, false, some 40) := by
  decide +kernel

/-- 6.11: at 5,000,140 the round of T 645 after the restart is charged 5 times 660. By R83, with points 680 at
code 512 and 610 at 640, code 576 reads 680 + floor(-70 * 64 / 128) = 645. -/
theorem test_keptConversionEnd_charges :
    look (exec (.keptConversionEnd 576 1000000) (converting ((bankAt 5000140).setBay 18 { heldBay 7 with
        loadTime := some 5000000, deadline := some 5018000, lastRound := some 5000080, lastTemp := none, qCold := 300
        restartPenaltyPending := 600 }) 18 .kept))
      (fun t => ((t.bay 18).lastTemp, (t.bay 18).qCold, (t.bay 18).restartPenaltyPending, t.scanner.conversion.map Conversion.bay)) =
      some (some 645, 3600, 0, some 40) := by decide +kernel

/-- 05: code 1023 in a VACANT bay, the third time, takes it out of service. -/
theorem test_keptConversionEnd_third_fault :
    look (exec (.keptConversionEnd 1023 1000000) (converting ((bankAt 5).setBay 8 { Bay.empty with faultStreak := 2 }) 8 .kept))
      (fun t => ((t.bay 8).state, (t.bay 8).oosReason, (t.notices 8).bayFault)) = some (.outOfService, some .sensor, true) := by
  decide +kernel

/-- 07, one window under a short budget: B 6, H 4, rotation 10 after the crossing. -/
def shortBudget : State :=
  let s := setBays (bankAt 3000000) [(3, { heldBay 2 with lastTemp := some 600, demand := 16 }), (7, preheatingBay 2),
    (12, { readyBay 2 with demand := 9 }), (20, { heldBay 2 with demand := 12 }), (31, { readyBay 2 with demand := 16 })]
  { s with
    config := { s.config with budget := 6 }
    mains := { present := true, settle := 8, lastCrossing := some 990000, watch := true, position := some 15 }
    heater := { s.heater with rotation := 9 } }

/-- 07: the runs of that window, and the gates of half-cycle 0. -/
theorem test_zcCrossing_window :
    look (exec (.zcCrossing 1000000) shortBudget)
      (fun t => (t.heater.schedule.map fun r => (r.bay, r.first, r.length), allBays.filter t.gate, t.heater.rotation)) =
      some ([(3, 0, 16), (7, 16, 16), (12, 32, 9), (20, 41, 12), (31, 53, 11)], [3, 7, 12, 20], 10) := by decide +kernel

/-- R118: 25 ms without a crossing. -/
theorem test_absenceWatchExpiry :
    look (exec (.absenceWatchExpiry 1015000) shortBudget) (fun t => (t.mains.present, t.bankNotices.mainsLost, t.mains.position)) =
      some (false, true, none) := by decide +kernel

/-- 3.10: bay 24 begins to preheat. -/
theorem test_preheatStartExpiry :
    look (exec (.preheatStartExpiry 24) ((bankAt 3005000).setBay 24 (bookedBay 2))) (fun t => ((t.bay 24).state, (t.bay 24).demand)) =
      some (.preheating, 16) := by decide +kernel

/-- 4.7: bays 24 and 27 lapse at 3,023,000; one tick before they do not. -/
theorem test_lapseExpiry :
    look (exec (.lapseExpiry 24) (withOrder ((bankAt 3023000).setBay 24 (readyBay 2)) [24, 25]))
      (fun t => ((t.bay 24).state, (t.notices 24).lapsed, t.directory.entries.map Entry.bays)) = some (.vacant, true, [[25]]) ∧
    look (exec (.lapseExpiry 24) ((bankAt 3022999).setBay 24 (readyBay 2))) (fun t => (t.bay 24).state) = some .ready := by decide +kernel

/-- 4.7: at 3,015,644 bay 26 returns to PREHEATING: 626 lies below 630. -/
theorem test_loadWindowExpiry :
    look (exec (.loadWindowExpiry 26) (((bankAt 3015644).setBay 26 { loadingBay 5 false with
        lastTemp := some 626, timer := some 3015644 }).setLatchPosition 53 .unlocked))
      (fun t => ((t.bay 26).state, (t.bay 26).demand, (t.notices 26).ready, t.latch.queue.map LatchRequest.door)) =
      some (.preheating, 16, false, [53]) := by decide +kernel

/-- R108: the deadline of a HOLDING bay. -/
theorem test_deadlineExpiry :
    look (exec (.deadlineExpiry 26) ((bankAt 3052420).setBay 26 (heldBay 5))) (fun t => ((t.bay 26).state, (t.bay 26).withdrawReason)) =
      some (.withdrawn, some .deadline) := by decide +kernel

/-- 9.11: at 3,030,204 bay 26 returns to HOLDING and door 52 is to be locked. -/
theorem test_releaseTimerExpiry :
    look (exec (.releaseTimerExpiry 26) (((bankAt 3030204).setBay 26 { releasingBay 5 with
        timer := some 3030204 }).setLatchPosition 52 .unlocked))
      (fun t => ((t.bay 26).state, (t.notices 26).releaseTimeout, t.latch.queue.map LatchRequest.door)) =
      some (.holding, true, [52]) := by decide +kernel

/-- R182: the clearing window runs out. -/
theorem test_clearingWindowExpiry :
    look (exec (.clearingWindowExpiry 41) (((bankAt 6401200).setBay 41 { withdrawnBay 2 with
        clearing := true, timer := some 6401200 }).setLatchPosition 83 .unlocked))
      (fun t => ((t.bay 41).clearing, (t.bay 41).state, t.latch.queue.map LatchRequest.door)) = some (false, .withdrawn, [83]) := by
  decide +kernel

/-- A write of the soup to slot 6 that began at 1,000,000. -/
def writing (target : StoreTarget) (contents : List Byte) : State :=
  { bankAt 5 with store := { (bankAt 5).store with
      write := some { target := target, contents := contents, began := 5, startedAt := 1000000 } } }

/-- R199: 40 ms after it began the write completes. -/
theorem test_storeWriteComplete :
    look (exec (.storeWriteComplete 1040000) (writing (.slot 6) soup)) (fun t => (t.slotCondition 6, t.bankNotices.storeDone)) =
      some (.inService, true) ∧
    look (exec (.storeWriteComplete 1039999) (writing (.slot 6) soup)) (fun t => t.slotCondition 6) = some .empty := by decide +kernel

/-! ### Operations on the tables of spec/ -/

/-- 5.3, the worked conversions. -/
theorem test_conversions :
    temperatureOf [0, 0, 0, 0, 0, 560, 720, 0, 0] 700 = 635 ∧ temperatureOf [0, 0, 0, 0, 0, 720, 560, 0, 0] 700 = 645 ∧
    temperatureOf [0, 0, 0, 0, 0, 720, 560, 0, 0] 701 = 643 ∧ temperatureOf BankConfig.defaults.points 410 = 743 ∧
    temperatureOf BankConfig.defaults.points 512 = 680 ∧ temperatureOf BankConfig.defaults.points 1015 = -343 ∧
    isFaultCode 7 = true ∧ isFaultCode 8 = false ∧ isFaultCode 1015 = false ∧ isFaultCode 1016 = true := by decide +kernel

/-- 5.4, the worked reductions. -/
theorem test_reductions :
    ([RoundMode.first, .min, .max, .mean].map fun m => (gather [641, 638, 640, 642]).map (roundTemperature m 4)) =
      [some 641, some 638, some 642, some 640] ∧
    (gather [-3, -4]).map (roundTemperature .mean 2) = some (-3) ∧
    (gather [-5, -6, -6]).map (roundTemperature .mean 3) = some (-6) := by decide +kernel

/-- 7.2, the table of R120. -/
theorem test_demands :
    [demandFor 700 640 10, demandFor 700 640 24, demandFor 700 730 10, demandFor 700 699 32, demandFor 700 700 255] =
      [9, 16, 0, 1, 0] := by decide +kernel

/-- 9.2, the table of R156: a span of 650 does not lock out, and then 700 drops the time 0 and does. -/
theorem test_failure_spans :
    locksOut (recordFailure [0, 100, 250, 400] 550) = true ∧ locksOut (recordFailure [0, 100, 250, 400] 650) = false ∧
    locksOut (recordFailure [0, 100, 250, 400, 650] 700) = true := by decide +kernel

/-! ### Part 3. Hypotheses met -/

/-- A bank with a bay in each state, three entries, a pulse, two requests and a lit heater. -/
def busy : State :=
  let s := setBays (bankAt 3000000)
    [(24, bookedBay 2), (25, preheatingBay 5), (26, readyBay 2), (27, heldBay 2),
     (36, { releasingBay 2 with entry := some 615002 }), (37, { collectingBay 2 with entry := some 615002 }),
     (38, { withdrawnBay 2 with entry := some 615002 }), (40, { loadingBay 2 false with entry := some 700000 }),
     (41, { loadingBay 2 true with entry := some 700000 }), (42, { withdrawnBay 2 with entry := none }), (43, outBay)]
  let s := (pulsing s 10 .lock).setLatchPosition 20 .unlocked
  { s with
    pending := [.bankTimeTick]
    directory := { generation := 200, entries :=
      [⟨508863, 91207, [24, 25, 26, 27], 2990000⟩, ⟨615002, 88031, [36, 37, 38], 2990000⟩, ⟨700000, 77310, [40, 41], 2990000⟩] }
    latch := { s.latch with queue := [⟨20, .lock, .lock, 2⟩, ⟨72, .unlock, .collection, 1⟩], nextArrival := 5 }
    mains := { present := true, settle := 8, lastCrossing := some 999000, watch := true, position := some 0 }
    heater := { s.heater with schedule := [⟨27, 0, 5, false⟩], gates := s.heater.gates.setIfInBounds 27 true } }

theorem orderedOf {d : Directory} (h1 : d.entries.Pairwise fun e f => e.code < f.code)
    (h2 : d.entries.Pairwise fun e f => e.orderRef ≠ f.orderRef)
    (h3 : ∀ e ∈ d.entries, e.bays ≠ [] ∧ e.bays.length ≤ 4 ∧ e.bays.Pairwise (· < ·) ∧ ∀ b ∈ e.bays, b < 48)
    (h4 : ∀ e ∈ d.entries, e.code ≤ 999999 ∧ 0 < e.orderRef) : d.Ordered := ⟨h1, h2, h3, h4⟩

theorem agreesOf {s : State} (ho : s.directory.Ordered)
    (h1 : ∀ b < 48, ∀ e ∈ s.directory.entries, b ∈ e.bays → (s.bay b).entry = some e.code)
    (h2 : ∀ b < 48, (s.bay b).entry = none ∨ ∃ e ∈ s.directory.entries, (s.bay b).entry = some e.code ∧ b ∈ e.bays)
    (h3 : ∀ b < 48, (s.bay b).state.resting = true → (s.bay b).entry = none)
    (h4 : ∀ b < 48, (s.bay b).state.resting = false → (s.bay b).state ≠ .withdrawn → (s.bay b).entry ≠ none) :
    s.DirectoryAgrees := by
  refine ⟨ho, fun b hb code => ⟨fun h => ?_, fun ⟨e, he, hc, hm⟩ => hc ▸ h1 b hb e he hm⟩, h3, h4⟩
  rcases h2 b hb with h' | ⟨e, he, hc, hm⟩
  · rw [h'] at h; cases h
  · exact ⟨e, he, Option.some.inj (hc.symm.trans h), hm⟩

theorem inRangeOf {r : Bay} (h : r.faultStreak ≤ 3 ∧ r.demand ≤ 16 ∧ (r.state.heating = false → r.demand = 0) ∧ r.qCold ≤ 16777215 ∧
    r.qHot ≤ 16777215 ∧ (r.state.holdsDeficits = false → r.qCold = 0 ∧ r.qHot = 0)) : r.InRange :=
  ⟨h.1, h.2.1, h.2.2.1, h.2.2.2.1, h.2.2.2.2.1, h.2.2.2.2.2⟩

/-- An expiry still ahead. -/
theorem ahead {o : Option Nat} {n x : Nat} (h : o = some x ∧ n < x) : ∀ p, o = some p → n < p := by
  rintro p rfl; cases h.1; exact h.2

/-- O1. -/
theorem test_hyp_StepRunsFrontCommand : busy.pending = .bankTimeTick :: [] ∧ (bankAt 5).pending = [] ∧ (bankAt 5).starting = none :=
  ⟨rfl, rfl, rfl⟩

theorem busy_steps : ∃ t, step busy = .next t := ⟨_, rfl⟩

theorem busy_ordered : busy.directory.Ordered :=
  orderedOf (by decide +kernel) (by decide +kernel) (by decide +kernel) (by decide +kernel)

theorem busy_agrees : busy.DirectoryAgrees :=
  agreesOf busy_ordered (by decide +kernel) (by decide +kernel) (by decide +kernel) (by decide +kernel)

/-- The next state of busy, whose records stand and which runs. -/
theorem busy_sound : ∃ t, step busy = .next t ∧ t.retentionAgrees = true ∧ t.sound = true := ⟨_, rfl, rfl, rfl⟩

/-- O3 to O8: the eight invariants hold of a bank with a bay in each state, and it steps to a state whose records stand. -/
theorem test_hyp_RecordInvariantKept : busy.RecordsInRange ∧ ∃ t, step busy = .next t ∧ t.retentionAgrees = true ∧ t.sound = true :=
  ⟨fun b hb => inRangeOf ((by decide +kernel : ∀ b < 48, (busy.bay b).faultStreak ≤ 3 ∧ (busy.bay b).demand ≤ 16 ∧
    ((busy.bay b).state.heating = false → (busy.bay b).demand = 0) ∧ (busy.bay b).qCold ≤ 16777215 ∧ (busy.bay b).qHot ≤ 16777215 ∧
    ((busy.bay b).state.holdsDeficits = false → (busy.bay b).qCold = 0 ∧ (busy.bay b).qHot = 0)) b hb), busy_sound⟩

theorem test_hyp_DirectoryInvariantKept :
    busy.DirectoryAgrees ∧ ∃ t, step busy = .next t ∧ t.retentionAgrees = true ∧ t.sound = true := ⟨busy_agrees, busy_sound⟩

theorem test_hyp_BudgetInvariantKept : busy.WithinBudget ∧ ∃ t, step busy = .next t :=
  ⟨⟨by decide +kernel, by decide +kernel, by decide +kernel, by decide +kernel⟩, busy_steps⟩

theorem test_hyp_GateInvariantKept : busy.GatesSafe ∧ ∃ t, step busy = .next t ∧ t.retentionAgrees = true ∧ t.sound = true :=
  ⟨⟨by decide +kernel, by decide +kernel, by decide +kernel⟩, busy_sound⟩

theorem busy_queue : busy.QueueOrdered := ⟨by decide +kernel, by decide +kernel, by decide +kernel, by decide +kernel⟩

/-- Whether a pulse of an action runs for a door, in a form that evaluates. -/
def drives (s : State) (d : Nat) (a : LatchAction) : Bool :=
  (List.range 4).any fun c => (s.latch.channels.getD c none).any fun p => p.door = d && p.action = a

theorem drives_iff (s : State) (d : Nat) (a : LatchAction) : s.Drives d a ↔ drives s d a = true := by
  simp [State.Drives, drives, Option.any_eq_true]

theorem busy_channels : ∀ c < 4, ∀ p, busy.latch.channels.getD c none = some p → c = 1 ∧ p.door = 10 := by
  have h0 : ∀ c < 4, c ≠ 1 → busy.latch.channels.getD c none = none := by decide +kernel
  have h1 : busy.latch.channels.getD 1 none = some ⟨10, .lock, 600000, 400000⟩ := by decide +kernel
  intro c hc p hp
  by_cases h : c = 1
  · subst h; rw [h1] at hp; cases hp; exact ⟨rfl, rfl⟩
  · rw [h0 c hc h] at hp; cases hp

theorem busy_latches : busy.LatchesAgree where
  moving := by simp only [drives_iff]; decide +kernel
  single c hc c' hc' p p' h h' _ := (busy_channels c hc p h).1.trans (busy_channels c' hc' p' h').1.symm
  opposite := by decide +kernel
  doors := ⟨by decide +kernel, fun c hc p h => by rw [(busy_channels c hc p h).2]; decide⟩

theorem test_hyp_QueueInvariantKept :
    busy.QueueOrdered ∧ busy.LatchesAgree ∧ busy.FrontsReturned ∧
      ∃ t, step busy = .next t ∧ t.retentionAgrees = true ∧ t.sound = true :=
  ⟨busy_queue, busy_latches, ⟨by decide +kernel, by decide +kernel, by decide +kernel⟩, busy_sound⟩

theorem test_hyp_CountInvariantKept : busy.CountsInRange ∧ ∃ t, step busy = .next t :=
  ⟨⟨by decide +kernel, by decide +kernel, by decide +kernel, by decide +kernel, by decide +kernel, by rintro h ⟨⟩; decide, by decide +kernel,
    by decide +kernel, by rintro ⟨⟩ <;> decide +kernel⟩, busy_steps⟩

theorem busy_atRest : busy.AtRest := atRest rfl rfl

/-- O9: at address 31, with the longest command (48 slots) and the shortest. -/
theorem test_hyp_CharactersMakeTheCommand :
    let s := { bankAt 5 with link := OrderLink.start 31 }
    s.AtRest ∧ s.link.receiver = Receiver.asleep ∧ s.link.address ≤ 31 ∧
    (Instr.book 91207 508863 (List.replicate 48 2) 1200).wellFormed = true ∧
    Instr.serverCommand (.book 91207 508863 (List.replicate 48 2) 1200) = some (.book 91207 508863 (List.replicate 48 2) 1200) ∧
    (Instr.unknownCommand 0).wellFormed = true ∧ Instr.serverCommand (.unknownCommand 0) = some (.unknown 0) :=
  ⟨⟨rfl, rfl, rfl, rfl, by decide⟩, rfl, by decide, by decide +kernel, rfl, by decide +kernel, rfl⟩

/-- O10. -/
theorem test_hyp_RefusedCommandChangesNothing : (carryOut busy (.clear 48)).result ≠ .done := by decide +kernel

/-- O11: an address character; a gap of 5 ms and of 1 microsecond less; a data character asleep, as the length, as a body byte, counted (the
command byte and the next), and as the first CRC byte. -/
theorem test_hyp_CharactersFillTheFrame :
    (busy.running = true ∧ busy.link.sending = none ∧ busy.link.receiver.phase = .asleep) ∧
    (let s := receiving (some 2) 3
     s.running = true ∧ s.link.lastCharacter = some 1000000 ∧ 1000000 + 5000 ≤ max s.clock 1005000 ∧ max s.clock 1004999 < 1000000 + 5000 ∧
       s.link.sending = none ∧ s.link.receiver.phase = .receiving ∧ s.link.receiver.declared = some 2 ∧ 2 < s.link.receiver.expected) ∧
    ((receiving none 0).link.receiver.phase ≠ .asleep ∧ (receiving none 0).link.receiver.declared = none) ∧
    (∀ n ∈ [61, 62], let s := (receiving (some 60) n).setReceiver { (receiving (some 60) n).link.receiver with phase := .counting }
      s.running = true ∧ s.link.sending = none ∧ s.link.receiver.phase = .counting ∧ s.link.receiver.declared = some 60 ∧
        2 < s.link.receiver.expected) ∧
    (receiving (some 2) 2).link.receiver.expected = 2 ∧
    (let s := replying (some 1000600) [.lockout 1]
     s.running = true ∧ s.link.sending = some 1000600 ∧ max s.clock 1000599 < 1000600 ∧ 1000600 ≤ max s.clock 1000600) := by decide +kernel

/-- O12: a bad stop bit; a broadcast LOCKOUT; a broadcast RESTART with each option; each into an empty queue, behind one and behind three, and
offered to a full queue. -/
theorem test_hyp_FrameJudgedAtItsEnd :
    (∀ broadcast : Bool, ∀ n < 5, let s := judged broadcast n
      s.running = true ∧ s.link.sending = none ∧ s.link.receiver.phase ≠ .asleep ∧ s.link.receiver.declared = some 2 ∧
      s.link.receiver.expected = 1 ∧ s.link.receiver.broadcast = broadcast ∧ s.link.queue.length = n ∧
      (!s.link.receiver.corrupt && true && decide (crcBytes s.link.receiver.crc = [s.link.receiver.crcHigh, 0])) = true ∧
      (!s.link.receiver.corrupt && false && decide (crcBytes s.link.receiver.crc = [s.link.receiver.crcHigh, 0])) = false) ∧
    (∀ o : Fin 3, ∀ n < 5, let s := (judged true n).setReceiver { (judged true n).link.receiver with buffer := [2, 0x50, byteOf o.val, 0] }
      s.link.receiver.command = .restart o.val ∧ s.link.queue.length = n ∧ s.link.receiver.broadcast = true) ∧
    ∀ o, (judged true 0).link.receiver.command ≠ .restart o :=
  ⟨by decide +kernel, by decide +kernel, fun o h => by
    have : (judged true 0).link.receiver.command = .lockout 7 := by decide +kernel
    rw [this] at h; cases h⟩

/-- O13: 573 microseconds of idle line and 572; a reply ends with nothing behind it, and with another frame. -/
theorem test_hyp_RepliesGoOutOneAtATime :
    (let s := replying none [.lockout 1]
     s.running = true ∧ s.link.reply.isSome = true ∧ s.link.sending = none ∧ s.link.lastCharacter = some 1000000 ∧
       22000000 ≤ 38400 * (max s.clock 1000573 - 1000000) ∧ 38400 * (max s.clock 1000572 - 1000000) < 22000000) ∧
    ((replying (some 1000600) [.lockout 1]).link.sending = some 1000600 ∧ 1000600 ≤ max 1000000 1000600 ∧ max 1000000 1000599 < 1000600 ∧
      (replying (some 1000600) [.lockout 1]).link.queue = [⟨false, .lockout 1⟩]) ∧
    ((replying (some 1000600) [.lockout 1, .clear 48]).link.queue = ⟨false, .lockout 1⟩ :: ⟨false, .clear 48⟩ :: []) ∧
    ∀ o, Command.lockout 1 ≠ .restart o :=
  ⟨by decide +kernel, by decide +kernel, by decide +kernel, fun _ h => by cases h⟩

/-- O14: command bytes of no command and of one; options 1, 2 and 255. -/
theorem test_hyp_UnknownAndRestart :
    busy.AtRest ∧ commandBytes.contains 0 = false ∧ commandBytes.contains 0xFF = false ∧ commandBytes.contains 0x50 = true ∧
    (255 : Nat) < 256 ∧
    ∀ o ≤ 1, let s := replying (some 1000600) [.restart o]
      s.running = true ∧ s.link.sending = some 1000600 ∧ 1000600 ≤ max s.clock 1000600 ∧
      ({ s with link := { s.link with queue := [⟨false, .clear 1⟩, ⟨true, .restart o⟩] } } : State).link.queue =
        ⟨false, .clear 1⟩ :: ⟨true, .restart o⟩ :: [] ∧ s.link.reply = some { command := 0x20, result := .done, data := [] } ∧
      s.link.queue.head? = some { broadcast := false, command := .restart o } ∧ s.retentionAgrees = true :=
  ⟨busy_atRest, by decide, by decide, by decide, by decide, by decide +kernel⟩

/-- O15: a bay leaves an entry of three, and an entry of one. -/
theorem test_hyp_BayLeavesItsEntry :
    busy.directory.Ordered ∧ (⟨615002, 88031, [36, 37, 38], 2990000⟩ : Entry) ∈ busy.directory.entries ∧
    (withOrder busy [47]).directory.Ordered ∧ (⟨508863, 91207, [47], 2990000⟩ : Entry) ∈ (withOrder busy [47]).directory.entries :=
  ⟨busy_ordered, by decide +kernel, orderedOf (by decide +kernel) (by decide +kernel) (by decide +kernel) (by decide +kernel),
    by decide +kernel⟩

/-- O16: codes 999,999 and 1,000,000, order 0 and 1, kinds 1 and 2; a HOLDING and a BOOKED bay; page beginnings. -/
theorem test_hyp_DirectoryReports :
    busy.AtRest ∧ busy.directory.Ordered ∧
    (busy.findCode 999999 = none ∧ busy.findOrder 1 = none ∧ (1000000 : Nat) < 4294967296 ∧ (1000000 : Nat) < 16777216 ∧
      busy.findCode 508863 = some ⟨508863, 91207, [24, 25, 26, 27], 2990000⟩ ∧
      busy.findOrder 91207 = some ⟨508863, 91207, [24, 25, 26, 27], 2990000⟩) ∧
    ((busy.bay 27).state = .holding ∧ (busy.bay 27).profile = some 2 ∧ (busy.bay 27).lastTemp = some 690 ∧
      (busy.bay 27).deadline = some 3052420) ∧
    ((busy.bay 24).state = .booked ∧ (busy.bay 24).profile = some 2 ∧ (busy.bay 24).lastTemp = none ∧
      (busy.bay 24).lapseAt = some 3023000 ∧ (busy.bay 24).expectedLoad = some 3014000) :=
  ⟨busy_atRest, busy_ordered, by decide +kernel, by decide +kernel, by decide +kernel⟩

/-- Modules 0 to `m - 1` locked out. -/
def lockedBelow (m : Nat) : State :=
  (List.range m).foldl (fun s k => s.setLockedOut k true) (bankAt 3000000)

theorem lockedBelow_candidate (b : Nat) (hb : 6 ≤ b / 4) (h : b < 48) : IsCandidate (lockedBelow 6) b := by
  have state : ∀ b < 48, ((lockedBelow 6).bay b).state = .vacant ∧ ((lockedBelow 6).bay b).clearing = false := by decide +kernel
  have inUse : ∀ b < 48, 6 ≤ b / 4 → (lockedBelow 6).lockedOut.getD (b / 4) false = false := by decide +kernel
  have doors : ∀ d < 96, ((lockedBelow 6).door d).closed = true ∧ (lockedBelow 6).latchPosition d = .locked := by decide +kernel
  exact ⟨h, (state b h).1, inUse b h hb, (state b h).2, ⟨(doors _ (by omega)).1, (doors _ (by omega)).1⟩,
    ⟨(doors _ (by omega)).2, (doors _ (by omega)).2⟩, fun r hr => by cases hr⟩

theorem lockedBelow_not_candidate (m b : Nat) (hm : m ≤ 12) (hb : b / 4 < m) : ¬ IsCandidate (lockedBelow m) b := fun h => by
  have key : ∀ m ≤ 12, ∀ k < m, (lockedBelow m).lockedOut.getD k false = true := by decide +kernel
  have := h.inUse
  rw [key m hm (b / 4) hb] at this
  cases this

/-- The bays 24 to 27 of module 6 are the lowest candidates of the module, and of the bank. -/
theorem lockedBelow_six (p : Nat → Prop) (hp : ∀ b, p b → IsCandidate (lockedBelow 6) b) (h : ∀ b ∈ [24, 25, 26, 27], p b) :
    LowestOf p 4 [24, 25, 26, 27] where
  length := rfl
  ascending := by decide
  members := h
  lowest c hc hn b hb := by
    have h6 : 6 ≤ c / 4 := Nat.le_of_not_lt fun hlt => lockedBelow_not_candidate 6 c (by decide) hlt (hp c hc)
    simp at hn hb
    omega

/-- Bays 0 and 4 alone VACANT: no module holds two. -/
def twoApart : State := setBays (bankAt 3000000) (((List.range 48).filter fun b => b ≠ 0 ∧ b ≠ 4).map fun b => (b, outBay))

theorem twoApart_candidate (b : Nat) : IsCandidate twoApart b ↔ b = 0 ∨ b = 4 := by
  refine ⟨fun h => (by decide +kernel : ∀ b < 48, (twoApart.bay b).state = .vacant → b = 0 ∨ b = 4) b h.exists' h.vacant, ?_⟩
  rintro (rfl | rfl)
  all_goals exact ⟨by decide, by decide +kernel, by decide +kernel, by decide +kernel, by decide +kernel, by decide +kernel, by decide +kernel⟩

theorem passes (s : State) (h : s.store = (bankAt 3000000).store) (hd : s.directory = State.reset.directory) :
    BookPasses s 91207 508863 [2, 2, 5, 9] 7200 where
  reference := by decide
  codeRange := by decide
  meals := by decide
  slots n hn := by
    have key : ∀ n ∈ [2, 2, 5, 9], n ≤ 15 ∧ (bankAt 3000000).slotCondition n = .inService ∧
        (bankAt 3000000).slotBeingWritten n = false := by decide +kernel
    simpa only [State.slotCondition, State.slotBeingWritten, State.slotRecord, h] using key n hn
  offset := by decide
  orderFree := by rw [State.findOrder, hd]; rfl
  codeFree := by rw [State.findCode, hd]; rfl

/-- O17: four bays of module 6, the lowest that holds them; two bays of two modules; no bay at all. -/
theorem test_hyp_BookChoosesBays :
    (LowestOf (fun b => IsCandidate (lockedBelow 6) b ∧ b / 4 = 6) 4 [24, 25, 26, 27] ∧
      ∀ m' < 6, ¬ ∃ l, LowestOf (fun b => IsCandidate (lockedBelow 6) b ∧ b / 4 = m') 4 l) ∧
    ((∀ m, ¬ ∃ l, LowestOf (fun b => IsCandidate twoApart b ∧ b / 4 = m) 2 l) ∧ LowestOf (IsCandidate twoApart) 2 [0, 4]) ∧
    ((lockedBelow 12).AtRest ∧ BookPasses (lockedBelow 12) 91207 508863 [2, 2, 5, 9] 7200 ∧
      ¬ ∃ l, LowestOf (IsCandidate (lockedBelow 12)) 4 l) := by
  refine ⟨⟨lockedBelow_six _ (fun b h => h.1) ?_, ?_⟩, ⟨?_, ?_⟩, atRest rfl rfl, passes _ rfl rfl, ?_⟩
  · intro b hb
    simp at hb
    exact ⟨lockedBelow_candidate b (by omega) (by omega), by omega⟩
  · rintro m' hm ⟨l, hl⟩
    obtain ⟨b, hb⟩ := List.exists_mem_of_length_pos (hl.length ▸ (by decide : 0 < 4))
    exact lockedBelow_not_candidate 6 b (by decide) ((hl.members b hb).2 ▸ hm) (hl.members b hb).1
  · rintro m ⟨l, hl⟩
    match l, hl.length, hl.ascending, hl.members with
    | [x, y], _, ha, hm =>
      have hx := hm x (by simp); have hy := hm y (by simp)
      have h1 := (twoApart_candidate x).1 hx.1
      have h2 := (twoApart_candidate y).1 hy.1
      simp at ha
      omega
  · refine ⟨rfl, by decide, fun b hb => (twoApart_candidate b).2 (by simpa using hb), fun c hc hn => ?_⟩
    exact absurd (by simpa using (twoApart_candidate c).1 hc) hn
  · rintro ⟨l, hl⟩
    obtain ⟨b, hb⟩ := List.exists_mem_of_length_pos (hl.length ▸ (by decide : 0 < 4))
    have h := hl.members b hb
    have := h.exists'
    exact lockedBelow_not_candidate 12 b (by decide) (by omega) h

/-- O18. -/
theorem test_hyp_BookBindsBays :
    (lockedBelow 6).AtRest ∧ BookPasses (lockedBelow 6) 91207 508863 [2, 2, 5, 9] 7200 ∧
    ∃ l, LowestOf (IsCandidate (lockedBelow 6)) [2, 2, 5, 9].length l :=
  ⟨atRest rfl rfl, passes _ rfl rfl, _, lockedBelow_six _ (fun _ h => h) fun b hb => by
    simp at hb
    exact lockedBelow_candidate b (by omega) (by omega)⟩

/-- O19: each bad value, each at the edge; the order and the code held; the third slot EMPTY; the second being written; 49 and 244 slots. -/
theorem test_hyp_BookRefusals :
    busy.AtRest ∧
    ([Instr.book 0 1 [2] 0, .book 1 1000000 [2] 0, .book 1 1 [] 0, .book 1 1 [2, 2, 2, 2, 2] 0, .book 1 1 [16] 0, .book 1 1 [2] 7201,
      .book 91207 1 [2, 2, 4] 0].all Instr.wellFormed = true) ∧
    (let good := fun (ref code offset : Nat) (slots : List Nat) =>
       ¬ (ref = 0 ∨ 999999 < code ∨ slots.length = 0 ∨ 4 < slots.length ∨ (∃ n ∈ slots, 15 < n) ∨ 7200 < offset)
     good 91207 999999 7200 [2, 2, 5, 9] ∧ (busy.findOrder 91207).isSome = true ∧
     good 1 508863 7200 [2] ∧ busy.findOrder 1 = none ∧ (busy.findCode 508863).isSome = true ∧
     good 1 1 0 [2, 2, 4, 15] ∧ busy.findCode 1 = none ∧ busy.slotCondition 4 ≠ .inService ∧ busy.slotCondition 2 = .inService) ∧
    (let s := { bankAt 5 with store := { (bankAt 5).store with write := some ⟨.slot 5, soup, 5, 1000000⟩ } }
     (∀ n ∈ [2, 5], s.slotCondition n = .inService) ∧ s.slotBeingWritten 5 = true ∧ s.slotBeingWritten 2 = false ∧ s.findOrder 1 = none ∧
       s.findCode 1 = none) ∧
    ((Instr.book 91207 508863 [] 1200).wellFormed = true ∧ ∀ k ∈ [49, 244], (List.replicate k 255).length = k ∧
      ∀ n ∈ List.replicate k 255, n < 256) :=
  ⟨busy_atRest, by decide +kernel, by decide +kernel, by decide +kernel, by decide +kernel⟩

/-- O20 to O22: no form and no order; the order of busy, with codes held and free, 1 and 120 minutes, and times that find preheat_start reached and ahead. -/
theorem test_hyp_Amend :
    busy.AtRest ∧ busy.directory.Ordered ∧ busy.findOrder 91207 = some ⟨508863, 91207, [24, 25, 26, 27], 2990000⟩ ∧
    (busy.findOrder 1 = none ∧ (2 : Nat) < 3 ∧ (1000000 : Nat) < 16777216) ∧
    ((busy.findCode 615002).isSome = true ∧ busy.findCode 999999 = none ∧ busy.findCode 0 = none) ∧
    ((busy.bay 27).state = .holding ∧ (busy.bay 24).state = .booked ∧ (busy.bay 25).state = .preheating ∧ (busy.bay 26).state = .ready) ∧
    (min (busy.bankTime + 10 * 0) 4294967295 - 600 * (busy.boundProfile 24).lead ≤ busy.bankTime ∧
      busy.bankTime < min (busy.bankTime + 10 * 7200) 4294967295 - 600 * (busy.boundProfile 24).lead) :=
  ⟨busy_atRest, busy_ordered, by decide +kernel, by decide +kernel, by decide +kernel, by decide +kernel, by decide +kernel⟩

/-- O23: preheat_start at now and one tick ahead; lapse_at at now, ahead, and in a state that does not watch it. -/
theorem test_hyp_WaitingBayExpiries :
    (let s := { busy with bankTime := 3005000 }
     s.running = true ∧ (s.bay 24).state = .booked ∧ (s.bay 24).preheatStart = some 3005000 ∧ 3005000 ≤ s.bankTime) ∧
    (∀ p, (busy.bay 24).preheatStart = some p → busy.bankTime < p) ∧ (busy.bay 47).state ≠ .booked ∧
    ((busy.bay 26).state = .ready ∧ (busy.bay 26).lapseAt = some 3023000 ∧ 3023000 ≤ State.bankTime { busy with bankTime := 3023000 }) ∧
    (∀ l, (busy.bay 24).lapseAt = some l → busy.bankTime < l) ∧
    ¬ ((busy.bay 40).state = .booked ∨ (busy.bay 40).state = .preheating ∨ (busy.bay 40).state = .ready) :=
  ⟨by decide +kernel, ahead (x := 3005000) (by decide +kernel), by decide +kernel, by decide +kernel, ahead (x := 3023000) (by decide +kernel),
    by decide +kernel⟩

/-- O24: bay 47, no order's, bay 26 of order 88031, and bay 25 without force; a READY and a forced PREHEATING bay against LOCKED and LOCKING, with
nothing pending and with a SERVICE UNLOCK, against UNLOCKING, and against UNLOCKED with a waiting LOCK and without. -/
theorem test_hyp_LoadOpensTheRear :
    busy.AtRest ∧ busy.findOrder 91207 = some ⟨508863, 91207, [24, 25, 26, 27], 2990000⟩ ∧
    ((busy.bay 47).state ≠ .ready ∧ (busy.bay 47).state ≠ .preheating ∧
      busy.findOrder 88031 = some ⟨615002, 88031, [36, 37, 38], 2990000⟩ ∧ 26 ∉ [36, 37, 38]) ∧
    ((busy.bay 26).state = .ready ∧ (busy.bay 25).state = .preheating ∧ (busy.bay 26).timer = none ∧ (busy.bay 25).timer = none) ∧
    (busy.latchPosition 53 = .locked ∧ (busy.setLatchPosition 53 .locking).latchPosition 53 = .locking ∧ busy.pendingFor 53 = none) ∧
    (let s := busy.enqueue 53 .unlock .service
     s.latchPosition 53 = .locked ∧ s.pendingFor 53 = some ⟨53, .unlock, .service, 5⟩ ∧ s.QueueOrdered) ∧
    (let s := pulsing busy 53 .unlock
     s.latchPosition 53 = .unlocking ∧ s.pulseRuns 53 = true) ∧
    (let s := busy.setLatchPosition 53 .unlocked
     s.latchPosition 53 = .unlocked ∧ s.pulseRuns 53 = false ∧ s.pendingFor 53 = none ∧
       (s.enqueue 53 .lock .lock).pendingFor 53 = some ⟨53, .lock, .lock, 5⟩) :=
  ⟨busy_atRest, by decide +kernel, by decide +kernel, by decide +kernel, by decide +kernel,
    ⟨by decide +kernel, by decide +kernel, ⟨by decide +kernel, by decide +kernel, by decide +kernel, by decide +kernel⟩⟩,
    by decide +kernel, by decide +kernel⟩

/-- A LOADING bay 40 at its load window. -/
def windowAt (opened : Bool) (temp : Option Int) (now : Nat) : State :=
  { busy with bankTime := now }.setBay 40 { loadingBay 2 opened with lastTemp := temp, timer := some 3000600 }

/-- O25: before the window, at it with the door opened, and at it warm (670 is 700 - 30), cold, and lapsed. -/
theorem test_hyp_LoadWindowExpiry :
    (∀ opened : Bool, ∀ temp ∈ [none, some 669, some (670 : Int)], ∀ now ∈ [3000599, 3000600, 3023000],
      let s := windowAt opened temp now
      s.running = true ∧ (s.bay 40).state = .loading ∧ (s.bay 40).timer = some 3000600 ∧ (s.bay 40).rearOpened = opened ∧
        s.bankTime = now ∧ (s.bay 40).lastTemp = temp ∧ (s.bay 40).lapseAt = some 3023000 ∧
        (s.boundProfile 40).setpoint - (s.boundProfile 40).margin = 670) ∧
    (busy.bay 27).state ≠ .loading ∧ ((loadingBay 2 true).timer = none) := by decide +kernel

/-- O26: the rear door of bay 41 has been closed for 40 ms, its record in each position, with no request pending, a LOCK, or the UNLOCK of
its LOAD behind a running LOCK. -/
theorem test_hyp_RearCloseBeginsHold :
    (let s := (withCandidate busy 83 true).setLatchPosition 83 .unlocked
     let q := s.setLatchQueue [⟨20, .lock, .lock, 2⟩, ⟨83, .lock, .lock, 3⟩, ⟨72, .unlock, .collection, 1⟩]
     let l := (s.setLatchPosition 83 .locking).setLatchQueue [⟨20, .lock, .lock, 2⟩, ⟨83, .unlock, .load, 3⟩]
     (q.pendingFor 83 = some ⟨83, .lock, .lock, 3⟩ ∧ q.latch.queue.Pairwise (fun a b => a.precedes b = true) ∧
       q.latch.queue.Pairwise (fun a b => a.door ≠ b.door) ∧ q.latch.queue.Pairwise (fun a b => a.arrival ≠ b.arrival) ∧
       ∀ r ∈ q.latch.queue, r.arrival < q.latch.nextArrival) ∧
     l.latchPosition 83 = .locking ∧ l.pendingFor 83 = some ⟨83, .unlock, .load, 3⟩) ∧
    ∀ p ∈ [LatchPosition.locked, .locking, .unlocked, .unlocking], let s := (withCandidate busy 83 true).setLatchPosition 83 p
      s.running = true ∧ (s.bay 41).state = .loading ∧ (s.bay 41).rearOpened = true ∧
      (s.door 83).candidate = some { closed := true, since := 960000 } ∧ 960000 + 40000 ≤ max s.clock 0 ∧ s.latchPosition 83 = p ∧
      s.pendingFor 83 = none := by decide +kernel

/-- O27: the worked conversion of code 1015, and code 1023. -/
theorem test_hyp_CodesBecomeTemperatures :
    (1015 : Nat) ≤ 1023 ∧ 1015 = 128 * 7 + 119 ∧ (119 : Nat) ≤ 127 ∧ (128 : Int) * (-763) ≤ (-400 - 420) * 119 ∧
    (-400 - 420 : Int) * 119 < 128 * (-763) + 128 ∧ 1023 = 128 * 7 + 127 := by decide

/-- O28: bay 25 with K 2: the first sample and the second; a BOOKED bay with K 1; a bay in OUT_OF_SERVICE. -/
theorem test_hyp_RoundCompletes :
    isFaultCode 8 = false ∧ isFaultCode 1015 = false ∧ (busy.bay 25).state = .preheating ∧ (busy.bay 24).state = .booked ∧
    busy.scanner.rounds.getD 25 none = gather [] ∧ ([] ++ [temperatureOf busy.config.points 8]).length < (busy.boundProfile 25).count ∧
    (busy.setRound 25 (gather [500])).scanner.rounds.getD 25 none = gather [500] ∧
    ([500] ++ [temperatureOf busy.config.points 1015]).length = ((busy.setRound 25 (gather [500])).boundProfile 25).count  ∧
    busy.scanner.rounds.getD 24 none = gather [] ∧ ([] ++ [temperatureOf busy.config.points 8]).length = 1 ∧
    (busy.bay 43).state = .outOfService := by
  decide +kernel

/-- The pass timer run down, with a pass in progress or not. -/
def passAt (timer : Nat) (pass : Option Pass) (skip : Nat) : State :=
  { busy with scanner := { busy.scanner with passTimer := timer, pass := pass, skip := Vector.replicate 48 skip } }

/-- O29: not run down; an overrun; a pass with no due bay, and one with due bays, with a pulse running and without. -/
theorem test_hyp_PassPeriodExpiry :
    (passAt 1 none 0).running = true ∧ (passAt 1 none 0).scanner.passTimer ≠ 0 ∧
    (passAt 0 (some ⟨[3], [3]⟩) 0).scanner.passTimer = 0 ∧ (passAt 0 (some ⟨[3], [3]⟩) 0).scanner.pass.isSome = true ∧
    (∀ k ≤ 1, (passAt 0 none k).scanner.passTimer = 0 ∧ (passAt 0 none k).scanner.pass = none ∧
      (passAt 0 none k).scanner.skip.getD 24 0 = k ∧ 0 < (passAt 0 none k).energised ∧
      ((passAt 0 none k).setChannel 1 none).energised = 0) := by decide +kernel

/-- O30: a settling conversion at its end and 1 microsecond before; a kept one of a VACANT bay, with the next bay scanned, OUT_OF_SERVICE with a
scanned one behind it, or OUT_OF_SERVICE and the last; one of a HOLDING bay while a pulse runs; marked to be discarded. -/
theorem test_hyp_ConversionPair :
    (converting (bankAt 5) 8 .settling).scanner.conversion = some ⟨8, .settling, 992000, 8000⟩ ∧
    992000 + 8000 ≤ max (converting (bankAt 5) 8 .settling).clock 0 ∧
    max (State.clock { converting (bankAt 5) 8 .settling with clock := 0 }) 999999 < 992000 + 8000 ∧
    (let s := converting (bankAt 5) 8 .kept
     s.running = true ∧ (s.bay 8).state.group = some .idle ∧ s.scanner.conversion = some ⟨8, .kept, 992000, 8000⟩ ∧
       s.scanner.pass = some ⟨[8, 40], 8 :: [40]⟩ ∧ s.energised = 0 ∧ s.scanner.rounds.getD 8 none = none ∧
       s.scanner.discard = false ∧ [40] = [] ++ 40 :: [] ∧ (s.bay 40).state ≠ .outOfService) ∧
    (let s := converting ((bankAt 5).setBay 40 outBay) 8 .kept
     ((s.takeSample 8 7).bay 40).state = .outOfService ∧ ((s.takeSample 8 1016).bay 41).state ≠ .outOfService ∧
       [40, 41] = [40] ++ 41 :: []) ∧
    (let s := converting busy 27 .kept
     s.running = true ∧ 0 < s.energised ∧ (s.bay 27).state = .holding ∧ s.scanner.conversion = some ⟨27, .kept, 992000, 8000⟩ ∧
       992000 + 8000 ≤ max s.clock 0 ∧ s.scanner.pass = some ⟨[27, 40], 27 :: [40]⟩ ∧ s.scanner.discard = false) ∧
    (State.scanner { converting (bankAt 5) 8 .kept with
      scanner := { (converting (bankAt 5) 8 .kept).scanner with discard := true } }).discard = true := by
  decide +kernel

/-- O31: at and one below S - margin, and S - 2 margin. -/
theorem test_hyp_ValidRoundOfAWaitingBay :
    (busy.bay 25).state = .preheating ∧ (busy.boundProfile 25).setpoint - (busy.boundProfile 25).margin ≤ 630 ∧
    629 < (busy.boundProfile 25).setpoint - (busy.boundProfile 25).margin ∧ (busy.bay 26).state = .ready ∧
    639 < (busy.boundProfile 26).setpoint - 2 * (busy.boundProfile 26).margin ∧
    (busy.boundProfile 26).setpoint - 2 * (busy.boundProfile 26).margin ≤ 640 := by decide +kernel

/-- O32: streaks 1 and 2 (and 3) in each kind of state. -/
theorem test_hyp_FaultRoundsOutsideAHold :
    ∀ b ∈ [24, 25, 26, 37, 38, 40, 47], ∀ k ≤ 3, let s := busy.setBay b { busy.bay b with faultStreak := k }
      (s.bay b).faultStreak = k ∧ (s.bay b).state ≠ .holding ∧ (s.bay b).state ≠ .releasing ∧ (s.bay b).state ≠ .outOfService ∧
      (s.bay b).state = (busy.bay b).state := by decide +kernel

/-- Bay 27 HOLDING on the roast with some deficits, its last round 50 ticks ago. -/
def roasting (cold hot streak : Nat) : State :=
  busy.setBay 27 { heldBay 7 with qCold := cold, qHot := hot, faultStreak := streak, lastRound := some 2999950 }

/-- O33 and O34 of a RELEASING bay too. O33, by 6.11: below both limits; the cold limit reached exactly (20,000); the hot limit reached exactly (9,000). -/
theorem test_hyp_ValidRoundOfAHold :
    let dt := elapsedInterval ((roasting 0 0 0).bay 27) (roasting 0 0 0).bankTime
    ((roasting 0 0 0).bay 27).state = .holding ∧ dt = 50 ∧ ((busy.setBay 36 { releasingBay 7 with qCold := 20000 }).bay 36).state = .releasing ∧ ((roasting 0 0 0).boundProfile 27).floor = 650 ∧
    ((roasting 0 0 0).boundProfile 27).qmaxCold = 20000 ∧ ((roasting 0 0 0).boundProfile 27).qmaxHot = 9000 ∧
    ((roasting 19499 0 0).bay 27).qCold + (650 - 640) * dt = 19999 ∧ ¬ atLimit 19999 20000 ∧
    ((roasting 19500 0 0).bay 27).qCold + (650 - 640) * dt = 20000 ∧ atLimit 20000 20000 ∧
    ((roasting 0 6000 0).bay 27).qHot + (860 - 800) * dt = 9000 ∧ atLimit 9000 9000 ∧ ¬ atLimit 0 20000 ∧ ¬ atLimit 0 9000 := by
  unfold atLimit; decide +kernel

/-- O34: the penalty is 40, so 50 ticks charge 2,000; streaks 1 and 2. -/
theorem test_hyp_FaultRoundOfAHold :
    let dt := elapsedInterval ((roasting 0 0 0).bay 27) (roasting 0 0 0).bankTime
    ((roasting 0 0 0).boundProfile 27).penalty * dt = 2000 ∧
    (∀ k ≤ 3, ((roasting 0 0 k).bay 27).faultStreak = k ∧ ((roasting 0 0 k).bay 27).state = .holding) ∧
    ¬ atLimit (0 + 2000) 20000 ∧ ¬ atLimit 0 9000 ∧ atLimit (18000 + 2000) 20000 ∧ atLimit 9000 9000 ∧ ¬ (2 ≤ 1) ∧ 2 ≤ 2 := by
  unfold atLimit; decide +kernel

/-- O36: the deadline at now of a HOLDING bay and of a RELEASING one, against each side of its front latch; ahead; not held. -/
theorem test_hyp_DeadlineExpiry :
    (∀ b ∈ [27, 36], (busy.bay b).deadline = some 3052420 ∧ 3052420 ≤ State.bankTime { busy with bankTime := 3052420 }) ∧
    (busy.bay 27).state = .holding ∧ (busy.bay 36).state = .releasing ∧
    (∀ p ∈ [LatchPosition.locked, .locking, .unlocked, .unlocking], (busy.setLatchPosition 72 p).latchPosition 72 = p) ∧
    (∀ d, (busy.bay 27).deadline = some d → busy.bankTime < d) ∧
    ¬ ((busy.bay 38).state = .holding ∨ (busy.bay 38).state = .releasing) :=
  ⟨by decide +kernel, by decide +kernel, by decide +kernel, by decide +kernel, ahead (x := 3052420) (by decide +kernel), by decide +kernel⟩

/-- O37: bay 26, E = 60 with Kp 8: (480 + 32) / 64 = 8. -/
theorem test_hyp_DemandFollowsTheError :
    (busy.bay 26).state.heating = true ∧ (64 : Int) * 8 ≤ ((busy.boundProfile 26).setpoint - 640) * (busy.boundProfile 26).gain + 32 ∧
    ((busy.boundProfile 26).setpoint - 640) * (busy.boundProfile 26).gain + 32 < 64 * 8 + 64 := by decide +kernel

/-- O38, O39: the window of the example in 07. -/
theorem test_hyp_WindowStartAllocates :
    shortBudget.running = true ∧ shortBudget.heater.rotation < 48 ∧ shortBudget.allocationOrder = [3, 7] ++ 12 :: [20, 31] ∧
    shortBudget.allocationOrder = [] ++ 3 :: [7, 12, 20, 31] ∧ shortBudget.allocationOrder = [3, 7, 12, 20] ++ 31 :: [] := by
  decide +kernel

/-- The mains in some state, its last crossing at 1,000,000. -/
def mainsAt (present : Bool) (settle : Nat) (position : Option Nat) : State :=
  { busy with mains := { present := present, settle := settle, lastCrossing := some 1000000, watch := true, position := position } }

/-- O40: crossings after 6.999, 7, 12 and 12.001 ms, the first one after a start, and the absence watch after 24.999 and 25 ms and not
running. -/
theorem test_hyp_CrossingsDriveTheWindow :
    (let s := mainsAt false 7 none
     s.running = true ∧ s.mains.lastCrossing = some 1000000 ∧ max s.clock 1006999 - 1000000 < 7000 ∧ 7000 ≤ max s.clock 1007000 - 1000000 ∧
       max s.clock 1012000 - 1000000 ≤ 12000 ∧ 12000 < max s.clock 1012001 - 1000000 ∧ s.mains.watch = true ∧
       max s.clock 1024999 < 1000000 + 25000 ∧ 1000000 + 25000 ≤ max s.clock 1025000) ∧
    ((mainsAt false 7 none).mains.settle = 7 ∧ (mainsAt false 6 none).mains.settle < 7 ∧ (mainsAt false 6 none).mains.present = false) ∧
    ((mainsAt true 8 none).mains.present = true ∧ (mainsAt true 8 none).mains.position = none ∧
      (mainsAt true 8 (some 14)).mains.position = some 14 ∧ (mainsAt true 8 (some 15)).mains.position = some 15) ∧
    (∀ present : Bool, let s := { busy with mains := { busy.mains with lastCrossing := none, watch := false, present := present } }
      s.running = true ∧ s.mains.lastCrossing = none ∧ s.mains.watch = false ∧ s.mains.present = present) := by decide +kernel

/-- O41: no candidate; one that has stood 39.999 ms; an alarm at now, and ahead. -/
theorem test_hyp_SwitchesAndAlarms :
    busy.running = true ∧ (busy.door 95).candidate = none ∧
    (let s := { withCandidate busy 95 false with clock := 0 }
     (s.door 95).candidate = some { closed := false, since := 960000 } ∧ max s.clock 999999 < 960000 + 40000) ∧
    (let s := busy.setDoor 95 { closed := false, candidate := none, alarm := some 3000000 }
     (s.door 95).alarm = some 3000000 ∧ 3000000 ≤ s.bankTime) ∧
    (∀ e, ((busy.setDoor 95 { closed := false, candidate := none, alarm := some 3000001 }).door 95).alarm = some e →
      (busy.setDoor 95 { closed := false, candidate := none, alarm := some 3000001 }).bankTime < e) :=
  ⟨by decide +kernel, by decide +kernel, by decide +kernel, by decide +kernel, ahead (x := 3000001) (by decide +kernel)⟩

/-- O42: the front and rear doors of a HOLDING, a RELEASING, a LOADING and a VACANT bay, opened against LOCKED for 40 ms, with each
position of the latch that is returned. -/
theorem test_hyp_ForcedDoor :
    (∀ d ∈ [54, 55, 72, 73, 80, 81, 94, 95], let s := withCandidate busy d false
      s.running = true ∧ (s.door d).candidate = some { closed := false, since := 960000 } ∧ 960000 + 40000 ≤ max s.clock 0 ∧
      s.latchPosition d = .locked) ∧
    [54, 72, 80, 94].map (fun d => (busy.bay (d / 2)).state) = [.holding, .releasing, .loading, .vacant] ∧
    (∀ p ∈ [LatchPosition.locked, .locking, .unlocked, .unlocking],
      ((withCandidate busy 73 false).setLatchPosition 72 p).latchPosition 72 = p ∧
      ((withCandidate busy 80 false).setLatchPosition 81 p).latchPosition 81 = p ∧
      (((withCandidate busy 80 false).setLatchPosition 81 p).door 81).closed = true) := by decide +kernel

/-- O43: openings against UNLOCKED and LOCKING. -/
theorem test_hyp_UnforcedOpenings :
    (∀ d ∈ [54, 55, 72, 73, 80, 81, 94, 95], ∀ p ∈ [LatchPosition.unlocked, .locking], let s := (withCandidate busy d false).setLatchPosition d p
      s.running = true ∧ (s.door d).candidate = some { closed := false, since := 960000 } ∧ 960000 + 40000 ≤ max s.clock 0 ∧
      s.latchPosition d = p) ∧
    [54, 72, 81, 94].map (fun d => (busy.bay (d / 2)).state) = [.holding, .releasing, .loading, .vacant] := by decide +kernel

/-- O44: the front door of bay 37; front and rear doors of VACANT, RELEASING and LOADING bays, whose closing ends nothing. -/
theorem test_hyp_FrontCloseEndsCollection :
    (∀ d ∈ [74, 94, 95, 72, 81], ∀ p ∈ [LatchPosition.locked, .locking, .unlocked, .unlocking],
      let s := (withCandidate busy d true).setLatchPosition d p
      s.running = true ∧ (s.door d).candidate = some { closed := true, since := 960000 } ∧
      960000 + 40000 ≤ max s.clock 0 ∧ s.latchPosition d = p) ∧
    [74, 94, 95, 72, 81].map (fun d => (busy.bay (d / 2)).state) = [.collecting, .vacant, .vacant, .releasing, .loading] ∧
    (busy.bay 47).clearing = false ∧ (busy.bay 40).clearing = false ∧ (busy.bay 40).rearOpened = false := by decide +kernel

/-- O45: completions for a RELEASING, a LOADING and a clearing bay without a timer and with one; requests that agree with the record
and that do not, with a pending request and without, with a pulse and without. -/
theorem test_hyp_RequestsAndCompletions :
    (∀ b ∈ [36, 40, 42], (busy.bay b).timer = none ∧ ((busy.setBay b { busy.bay b with timer := some 5 }).bay b).timer ≠ none) ∧
    [36, 40, 42].map (fun b => (busy.bay b).state) = [.releasing, .loading, .withdrawn] ∧
    (let s := busy.setBay 42 { busy.bay 42 with clearing := true }
     (s.bay 42).clearing = true ∧ (s.bay 42).state = .withdrawn ∧ (s.bay 42).timer = none) ∧
    busy.QueueOrdered ∧
    (busy.latchPosition 10 = .locking ∧ busy.pulseRuns 10 = true ∧ busy.latchPosition 54 = .locked ∧ busy.pulseRuns 54 = false ∧
      busy.pendingFor 54 = none ∧ busy.pendingFor 72 = some ⟨72, .unlock, .collection, 1⟩ ∧
      (busy.setLatchPosition 72 .unlocked).latchPosition 72 = .unlocked) :=
  ⟨by decide +kernel, by decide +kernel, by decide +kernel, busy_queue, by decide +kernel⟩

/-- O46: a grant on channel 0 with one unit of the latch share left; none left; the guard; an empty queue; a pulse for the head's door; no free
channel; the stall timer at 2 s. -/
theorem test_hyp_GrantsAndTheGuard :
    busy.running = true ∧ busy.latch.queue = ⟨20, .lock, .lock, 2⟩ :: [⟨72, .unlock, .collection, 1⟩] ∧
    busy.latch.channels.getD 0 none = none ∧ busy.energised < busy.heater.budget.lmaxEff ∧ busy.energised = 1 ∧ busy.latch.guard = false ∧
    busy.pulseRuns 20 = false ∧ (pulsing busy 20 .lock).pulseRuns 20 = true ∧
    (let s := [0, 1, 2, 3].foldl (fun s c => s.setChannel c (some ⟨2 * c, .lock, 600000, 400000⟩)) busy
     ∀ c < 4, s.latch.channels.getD c none ≠ none) ∧
    (let s := busy.setChannel 0 (some ⟨12, .lock, 600000, 400000⟩)
     s.latch.channels.getD 2 none = none ∧ (∀ c' < 2, s.latch.channels.getD c' none ≠ none) ∧ s.heater.budget.lmaxEff ≤ s.energised) ∧
    (bankAt 5).latch.queue = [] ∧ (State.latch { busy with latch := { busy.latch with guard := true } }).guard = true ∧
    (State.latch { busy with latch := { busy.latch with stallTimer := some 1000000 } }).stallTimer = some 1000000 := by decide +kernel

/-- O47: a pulse at its end and 1 microsecond before; alone with no pass, alone with a pass whose next bay is in service, comes after one that is
OUT_OF_SERVICE, or does not come, and not alone; the door closed and open, with a waiting UNLOCK and without. -/
theorem test_hyp_PulsesEnd :
    (∀ a ∈ [LatchAction.lock, .unlock], let s := pulsing (bankAt 5) 81 a
      s.running = true ∧ s.latch.channels.getD 1 none = some ⟨81, a, 600000, 400000⟩ ∧ 600000 + 400000 ≤ max s.clock 0 ∧ s.energised = 1 ∧
      s.scanner.pass = none ∧ (s.door 81).closed = true ∧ ((withDoor s 81 .locking false).door 81).closed = false ∧
      s.pendingFor 81 = none ∧ (s.enqueue 81 .unlock .load).pendingFor 81 = some ⟨81, .unlock, .load, 0⟩) ∧
    max (State.clock { pulsing (bankAt 5) 81 .lock with clock := 0 }) 999999 < 600000 + 400000 ∧
    (let s := (pulsing { bankAt 5 with scanner := { State.reset.scanner with pass := some ⟨[8, 40], [8, 40]⟩ } } 81 .lock).setBay 40 outBay
     s.energised = 1 ∧ s.scanner.pass = some ⟨[8, 40], [] ++ 8 :: [40]⟩ ∧ (s.bay 8).state ≠ .outOfService ∧
     (s.setChannel 0 (some ⟨12, .lock, 600000, 400000⟩)).energised = 2 ∧ (s.bay 40).state = .outOfService ∧
     (∀ c' < 4, c' ≠ 1 → s.latch.channels.getD c' none = none)) ∧
    ([8, 40] = [8] ++ 40 :: [] ∧ (((bankAt 5).setBay 8 outBay).bay 8).state = .outOfService ∧
      (((bankAt 5).setBay 8 outBay).bay 40).state ≠ .outOfService) ∧
    ∀ a ∈ [40], (((bankAt 5).setBay 40 outBay).bay a).state = .outOfService := by decide +kernel

/-- R76, R150: the last pulse ends with no bay left in service: the pass ends and the guard is clear. -/
theorem test_lockPulseEnd_ends_the_pass :
    look (exec (.lockPulseEnd 1 1000000) (pulsing { (bankAt 5).setBay 40 outBay with
        latch := { (bankAt 5).latch with stallTimer := some 600000, guard := true }
        scanner := { State.reset.scanner with pass := some ⟨[8, 40], [40]⟩ } } 81 .lock))
      (fun t => (t.scanner.pass, t.scanner.conversion, t.latch.stallTimer, t.latch.guard, t.lsel 81)) =
      some (none, none, none, false, false) := by decide +kernel

/-- O48: a port in each phase, with five digits and six, 20 ticks after its last character and 19. -/
theorem test_hyp_KioskCharacters :
    (entering (bankAt 20) [1, 2, 3, 4, 5] []).running = true ∧ (bankAt 20).ka.phase = .idle ∧
    (entering (bankAt 20) [1, 2, 3, 4, 5] []).ka.phase = .receiving ∧ (entering (bankAt 20) [1, 2, 3, 4, 5] []).ka.digits.length < 6 ∧
    6 ≤ (entering (bankAt 20) [1, 2, 3, 4, 5, 6] []).ka.digits.length ∧ (0x39 : Byte) = byteOf (0x30 + 9) ∧
    (∀ n ≤ 9, (0x3A : Byte) ≠ byteOf (0x30 + n)) ∧ (0x45 : Byte) ≠ 0x0D ∧
    (entering (bankAt 20) [] []).ka.lastCharacter + 20 ≤ (entering (bankAt 20) [] []).bankTime ∧
    (entering (bankAt 19) [] []).bankTime < (entering (bankAt 19) [] []).ka.lastCharacter + 20 ∧
    (State.port { bankAt 20 with kb := { KioskPort.start with phase := .replying } } .kb).phase = .replying := by decide +kernel

/-- O49: a lockout still running, one at its end, a malformed entry, an unknown code, and a code found (`busy_ordered`: the directory is
ordered). -/
theorem test_hyp_KioskEntries :
    (let s := entering busy [5, 0, 8, 8, 6, 3] [1, 2, 3, 4, 5]
     s.running = true ∧ (s.port .ka).phase = .receiving ∧ (s.port .ka).failures.length ≤ 5 ∧ (s.port .ka).lockout = none ∧
       (s.port .ka).digits.length = 6 ∧ (s.port .ka).malformed = false ∧ s.bay 27 = busy.bay 27 ∧
       s.findCode ((s.port .ka).digits.foldl (fun n d => 10 * n + d) 0) = some ⟨508863, 91207, [24, 25, 26, 27], 2990000⟩) ∧
    (let s := entering busy [9, 9, 9, 9, 9, 9] []
     (s.port .ka).digits.length = 6 ∧ s.findCode ((s.port .ka).digits.foldl (fun n d => 10 * n + d) 0) = none) ∧
    (∀ e ∈ [3000000, 3000001],
      (State.port { busy with ka := { KioskPort.start with phase := .receiving, lockout := some e } } .ka).lockout = some e) ∧
    (3000000 ≤ busy.bankTime ∧ busy.bankTime < 3000001) ∧ ¬ ((entering busy [5] []).ka.digits.length = 6) := by decide +kernel

/-- O50: bay 27 against each position of its front latch and with its door open; bay 36 at its release timer, with its deadline ahead
and reached. -/
theorem test_hyp_ReleasesAndTheirTimer :
    ((busy.bay 27).state = .holding ∧ (busy.door 54).closed = true ∧ busy.pendingFor 54 = none ∧ (busy.bay 27).timer = none ∧
      busy.pulseRuns 54 = false ∧ ((withDoor busy 54 .unlocked false).door 54).closed = false ∧
      ∀ p ∈ [LatchPosition.locked, .locking, .unlocked], (busy.setLatchPosition 54 p).latchPosition 54 = p) ∧
    (∀ now ∈ [3000199, 3000200, 3052420],
      let s := { busy with bankTime := now }.setBay 36 { releasingBay 2 with timer := some 3000200 }
      s.running = true ∧ (s.bay 36).state = .releasing ∧ (s.bay 36).timer = some 3000200 ∧ (s.bay 36).deadline = some 3052420 ∧
      s.bankTime = now) := by decide +kernel

/-- O51: as O16, with the bays of two orders. -/
theorem test_hyp_OpenReleases :
    busy.AtRest ∧ busy.directory.Ordered ∧ busy.findCode 508863 = some ⟨508863, 91207, [24, 25, 26, 27], 2990000⟩ ∧
    busy.findOrder 88031 = some ⟨615002, 88031, [36, 37, 38], 2990000⟩ ∧ busy.findCode 999999 = none ∧ busy.findOrder 1 = none ∧
    (busy.bay 27).state = .holding ∧ (busy.bay 36).state = .releasing :=
  ⟨busy_atRest, busy_ordered, by decide +kernel, by decide +kernel, by decide +kernel, by decide +kernel, by decide +kernel, by decide +kernel⟩

/-- O52: an order with a bay in each state that CANCEL takes, and one that is being collected. -/
theorem test_hyp_CancelEndsTheOrder :
    busy.AtRest ∧ busy.DirectoryAgrees ∧ busy.findOrder 1 = none ∧
    (busy.findOrder 88031 = some ⟨615002, 88031, [36, 37, 38], 2990000⟩ ∧ (busy.bay 36).state = .releasing) ∧
    (∀ r ∈ [(91207, [24, 25, 26, 27]), (77310, [40, 41])], ((busy.findOrder r.1).map Entry.bays) = some r.2 ∧
      ∀ b ∈ r.2, ¬ ((busy.bay b).state = .releasing ∨ (busy.bay b).state = .collecting)) ∧
    ((busy.bay 41).state = .loading ∧ (busy.bay 41).rearOpened = true ∧ (busy.setLatchPosition 83 .unlocked).latchPosition 83 = .unlocked ∧
      busy.pulseRuns 83 = false ∧ (busy.bay 40).rearOpened = false ∧ busy.latchPosition 83 = .locked ∧ (busy.bay 40).clearing = false ∧
      (pulsing busy 83 .unlock).pulseRuns 83 = true) :=
  ⟨busy_atRest, busy_agrees, by decide +kernel, by decide +kernel, by decide +kernel, by decide +kernel⟩

/-- O53: bays 47 and 48; a WITHDRAWN and an OUT_OF_SERVICE bay against LOCKED and UNLOCKED; a clearing window at now and ahead;
the rear door of a clearing WITHDRAWN, OUT_OF_SERVICE and VACANT bay, closed for 40 ms. -/
theorem test_hyp_ClearingBeginsAndLapses :
    busy.AtRest ∧ ((busy.bay 47).state ≠ .withdrawn ∧ (busy.bay 47).state ≠ .outOfService) ∧
    ((busy.bay 42).state = .withdrawn ∧ (busy.bay 43).state = .outOfService ∧ busy.pendingFor 85 = none ∧ busy.latchPosition 85 = .locked ∧
      busy.pulseRuns 85 = false ∧ (busy.setLatchPosition 85 .unlocked).latchPosition 85 = .unlocked) ∧
    (let s := busy.setBay 42 { busy.bay 42 with clearing := true, timer := some 3000000 }
     (s.bay 42).clearing = true ∧ (s.bay 42).state = .withdrawn ∧ (s.bay 42).timer = some 3000000 ∧ 3000000 ≤ s.bankTime) ∧
    (∀ e, ((busy.setBay 42 { busy.bay 42 with clearing := true, timer := some 3000001 }).bay 42).timer = some e →
      (busy.setBay 42 { busy.bay 42 with clearing := true, timer := some 3000001 }).bankTime < e) ∧ (busy.bay 47).clearing = false ∧
    (∀ b ∈ [42, 43, 47], ∀ p ∈ [LatchPosition.locked, .locking, .unlocked, .unlocking],
      let s := ((withCandidate busy (2 * b + 1) true).setLatchPosition (2 * b + 1) p).setBay b { busy.bay b with clearing := true }
      s.running = true ∧ (s.bay b).clearing = true ∧ (s.door (2 * b + 1)).candidate = some { closed := true, since := 960000 } ∧
      960000 + 40000 ≤ max s.clock 0 ∧ s.latchPosition (2 * b + 1) = p ∧ (s.bay b).state = (busy.bay b).state) ∧
    (busy.bay 47).state = .vacant :=
  ⟨busy_atRest, by decide +kernel, by decide +kernel, by decide +kernel, ahead (x := 3000001) (by decide +kernel), by decide +kernel,
    by decide +kernel, by decide +kernel⟩

/-- O54: module 10 holds LOADING, LOADING, WITHDRAWN and OUT_OF_SERVICE bays, module 11 VACANT ones; bays 47 and 48. -/
theorem test_hyp_ModulesLockedOutAndRestored :
    busy.AtRest ∧ busy.DirectoryAgrees ∧ [40, 42, 43, 47].map (fun b => (busy.bay b).state) = [.loading, .withdrawn, .outOfService, .vacant] :=
  ⟨busy_atRest, busy_agrees, by decide +kernel⟩

/-- A bank with notices at its first `k` bays. -/
def noticed (k : Nat) : State :=
  (List.range k).foldl (fun s b => s.raiseBay b .ready) (bankAt 5)

/-- O55: twelve bays waiting, and thirteen. -/
theorem test_hyp_StatusGivesUpTheNotices :
    (noticed 12).AtRest ∧ (noticed 13).AtRest ∧ (allBays.filter fun b => (noticed 12).notices b ≠ BayNotices.empty).length = 12 ∧
    (allBays.filter fun b => (noticed 13).notices b ≠ BayNotices.empty).length = 13 :=
  ⟨atRest rfl rfl, atRest rfl rfl, by decide +kernel, by decide +kernel⟩

/-- O56: records of 36, 58, 59 and 254 bytes; with a write in flight and without; a slot in use and free; records in service, EMPTY, with a bad mode and with a bad order. -/
theorem test_hyp_StoreCommands :
    busy.AtRest ∧ (writing (.slot 6) soup).AtRest ∧
    (∀ k ∈ [36, 57, 58, 59, 253, 254], (List.replicate k (0 : Byte)).length = k) ∧
    ((factoryConfiguration.take 37).length = 37 ∧ busy.store.write = none ∧ (writing (.slot 6) soup).store.write.isSome = true) ∧
    (busy.slotInUse 2 = true ∧ busy.slotInUse 15 = false ∧ (List.replicate 23 (0 : Byte)).headD 0 ≠ 0x5A) ∧
    (∀ r ∈ [(soup.take 23, true), ((profileRecord 650 680 800 30 8 3 1 0 15 90 20 6000 0 0).take 23, false)],
      r.1.length = 23 ∧ r.1.headD 0 = 0x5A ∧ fieldOf r.1 9 1 ≤ 3 ∧ temperaturesOrdered (clampFields profileFields r.1).1 = r.2) ∧
    3 < fieldOf ((profileRecord 650 600 800 30 8 4 1 0 15 90 20 6000 0 0).take 23) 9 1 ∧
    (∃ w, (writing (.slot 6) soup).store.write = some w ∧ w.target = .slot 6) :=
  ⟨busy_atRest, atRest rfl rfl, by decide +kernel, by decide +kernel, by decide +kernel, by decide +kernel, by decide +kernel, ⟨_, rfl, rfl⟩⟩

/-- O57: 40 ms and 1 microsecond less, for a slot and for the configuration. -/
theorem test_hyp_StoreWriteCompletes :
    ∀ target ∈ [StoreTarget.slot 15, .configuration], let s := writing target soup
      s.running = true ∧ s.store.write = some ⟨target, soup, 5, 1000000⟩ ∧ max s.clock 1039999 < 1000000 + 40000 ∧
      1000000 + 40000 ≤ max s.clock 1040000 := by decide +kernel

/-- O58: a row during a start; by power and by RESETN, with the retention check agreeing and not, and the configuration good and not. -/
theorem test_hyp_StartsAreWarmOrCold :
    (∀ byReset : Bool, ∀ agrees : Bool, let s := stopped { busy with retentionAgrees := agrees } byReset
      s.store.write = none ∧ s.pins.vdd = byReset ∧ s.pins.resetn = !byReset ∧ s.retentionAgrees = agrees ∧
      checkAgrees 37 s.store.configuration = true ∧ (s.bay 38).state = .withdrawn ∧ (s.bay 27).state = .holding ∧
      (s.bay 27).deadline = some 3052420 ∧ s.bankTime < 3052420) ∧
    checkAgrees 37 (spoilCheck factoryConfiguration) = false ∧
    (∀ cold : Bool, let s := { busy with starting := some cold }
      s.powered = true ∧ s.starting = some cold ∧ (Instr.load 91207 26 0).wellFormed = true ∧
      Instr.isSupply (.load 91207 26 0) = false) := by decide +kernel

/-- O59: a bay in each state, and a COLLECTING one with its front door closed and open. -/
theorem test_hyp_WarmRestartResolvesBays :
    [24, 25, 26, 27, 36, 37, 38, 40, 41, 43, 47].map (fun b => (busy.bay b).state) =
      [.booked, .preheating, .ready, .holding, .releasing, .collecting, .withdrawn, .loading, .loading, .outOfService, .vacant] ∧
    (busy.bay 40).rearOpened = false ∧ (busy.bay 41).rearOpened = true ∧ (busy.door 74).closed = true ∧
    ((withDoor busy 74 .unlocked false).door 74).closed = false := by decide +kernel

/-- O60: with no write in flight, and with one to a slot and to the configuration; with a start in progress. -/
theorem test_hyp_StopsKeepRetention :
    busy.running = true ∧ busy.store.write = none ∧ (writing (.slot 15) soup).running = true ∧
    (writing (.slot 15) soup).store.write = some ⟨.slot 15, soup, 5, 1000000⟩ ∧
    (writing .configuration soup).store.write = some ⟨.configuration, soup, 5, 1000000⟩ ∧ busy.starting = none ∧
    (∀ cold : Bool, let s := { busy with starting := some cold }
      s.powered = true ∧ s.starting = some cold ∧ s.starting.isSome = true ∧ s.retentionAgrees = true) := by decide +kernel

end Sys2Proof.Tests
end

section
/-! Rounds (05, 5.4): what a kept code does to its bay's round in progress. A round in progress is summed up as it grows
(`addSample`), and the statement speaks of the list of samples behind it: `gather_cons` is what ties the two. -/

namespace Sys2Proof.Rounds

open Sys2Proof Sys2Proof.Machine

/-! ### The round in progress after a list of samples (R85) -/

theorem gather_concat (l : List Int) (t : Int) : gather (l ++ [t]) = some (addSample t (gather l)) := by
  simp only [gather, List.foldl_append, List.foldl_cons, List.foldl_nil]

/-- The items of R85 after the samples `t :: l`. -/
def summary (t : Int) (l : List Int) : Samples :=
  { count := l.length + 1, first := t, lowest := l.foldl min t, highest := l.foldl max t, sum := t + l.sum }

theorem summary_count (t : Int) (l : List Int) : (summary t l).count = l.length + 1 := rfl

theorem addSample_summary (t x : Int) (l : List Int) : addSample x (some (summary t l)) = summary t (l ++ [x]) := by
  simp [addSample, summary, add_assoc]

theorem gather_cons (t : Int) (l : List Int) : gather (t :: l) = some (summary t l) := by
  induction l using List.reverseRecOn with
  | nil => simp [gather, addSample, summary]
  | append_singleton l x ih => rw [← List.cons_append, gather_concat, ih, addSample_summary]

/-- R86: the reduction of the gathered items is the reduction of the samples themselves. -/
theorem roundTemperature_summary (m : RoundMode) (t : Int) (l : List Int) :
    roundTemperature m (l.length + 1) (summary t l) = reduced m t l := by
  cases m <;> rfl

/-! ### The count and the mode (R85) -/

theorem reduction_of_idle {s : State} {b : Nat}
    (h : (s.bay b).state = .vacant ∨ (s.bay b).state = .booked ∨ (s.bay b).state = .withdrawn) :
    s.reduction b = (1, .first) := by
  obtain h | h | h := h <;> simp [State.reduction, BayState.group, h]

theorem reduction_of_profile {s : State} {b : Nat} (hout : (s.bay b).state ≠ .outOfService)
    (h : ¬ ((s.bay b).state = .vacant ∨ (s.bay b).state = .booked ∨ (s.bay b).state = .withdrawn)) :
    s.reduction b = ((s.boundProfile b).count, (s.boundProfile b).mode) := by
  have hgroup : (s.bay b).state.group = some .profile := by
    cases hs : (s.bay b).state <;> simp_all [BayState.group]
  exact if_pos hgroup

/-! ### What a kept code does (R86 to R88) -/

theorem isFaultCode_iff (code : Nat) : isFaultCode code = true ↔ code ≤ 7 ∨ 1016 ≤ code := by
  simp [isFaultCode]

theorem takeSample_of_outOfService {s : State} {b : Nat} (code : Nat) (h : (s.bay b).state = .outOfService) :
    s.takeSample b code = s :=
  if_pos h

theorem takeSample_of_fault {s : State} {b code : Nat} (hout : (s.bay b).state ≠ .outOfService)
    (hcode : isFaultCode code = true) : s.takeSample b code = (s.setRound b none).faultRound b := by
  rw [State.takeSample, if_neg hout, if_pos hcode]

section Sample

variable {s : State} {b code : Nat} {l : List Int} (hout : (s.bay b).state ≠ .outOfService)
  (hcode : isFaultCode code = false) (hround : s.scanner.rounds.getD b none = gather l)
include hout hcode hround

/-- A sample joins the samples `l` gathered before it, which then are `t :: rest`; the round goes on or is complete by their number. -/
theorem takeSample_of_sample {t : Int} {rest : List Int} (hall : l ++ [temperatureOf s.config.points code] = t :: rest) :
    s.takeSample b code =
      if (s.reduction b).1 ≤ rest.length + 1 then
        (s.setRound b none).validRound b (roundTemperature (s.reduction b).2 (s.reduction b).1 (summary t rest))
      else s.setRound b (gather (t :: rest)) := by
  have hadd : addSample (temperatureOf s.config.points code) (gather l) = summary t rest := by
    rw [← Option.some_inj, ← gather_concat, hall, gather_cons]
  rw [State.takeSample, if_neg hout, if_neg (by simp [hcode]), hround, gather_cons]
  simp only [hadd, summary_count]

theorem takeSample_gathers (h : (l ++ [temperatureOf s.config.points code]).length < (s.reduction b).1) :
    s.takeSample b code = s.setRound b (gather (l ++ [temperatureOf s.config.points code])) := by
  obtain ⟨t, rest, hall⟩ := List.exists_cons_of_ne_nil (List.concat_ne_nil (temperatureOf s.config.points code) l)
  rw [hall, List.length_cons] at h
  rw [takeSample_of_sample hout hcode hround hall, if_neg (Nat.not_le.mpr h), hall]

theorem takeSample_completes (h : (l ++ [temperatureOf s.config.points code]).length = (s.reduction b).1) :
    s.takeSample b code =
      (s.setRound b none).validRound b
        (reduced (s.reduction b).2 ((l ++ [temperatureOf s.config.points code]).headD 0)
          ((l ++ [temperatureOf s.config.points code]).drop 1)) := by
  obtain ⟨t, rest, hall⟩ := List.exists_cons_of_ne_nil (List.concat_ne_nil (temperatureOf s.config.points code) l)
  rw [hall, List.length_cons] at h
  rw [takeSample_of_sample hout hcode hround hall, if_pos h.ge, ← h, roundTemperature_summary, hall,
    List.headD_cons, List.drop_succ_cons, List.drop_zero]

end Sample

/-- Settles O28: a sample is added to the items of its round, which stand for the list of its samples (`gather_cons`), and the
count and mode of the bay's group decide whether that round is complete. -/
theorem roundCompletes : Obligations.RoundCompletes := by
  refine ⟨fun s b code l _ hcode hout hround => ?_, fun s b code _ => ⟨fun hout hcode => ?_, takeSample_of_outOfService code⟩⟩
  · intro idle count mode all
    have hreduction : s.reduction b = (count, mode) := by
      by_cases hidle : idle
      · simp only [reduction_of_idle hidle, count, mode, if_pos hidle]
      · simp only [reduction_of_profile hout hidle, count, mode, if_neg hidle]
    refine ⟨fun h => ?_, fun h => ?_⟩
    · exact takeSample_gathers hout hcode hround (by rw [hreduction]; exact h)
    · have hdone := takeSample_completes hout hcode hround (by rw [hreduction]; exact h)
      rwa [hreduction] at hdone
  · exact takeSample_of_fault hout ((isFaultCode_iff code).mpr (hcode.imp_right And.left))

end Sys2Proof.Rounds
end

section
/-! The freshness index (6.4). The model computes a side of the index in `Nat`, whose truncated subtraction stands for the
`max 0` of R106; the statement speaks of `Int`. -/

namespace Sys2Proof.Freshness

open Sys2Proof.Machine

theorem indexOf_zero_limit (q : Nat) : indexOf q 0 = 100 :=
  if_pos rfl

theorem indexOf_of_limit {qmax : Nat} (q : Nat) (h : qmax ≠ 0) : indexOf q qmax = 100 - 100 * q / qmax :=
  if_neg h

theorem indexOf_le_hundred (q qmax : Nat) : indexOf q qmax ≤ 100 := by
  by_cases h : qmax = 0
  · rw [h, indexOf_zero_limit]
  · rw [indexOf_of_limit q h]
    exact Nat.sub_le _ _

theorem indexOf_eq_max (q qmax : Nat) :
    (indexOf q qmax : Int) = if qmax = 0 then 100 else max 0 (100 - (100 * q : Int) / qmax) := by
  by_cases h : qmax = 0
  · rw [if_pos h, h, indexOf_zero_limit, Nat.cast_ofNat]
  · have hfloor : ((100 * q / qmax : Nat) : Int) = (100 * q : Int) / qmax := by
      rw [Int.natCast_ediv, Nat.cast_mul, Nat.cast_ofNat]
    rw [if_neg h, indexOf_of_limit q h, ← hfloor]
    omega

/-- Settles O35: each side of the index is R106's (`indexOf_eq_max`), and the cast to `Int` keeps the lesser of the two. -/
theorem freshnessIndex : Obligations.FreshnessIndex := by
  intro s b p side
  constructor
  · calc (s.freshness b : Int)
        = min (indexOf (s.bay b).qCold p.qmaxCold : Int) (indexOf (s.bay b).qHot p.qmaxHot) := Nat.cast_min ..
      _ = min (side (s.bay b).qCold p.qmaxCold) (side (s.bay b).qHot p.qmaxHot) := by
        rw [indexOf_eq_max, indexOf_eq_max]
  · exact (Nat.min_le_left _ _).trans (indexOf_le_hundred _ _)

end Sys2Proof.Freshness
end

section
/-! The allocation order (7.4, R124, R125): the classes of the eligible bays one after the other, each in the order of the bays from
the rotation pointer on. -/

namespace Sys2Proof.Allocation

open Sys2Proof.Machine

/-! ### The bays from the rotation pointer on -/

/-- How many bays on from the rotation pointer `p` a bay stands, wrapping from 47 to 0. -/
def distance (p b : Nat) : Nat := (b + 48 - p) % 48

theorem distance_rotation {p i : Nat} (hp : p < 48) (hi : i < 48) : distance p ((p + i) % 48) = i := by
  unfold distance
  omega

theorem mem_rotated {p b : Nat} (hp : p < 48) : b ∈ rotated p ↔ b < 48 := by
  simp only [rotated, allBays, List.mem_map, List.mem_range]
  constructor
  · rintro ⟨i, -, rfl⟩
    exact Nat.mod_lt _ (by decide)
  · intro hb
    exact ⟨distance p b, Nat.mod_lt _ (by decide), by unfold distance; omega⟩

theorem rotated_pairwise {p : Nat} (hp : p < 48) : (rotated p).Pairwise fun x y => distance p x < distance p y := by
  rw [rotated, allBays, List.pairwise_map]
  refine List.pairwise_lt_range.imp_of_mem fun {i j} hi hj hij => ?_
  rwa [distance_rotation hp (List.mem_range.mp hi), distance_rotation hp (List.mem_range.mp hj)]

/-! ### Eligible bays and their classes -/

variable {s : State}

theorem eligible_iff {b : Nat} :
    s.eligible b = true ↔ (s.bay b).state.heating = true ∧ (s.door (2 * b)).closed = true ∧ (s.door (2 * b + 1)).closed = true := by
  simp only [State.eligible, State.doorsClosed, Bool.and_eq_true]
  rfl

/-- R124: U0, U1 and U2. -/
def rank : HeatClass → Nat
  | .recovery => 0
  | .preheat => 1
  | .maintain => 2

theorem heatRank_eq_rank {b : Nat} (h : (s.bay b).state.heating = true) : heatRank s b = rank (s.heatClass b) := by
  cases hstate : (s.bay b).state with
  | preheating | ready => simp [heatRank, State.heatClass, rank, hstate]
  | holding | releasing =>
    cases htemp : (s.bay b).lastTemp with
    | none => simp [heatRank, State.heatClass, State.belowFloor, rank, hstate, htemp]
    | some t =>
      by_cases ht : t < (s.boundProfile b).floor <;>
        simp [heatRank, State.heatClass, State.belowFloor, rank, hstate, htemp, ht]
  | vacant | booked | loading | collecting | withdrawn | outOfService => simp [BayState.heating, hstate] at h

/-! ### The allocation order -/

theorem mem_classOrder (hp : s.heater.rotation < 48) {c : HeatClass} {b : Nat} :
    b ∈ s.classOrder c ↔ b < 48 ∧ s.eligible b = true ∧ s.heatClass b = c := by
  simp [State.classOrder, mem_rotated hp]

theorem heatRank_of_mem_classOrder (hp : s.heater.rotation < 48) {c : HeatClass} {b : Nat} (h : b ∈ s.classOrder c) :
    heatRank s b = rank c := by
  obtain ⟨-, heligible, hclass⟩ := (mem_classOrder hp).mp h
  rw [heatRank_eq_rank (eligible_iff.mp heligible).1, hclass]

theorem mem_allocationOrder (hp : s.heater.rotation < 48) {b : Nat} :
    b ∈ s.allocationOrder ↔ b < 48 ∧ s.eligible b = true := by
  simp only [State.allocationOrder, List.mem_append, mem_classOrder hp]
  cases s.heatClass b <;> simp

/-- R125: the bay `x` is taken before the bay `y`. -/
def Precedes (s : State) (x y : Nat) : Prop :=
  heatRank s x < heatRank s y ∨
    (heatRank s x = heatRank s y ∧ distance s.heater.rotation x < distance s.heater.rotation y)

theorem Precedes.ne {x y : Nat} (h : Precedes s x y) : x ≠ y := by
  rintro rfl
  simp [Precedes] at h

theorem classOrder_pairwise (hp : s.heater.rotation < 48) (c : HeatClass) : (s.classOrder c).Pairwise (Precedes s) := by
  have hrotated : (s.classOrder c).Pairwise fun x y => distance s.heater.rotation x < distance s.heater.rotation y :=
    (rotated_pairwise hp).filter _
  refine hrotated.imp_of_mem fun hx hy hxy => .inr ⟨?_, hxy⟩
  rw [heatRank_of_mem_classOrder hp hx, heatRank_of_mem_classOrder hp hy]

theorem precedes_of_rank_lt (hp : s.heater.rotation < 48) {c d : HeatClass} (hcd : rank c < rank d) {x y : Nat}
    (hx : x ∈ s.classOrder c) (hy : y ∈ s.classOrder d) : Precedes s x y := by
  left
  rwa [heatRank_of_mem_classOrder hp hx, heatRank_of_mem_classOrder hp hy]

theorem allocationOrder_pairwise (hp : s.heater.rotation < 48) : s.allocationOrder.Pairwise (Precedes s) := by
  rw [State.allocationOrder, List.pairwise_append, List.pairwise_append]
  refine ⟨⟨classOrder_pairwise hp _, classOrder_pairwise hp _, fun x hx y hy => ?_⟩, classOrder_pairwise hp _, fun x hx y hy => ?_⟩
  · exact precedes_of_rank_lt hp (by decide) hx hy
  · obtain hx | hx := List.mem_append.mp hx
    · exact precedes_of_rank_lt hp (by decide) hx hy
    · exact precedes_of_rank_lt hp (by decide) hx hy

theorem allocationOrder_nodup (hp : s.heater.rotation < 48) : s.allocationOrder.Nodup :=
  (allocationOrder_pairwise hp).imp Precedes.ne

/-- Settles O38: a class takes its bays from the rotated list, which ascends in the distance from the pointer, and the classes
are joined in ascending rank. -/
theorem allocationOrder : Obligations.AllocationOrder := by
  intro s hp p
  refine ⟨fun b => ?_, allocationOrder_pairwise hp⟩
  rw [mem_allocationOrder hp, eligible_iff]

end Sys2Proof.Allocation
end

section
/-! The window start (7.4, 7.5, R123, R126, R127, R129). The grants follow the remaining units down the allocation order: a bay
behind bays that demand `d` units together finds `left - d` of the `left` units at its turn, and `min d left` of them laid out. -/

namespace Sys2Proof.Allocation

open Sys2Proof.Machine

/-! ### Grants and runs (R126, R127) -/

section Runs

variable (s : State)

/-- What the bays of a list demand together. -/
def demandOf (bs : List Nat) : Nat := (bs.map fun b => (s.bay b).demand).sum

theorem demandOf_concat (bs : List Nat) (b : Nat) : demandOf s (bs ++ [b]) = demandOf s bs + (s.bay b).demand := by
  simp [demandOf]

/-- The run of a bay granted `g` units at position `n`: none for a grant of 0. -/
def runOf (b n g : Nat) : List HeaterRun := if g = 0 then [] else [{ bay := b, first := n, length := g, cut := false }]

theorem sum_lengths_runOf (b n g : Nat) : ((runOf b n g).map HeaterRun.length).sum = g := by
  by_cases h : g = 0 <;> simp [runOf, h]

theorem bay_of_mem_runOf {b n g : Nat} {r : HeaterRun} (h : r ∈ runOf b n g) : r.bay = b := by
  by_cases hg : g = 0 <;> simp_all [runOf]

theorem layRuns_cons (b : Nat) (bs : List Nat) (left n : Nat) :
    s.layRuns (b :: bs) left n =
      runOf b n (min (s.bay b).demand left) ++
        s.layRuns bs (left - min (s.bay b).demand left) (n + min (s.bay b).demand left) := by
  by_cases h : min (s.bay b).demand left = 0 <;> simp [State.layRuns, runOf, h]

theorem layRuns_append (before after : List Nat) (left n : Nat) :
    s.layRuns (before ++ after) left n =
      s.layRuns before left n ++ s.layRuns after (left - demandOf s before) (n + min (demandOf s before) left) := by
  induction before generalizing left n with
  | nil => simp [State.layRuns, demandOf]
  | cons b bs ih =>
    have hdemand : demandOf s (b :: bs) = (s.bay b).demand + demandOf s bs := by simp [demandOf]
    have hleft : left - min (s.bay b).demand left - demandOf s bs = left - demandOf s (b :: bs) := by omega
    have hnext : n + min (s.bay b).demand left + min (demandOf s bs) (left - min (s.bay b).demand left) =
        n + min (demandOf s (b :: bs)) left := by omega
    rw [List.cons_append, layRuns_cons, layRuns_cons, ih, hleft, hnext, List.append_assoc]

theorem bay_mem_of_mem_layRuns {bs : List Nat} {left n : Nat} {r : HeaterRun} (h : r ∈ s.layRuns bs left n) : r.bay ∈ bs := by
  induction bs generalizing left n with
  | nil => simp [State.layRuns] at h
  | cons b bs ih =>
    rw [layRuns_cons, List.mem_append] at h
    obtain h | h := h
    · exact List.mem_cons.mpr (.inl (bay_of_mem_runOf h))
    · exact List.mem_cons_of_mem _ (ih h)

theorem filter_layRuns_of_notMem {bs : List Nat} {b : Nat} (left n : Nat) (h : b ∉ bs) :
    ((s.layRuns bs left n).filter fun r => r.bay = b) = [] := by
  rw [List.filter_eq_nil_iff]
  intro r hr hb
  exact h (of_decide_eq_true hb ▸ bay_mem_of_mem_layRuns s hr)

/-- R127: a bay that stands once in the order has the one run of its grant, begun where the runs ahead of it end. -/
theorem filter_layRuns {before after : List Nat} {b : Nat} (left n : Nat) (h : (before ++ b :: after).Nodup) :
    ((s.layRuns (before ++ b :: after) left n).filter fun r => r.bay = b) =
      runOf b (n + min (demandOf s before) left) (min (s.bay b).demand (left - demandOf s before)) := by
  obtain ⟨hother, -⟩ := List.nodup_cons.mp (List.nodup_middle.mp h)
  obtain ⟨hbefore, hafter⟩ := not_or.mp (mt List.mem_append.mpr hother)
  have hown : ∀ m g, ((runOf b m g).filter fun r => r.bay = b) = runOf b m g := fun m g =>
    List.filter_eq_self.mpr fun r hr => decide_eq_true (bay_of_mem_runOf hr)
  rw [layRuns_append, layRuns_cons, List.filter_append, List.filter_append, filter_layRuns_of_notMem s _ _ hbefore,
    filter_layRuns_of_notMem s _ _ hafter, hown, List.nil_append, List.append_nil]

/-- R126: g = min(D, R). -/
theorem grantTo_layRuns {before after : List Nat} {b : Nat} (left n : Nat) (h : (before ++ b :: after).Nodup) :
    grantTo (s.layRuns (before ++ b :: after) left n) b = min (s.bay b).demand (left - demandOf s before) := by
  rw [grantTo, filter_layRuns s left n h, sum_lengths_runOf]

/-- R126: the grants ahead of a place in the order use the units demanded ahead of it, as far as there are units. -/
theorem sum_grants_layRuns {before after : List Nat} (left n : Nat) (h : (before ++ after).Nodup) :
    (before.map (grantTo (s.layRuns (before ++ after) left n))).sum = min (demandOf s before) left := by
  induction before using List.reverseRecOn generalizing after with
  | nil => simp [demandOf]
  | append_singleton before b ih =>
    rw [List.append_assoc, List.singleton_append] at h ⊢
    rw [List.map_append, List.sum_append, List.map_singleton, List.sum_singleton, ih h, grantTo_layRuns s left n h,
      demandOf_concat]
    omega

end Runs

/-! ### Gates (R129) -/

theorem covers_iff {r : HeaterRun} {h : Nat} (hh : h < 16) :
    r.covers h = true ↔ ∃ n, r.first ≤ n ∧ n < r.first + r.length ∧ n % 16 = h := by
  rw [HeaterRun.covers, decide_eq_true_eq]
  constructor
  · intro hlt
    exact ⟨r.first + (h + 16 - r.first % 16) % 16, by omega, by omega, by omega⟩
  · rintro ⟨n, hfirst, hlast, rfl⟩
    omega

theorem litIn_iff {schedule : List HeaterRun} {h b : Nat} (hh : h < 16) :
    litIn schedule h b = true ↔ ∃ r ∈ schedule, r.bay = b ∧ r.cut = false ∧
      ∃ n, r.first ≤ n ∧ n < r.first + r.length ∧ n % 16 = h := by
  simp only [litIn, List.any_eq_true, Bool.and_eq_true, decide_eq_true_eq, Bool.not_eq_true', covers_iff hh, and_assoc]

theorem beginHalfCycle_gate {s : State} (h : Nat) {b : Nat} (hrun : s.running = true) (hb : b < 48) :
    (s.beginHalfCycle h).gate b = litIn s.heater.schedule h b := by
  have hstill : (s.beginHalfCycle h).running = true := hrun
  rw [State.gate, hstill]
  simp [State.beginHalfCycle, Vector.getD, hb]

/-! ### The window start -/

section WindowStart

variable (s : State)

theorem adoptBudget_frame :
    s.adoptBudget = { s with heater := { s.heater with budget := s.adoptBudget.heater.budget } } := by
  unfold State.adoptBudget
  split <;> rfl

theorem adoptBudget_budget :
    s.adoptBudget.heater.budget = if s.energised ≤ (budgetOf s.config).lmaxEff then budgetOf s.config else s.heater.budget := by
  unfold State.adoptBudget
  split <;> rfl

theorem startWindow_budget :
    s.startWindow.heater.budget = if s.energised ≤ (budgetOf s.config).lmaxEff then budgetOf s.config else s.heater.budget :=
  adoptBudget_budget s

/-- R126: the grants read the demands, and of the Heater Allocator's own record nothing. -/
theorem layRuns_of_heater (heater : HeaterAllocator) (bs : List Nat) (left n : Nat) :
    State.layRuns { s with heater := heater } bs left n = s.layRuns bs left n := by
  induction bs generalizing left n with
  | nil => rfl
  | cons b bs ih => rw [layRuns_cons, layRuns_cons, ih]; rfl

/-- R125: the order reads the rotation pointer, and of the budget nothing. -/
theorem allocationOrder_of_budget (budget : Budget) :
    State.allocationOrder { s with heater := { s.heater with budget := budget } } = s.allocationOrder := rfl

theorem startWindow_schedule :
    s.startWindow.heater.schedule = s.layRuns s.allocationOrder (16 * s.startWindow.heater.budget.h) 0 := by
  have hlaid : s.startWindow.heater.schedule =
      s.adoptBudget.layRuns s.adoptBudget.allocationOrder (16 * s.startWindow.heater.budget.h) 0 := rfl
  rw [hlaid, adoptBudget_frame, layRuns_of_heater, allocationOrder_of_budget]

theorem startWindow_frame :
    s.startWindow = { s with
      mains := { s.mains with position := some 0 }
      heater := { s.heater with
        budget := s.startWindow.heater.budget, schedule := s.startWindow.heater.schedule, gates := s.startWindow.heater.gates } } := by
  unfold State.startWindow
  rw [adoptBudget_frame]
  rfl

theorem startWindow_gate_iff {b : Nat} (hrun : s.running = true) (hb : b < 48) :
    s.startWindow.gate b = true ↔ ∃ r ∈ s.startWindow.heater.schedule, r.bay = b ∧ r.cut = false ∧
      ∃ n, r.first ≤ n ∧ n < r.first + r.length ∧ n % 16 = 0 := by
  have hadopt : s.adoptBudget.running = true := by
    rw [adoptBudget_frame]
    exact hrun
  rw [← litIn_iff (by decide)]
  exact Bool.eq_iff_iff.mp (beginHalfCycle_gate 0 hadopt hb)

end WindowStart

/-- Settles O39: each place in the allocation order finds the units that the demands ahead of it leave (`filter_layRuns`,
`sum_grants_layRuns`), since the order holds no bay twice. -/
theorem windowStartAllocates : Obligations.WindowStartAllocates := by
  intro s hrun t wanted units
  have hschedule : t.heater.schedule = s.layRuns s.allocationOrder units 0 := startWindow_schedule s
  refine ⟨startWindow_frame s, startWindow_budget s, fun before after b hp horder => ?_, fun r hr => ?_, fun b hb => ?_⟩
  · have hnodup := allocationOrder_nodup hp
    rw [horder] at hnodup hschedule
    intro used
    have hused : used = min (demandOf s before) units := by
      simp only [used, hschedule, sum_grants_layRuns s units 0 hnodup]
    have hgrant : grantTo t.heater.schedule b = min (s.bay b).demand (units - demandOf s before) := by
      rw [hschedule, grantTo_layRuns s units 0 hnodup]
    refine ⟨by omega, by omega, ?_⟩
    rw [hgrant, hused, hschedule, filter_layRuns s units 0 hnodup, Nat.zero_add]
    rfl
  · exact bay_mem_of_mem_layRuns s (hschedule ▸ hr)
  · exact startWindow_gate_iff s hrun hb

end Sys2Proof.Allocation
end

section

-- One proof at a time: the proofs here together ask for more threads than the memory limit leaves room for.
set_option Elab.async false

/-! Courses of bays: what every change of a bay record, of its notices, its heater run and its latch requests is made of. A `Move`
is one such change with what it keeps, a `Course` is several; the shared operations are courses, and the frames and the
invariants follow from them. -/

namespace Sys2Proof.Courses

open Sys2Proof Sys2Proof.Machine

/-! ### Vocabulary -/

/-- R139: the states in which a bay's front latch may stand released. -/
def Handed (st : BayState) : Prop := st = .releasing ∨ st = .collecting

/-- R139: the front latch of a bay that is not handed out: locked or on its way there, or its door open after a failed lock, and no UNLOCK
pending. -/
structure FrontSettled (s : State) (b : Nat) : Prop where
  unlocked : (s.latchPosition (2 * b)).side = .unlock →
    (∃ r ∈ s.latch.queue, r.door = 2 * b ∧ r.action = .lock) ∨ (s.latchRecord (2 * b)).openAfterFailedLock = true
  waiting : ∀ r ∈ s.latch.queue, r.door = 2 * b → r.action ≠ .unlock

/-- What a course is held to: to the directory's agreement with the records, and to the return of the front latches. A start resolves bays
whose latches it relocks afterwards, and BOOK, AMEND and CANCEL change entries. -/
structure Rules where
  directory : Prop
  fronts : Prop

/-- A record change keeps the figures of R1 in their ranges. -/
def KeepsRange (r r' : Bay) : Prop := r.InRange → r'.InRange

/-- The record that a change of bay `b` by `f` writes (R4). -/
def changed (r : Bay) (f : Bay → Bay) : Bay := { f r with demand := demandAfter r.state (f r) }

/-- R139: a bay that ceases to be handed out has its front latch returned. -/
def FrontKept (s : State) (b : Nat) (st : BayState) : Prop :=
  Handed (s.bay b).state → ¬ Handed st → FrontSettled s b

/-- One change of bay `b`. -/
inductive Move (g : Rules) (b : Nat) (s : State) : State → Prop
  | write (r : Bay) (state : r.state = (s.bay b).state) (entry : g.directory → r.entry = (s.bay b).entry)
      (range : KeepsRange (s.bay b) r) : Move g b s (s.setBay b r)
  | change (f : Bay → Bay) (range : KeepsRange (s.bay b) (changed (s.bay b) f))
      (entry : g.directory → (f (s.bay b)).entry = (s.bay b).entry ∧ (f (s.bay b)).state.resting = (s.bay b).state.resting ∧
        ((s.bay b).state = .withdrawn → (f (s.bay b)).state = .withdrawn))
      (front : g.fronts → FrontKept s b (f (s.bay b)).state) : Move g b s (s.changeBay b f)
  | leave (f : Bay → Bay) (range : KeepsRange (s.bay b) (changed (s.bay b) f))
      (entry : (f (s.bay b)).entry = none ∧ (f (s.bay b)).state.resting = true)
      (front : g.fronts → FrontKept s b (f (s.bay b)).state) : Move g b s ((s.leaveEntry b).changeBay b f)
  | notice (n : BayNotice) : Move g b s (s.raiseBay b n)
  | mark : Move g b s (s.markDiscard b)
  | cut : Move g b s (s.cutRun b)
  | request (d : Nat) (a : LatchAction) (c : RequestClass) (own : bayOfDoor d = b) (exists' : d < 96) (lock : a = .lock → c = .lock)
      (front : g.fronts → d = 2 * b → a = .unlock → Handed (s.bay b).state) : Move g b s (s.request d a c)
  | withdraw (d : Nat) (a : LatchAction) (own : bayOfDoor d = b)
      (front : g.fronts → d = 2 * b → a = .lock → Handed (s.bay b).state) : Move g b s (s.withdrawRequest d a)

/-- Changes of the bays of a list, one after another. -/
def Course (g : Rules) (bs : List Nat) : State → State → Prop :=
  Relation.ReflTransGen fun s t => ∃ b ∈ bs, Move g b s t

section

variable {g : Rules} {b : Nat} {bs : List Nat} {s t u : State}

theorem Move.course (h : Move g b s t) : Course g [b] s t := .single ⟨b, List.mem_singleton_self b, h⟩

theorem Course.refl (g : Rules) (bs : List Nat) (s : State) : Course g bs s s := Relation.ReflTransGen.refl

theorem Course.trans (h : Course g bs s t) (h' : Course g bs t u) : Course g bs s u := Relation.ReflTransGen.trans h h'

theorem Course.mono {bs' : List Nat} (h : Course g bs s t) (hsub : ∀ b ∈ bs, b ∈ bs') : Course g bs' s t :=
  Relation.ReflTransGen.mono (fun _ _ ⟨b, hb, hm⟩ => ⟨b, hsub b hb, hm⟩) _ _ h

theorem Course.of_single (h : Course g [b] s t) (hb : b ∈ bs) : Course g bs s t :=
  h.mono fun _ hc => (List.mem_singleton.mp hc).symm ▸ hb

/-- A course over a list, from a course for each of its bays. -/
theorem Course.forBays (f : State → Nat → State) (P : State → Prop) (hs : P s)
    (h : ∀ b ∈ bs, ∀ s, P s → P (f s b) ∧ Course g [b] s (f s b)) : Course g bs s (s.forBays bs f) := by
  suffices ∀ l, (∀ b ∈ l, b ∈ bs) → ∀ s, P s → Course g bs s (s.forBays l f) from this bs (fun _ h => h) s hs
  intro l
  induction l with
  | nil => exact fun _ s _ => Course.refl g bs s
  | cons b l ih =>
    intro hsub s hp
    obtain ⟨hp', hc⟩ := h b (hsub b (List.mem_cons_self ..)) s hp
    exact (hc.of_single (hsub b (List.mem_cons_self ..))).trans (ih (fun c hc => hsub c (List.mem_cons_of_mem _ hc)) _ hp')

theorem Course.forBays' (f : State → Nat → State) (h : ∀ b ∈ bs, ∀ s, Course g [b] s (f s b)) : Course g bs s (s.forBays bs f) :=
  Course.forBays f (fun _ => True) trivial fun b hb s _ => ⟨trivial, h b hb s⟩

end

/-! ### What latch operations read -/

/-- R141: a request satisfied at once leaves the Latch Arbiter. -/
theorem satisfied_latch (s : State) (d : Nat) (a : LatchAction) : (s.satisfied d a).latch = s.latch := by
  cases a
  · rfl
  · simp only [State.satisfied]
    rw [State.unlockCompletion_frame]

section

variable {s t : State} (h : s.latch = t.latch) (d : Nat)
include h

theorem pendingFor_congr : s.pendingFor d = t.pendingFor d := by unfold State.pendingFor; rw [h]
theorem latchRecord_congr : s.latchRecord d = t.latchRecord d := by unfold State.latchRecord; rw [h]
theorem latchPosition_congr : s.latchPosition d = t.latchPosition d := by
  unfold State.latchPosition; rw [latchRecord_congr h]
theorem pulseRuns_congr : s.pulseRuns d = t.pulseRuns d := by unfold State.pulseRuns; rw [h]

/-- R142: a withdrawal reads the Latch Arbiter alone. -/
theorem withdrawRequest_latch_congr (a : LatchAction) : (s.withdrawRequest d a).latch = (t.withdrawRequest d a).latch := by
  unfold State.withdrawRequest
  rw [pendingFor_congr h]
  split
  · split
    · simp only [State.dropRequest, State.setLatchQueue_latch, h]
    · exact h
  · exact h

/-- R141: what a request does to the Latch Arbiter reads the Latch Arbiter alone. -/
theorem request_latch_congr (a : LatchAction) (c : RequestClass) : (s.request d a c).latch = (t.request d a c).latch := by
  unfold State.request
  rw [pendingFor_congr h, latchPosition_congr h]
  split
  · split
    · simp only [pulseRuns_congr h]
      split
      · exact h
      · rw [satisfied_latch, satisfied_latch, h]
    · simp only [State.enqueue, h]
  · split
    · simp only [pulseRuns_congr h]
      split
      · simp only [State.dropRequest, State.setLatchQueue_latch, h]
      · rw [satisfied_latch, satisfied_latch]
        simp only [State.dropRequest, State.setLatchQueue_latch, h]
    · simp only [State.mergeRequest, State.dropRequest, State.setLatchQueue_latch, h]

theorem requestLock_latch_congr : (s.requestLock d).latch = (t.requestLock d).latch := request_latch_congr h d .lock .lock

/-- R168: the return of a front latch reads the Latch Arbiter alone. -/
theorem returnFrontLatch_latch_congr (b : Nat) : (s.returnFrontLatch b).latch = (t.returnFrontLatch b).latch := by
  unfold State.returnFrontLatch
  rw [latchPosition_congr h]
  split
  · exact withdrawRequest_latch_congr h _ _
  · exact requestLock_latch_congr h _

end

/-! ### Changes of a record do not read the latches -/

/-- A state with another Latch Arbiter. -/
def withLatch (s : State) (l : LatchArbiter) : State := { s with latch := l }

section

variable (s : State) (b : Nat) (l : LatchArbiter)

@[simp] theorem withLatch_bay : (withLatch s l).bay b = s.bay b := rfl
@[simp] theorem withLatch_scanner : (withLatch s l).scanner = s.scanner := rfl
@[simp] theorem withLatch_latch : (withLatch s l).latch = l := rfl
@[simp] theorem withLatch_self : withLatch s s.latch = s := rfl
@[simp] theorem withLatch_twice (l' : LatchArbiter) : withLatch (withLatch s l) l' = withLatch s l' := rfl

theorem changeBay_withLatch (f : Bay → Bay) : (withLatch s l).changeBay b f = withLatch (s.changeBay b f) l := by
  rw [State.changeBay_frame, State.changeBay_frame]
  rfl

theorem leaveEntry_withLatch : (withLatch s l).leaveEntry b = withLatch (s.leaveEntry b) l := by
  unfold State.leaveEntry
  rw [withLatch_bay]
  cases (s.bay b).entry <;> rfl

theorem markDiscard_withLatch : (withLatch s l).markDiscard b = withLatch (s.markDiscard b) l := by
  unfold State.markDiscard
  rw [withLatch_scanner]
  cases s.scanner.conversion.any fun c => c.bay = b <;> rfl

theorem raiseBay_withLatch (n : BayNotice) : (withLatch s l).raiseBay b n = withLatch (s.raiseBay b n) l := rfl

/-- R161, R180: a completion reads nothing of the Latch Arbiter. -/
theorem unlockCompletion_withLatch (d : Nat) : (withLatch s l).unlockCompletion d = withLatch (s.unlockCompletion d) l := by
  unfold State.unlockCompletion
  cases sideOfDoor d
  · dsimp only
    rw [withLatch_bay]
    split <;> rfl
  · dsimp only
    rw [withLatch_bay]
    split
    · rfl
    · split <;> rfl

theorem enterWithdrawn_withLatch (why : WithdrawReason) :
    (withLatch s l).enterWithdrawn b why = withLatch (s.enterWithdrawn b why) l := by
  unfold State.enterWithdrawn
  rw [changeBay_withLatch, raiseBay_withLatch]

theorem sendToVacant_withLatch : (withLatch s l).sendToVacant b = withLatch (s.sendToVacant b) l := by
  unfold State.sendToVacant State.enterOutOfService State.enterVacant
  simp only [leaveEntry_withLatch, changeBay_withLatch, markDiscard_withLatch, withLatch_bay]
  split
  · rfl
  · split <;> rfl

theorem changeBay_latch (f : Bay → Bay) : (s.changeBay b f).latch = s.latch := by
  rw [State.changeBay_frame]

theorem enterWithdrawn_latch (why : WithdrawReason) : (s.enterWithdrawn b why).latch = s.latch := changeBay_latch s b _

theorem sendToVacant_latch : (s.sendToVacant b).latch = s.latch := by
  have h := congrArg State.latch (sendToVacant_withLatch s b s.latch)
  exact h

theorem returnFrontLatch_eq_withLatch : s.returnFrontLatch b = withLatch s (s.returnFrontLatch b).latch :=
  s.returnFrontLatch_frame b

theorem requestLock_eq_withLatch (d : Nat) : s.requestLock d = withLatch s (s.requestLock d).latch :=
  s.requestLock_frame d

theorem withdrawRequest_eq_withLatch (d : Nat) (a : LatchAction) :
    s.withdrawRequest d a = withLatch s (s.withdrawRequest d a).latch := by
  rw [State.withdrawRequest_frame]
  rfl

/-- R168: the return of the front latch and the change of record may be taken in either order. -/
theorem withdrawHeld_of_releasing (why : WithdrawReason) (h : (s.bay b).state = .releasing) :
    s.withdrawHeld b why = (s.returnFrontLatch b).enterWithdrawn b why := by
  rw [State.withdrawHeld, if_pos h, returnFrontLatch_eq_withLatch s, enterWithdrawn_withLatch,
    returnFrontLatch_eq_withLatch (s.enterWithdrawn b why), returnFrontLatch_latch_congr (enterWithdrawn_latch s b why)]

theorem withdrawHeld_of_ne_releasing (why : WithdrawReason) (h : (s.bay b).state ≠ .releasing) :
    s.withdrawHeld b why = s.enterWithdrawn b why := if_neg h

end

end Sys2Proof.Courses
end

section

-- One proof at a time: the proofs here together ask for more threads than the memory limit leaves room for.
set_option Elab.async false

/-! The shared operations as courses of bays. -/

namespace Sys2Proof.Courses

open Sys2Proof Sys2Proof.Machine

/-! ### Records in range -/

theorem demandAfter_le {old : BayState} {new : Bay} (h : new.demand ≤ 16) : demandAfter old new ≤ 16 := by
  unfold demandAfter
  split
  · split
    · exact h
    · exact Nat.le_refl 16
  · exact Nat.zero_le 16

/-- R4: a change of state gives a demand in range. -/
theorem changed_inRange {r : Bay} {f : Bay → Bay} (demand : (f r).demand ≤ 16) (streak : (f r).faultStreak ≤ 3)
    (cold : (f r).qCold ≤ 16777215) (hot : (f r).qHot ≤ 16777215)
    (uncharged : (f r).state.holdsDeficits = false → (f r).qCold = 0 ∧ (f r).qHot = 0) : (changed r f).InRange where
  streak := streak
  demand := demandAfter_le demand
  unheated h := if_neg (by rw [changed] at h; simp_all)
  cold := cold
  hot := hot
  uncharged := uncharged

/-- A change that leaves the figures, and enters no state without deficits from one with them. -/
theorem keepsRange_of_figures {r : Bay} {f : Bay → Bay} (demand : (f r).demand = r.demand ∨ (f r).demand ≤ 16)
    (streak : (f r).faultStreak = r.faultStreak) (cold : (f r).qCold = r.qCold) (hot : (f r).qHot = r.qHot)
    (held : (f r).state.holdsDeficits = false → r.state.holdsDeficits = false) : KeepsRange r (changed r f) := fun hr =>
  changed_inRange (demand.elim (fun h => h ▸ hr.demand) id) (streak ▸ hr.streak) (cold ▸ hr.cold) (hot ▸ hr.hot)
    fun h => by rw [cold, hot]; exact hr.uncharged (held h)

/-- A change that empties the deficits. -/
theorem keepsRange_of_emptied {r : Bay} {f : Bay → Bay} (demand : (f r).demand = r.demand ∨ (f r).demand ≤ 16)
    (streak : (f r).faultStreak = r.faultStreak) (cold : (f r).qCold = 0) (hot : (f r).qHot = 0) :
    KeepsRange r (changed r f) := fun hr =>
  changed_inRange (demand.elim (fun h => h ▸ hr.demand) id) (streak ▸ hr.streak) (by omega) (by omega) fun _ => ⟨cold, hot⟩

/-- A write that leaves the figures and the state. -/
theorem keepsRange_of_same {r r' : Bay} (state : r'.state = r.state) (streak : r'.faultStreak = r.faultStreak)
    (demand : r'.demand = r.demand) (cold : r'.qCold = r.qCold) (hot : r'.qHot = r.qHot) : KeepsRange r r' := by
  intro hr
  constructor
  · rw [streak]; exact hr.streak
  · rw [demand]; exact hr.demand
  · rw [demand, state]; exact hr.unheated
  · rw [cold]; exact hr.cold
  · rw [hot]; exact hr.hot
  · rw [cold, hot, state]; exact hr.uncharged

/-! ### Single moves -/

section

variable {g : Rules} (s : State) (b : Nat)

/-- A write of fields other than the figures, the state and the entry. -/
theorem write_course (r : Bay) (state : r.state = (s.bay b).state := by rfl) (entry : r.entry = (s.bay b).entry := by rfl)
    (streak : r.faultStreak = (s.bay b).faultStreak := by rfl) (demand : r.demand = (s.bay b).demand := by rfl)
    (cold : r.qCold = (s.bay b).qCold := by rfl) (hot : r.qHot = (s.bay b).qHot := by rfl) :
    Course g [b] s (s.setBay b r) :=
  (Move.write r state (fun _ => entry) (keepsRange_of_same state streak demand cold hot)).course

theorem raiseBay_course (n : BayNotice) : Course g [b] s (s.raiseBay b n) := (Move.notice n).course

/-- A change of state between two states whose bays belong to an entry, the figures left alone. -/
theorem change_course (f : Bay → Bay) (demand : (f (s.bay b)).demand = (s.bay b).demand ∨ (f (s.bay b)).demand ≤ 16)
    (streak : (f (s.bay b)).faultStreak = (s.bay b).faultStreak) (cold : (f (s.bay b)).qCold = (s.bay b).qCold)
    (hot : (f (s.bay b)).qHot = (s.bay b).qHot)
    (held : (f (s.bay b)).state.holdsDeficits = false → (s.bay b).state.holdsDeficits = false)
    (entry : (f (s.bay b)).entry = (s.bay b).entry) (rests : (f (s.bay b)).state.resting = (s.bay b).state.resting)
    (withdrawn : (s.bay b).state = .withdrawn → (f (s.bay b)).state = .withdrawn)
    (front : g.fronts → FrontKept s b (f (s.bay b)).state) : Course g [b] s (s.changeBay b f) :=
  (Move.change f (keepsRange_of_figures demand streak cold hot held) (fun _ => ⟨entry, rests, withdrawn⟩) front).course

/-- A bay that was not handed out keeps its front latch returned. -/
theorem frontKept_of_not_handed {s : State} {b : Nat} (st : BayState) (h : ¬ Handed (s.bay b).state) : FrontKept s b st :=
  fun hh => absurd hh h

theorem frontKept_of_handed {s : State} {b : Nat} {st : BayState} (h : Handed st) : FrontKept s b st :=
  fun _ hn => absurd h hn

theorem markDiscard_course : Course g [b] s (s.markDiscard b) := Move.mark.course

theorem vacated_keepsRange (r : Bay) : KeepsRange r (changed r Bay.vacated) :=
  keepsRange_of_emptied (.inr (Nat.zero_le 16)) rfl rfl rfl

theorem outOfService_keepsRange (r : Bay) (why : OosReason) : KeepsRange r (changed r (·.outOfService why)) :=
  keepsRange_of_emptied (.inr (Nat.zero_le 16)) rfl rfl rfl

theorem enterVacant_course (front : g.fronts → FrontKept s b .vacant) : Course g [b] s (s.enterVacant b) :=
  (Move.leave Bay.vacated (vacated_keepsRange _) ⟨rfl, rfl⟩ front).course

theorem enterOutOfService_course (why : OosReason) (front : g.fronts → FrontKept s b .outOfService) :
    Course g [b] s (s.enterOutOfService b why) :=
  (Move.leave (·.outOfService why) (outOfService_keepsRange _ why) ⟨rfl, rfl⟩ front).course.trans (markDiscard_course _ b)

/-- R7: the end of a bay's course. -/
theorem sendToVacant_course (front : g.fronts → FrontKept s b .vacant) : Course g [b] s (s.sendToVacant b) := by
  have frontOut : g.fronts → FrontKept s b .outOfService := fun hg hh _ => front hg hh (by simp [Handed])
  unfold State.sendToVacant
  split
  · exact enterOutOfService_course s b .lockout frontOut
  · split
    · exact enterOutOfService_course s b .sensor frontOut
    · exact enterVacant_course s b front

/-- R161, R180. -/
theorem unlockCompletion_course {d : Nat} (own : bayOfDoor d = b) : Course g [b] s (s.unlockCompletion d) := by
  subst own
  unfold State.unlockCompletion
  cases sideOfDoor d
  · dsimp only
    split
    · exact write_course s _ _
    · exact Course.refl ..
  · dsimp only
    split
    · exact write_course s _ _
    · split
      · exact write_course s _ _
      · exact Course.refl ..

theorem request_course {d : Nat} (a : LatchAction) (c : RequestClass) (own : bayOfDoor d = b) (exists' : d < 96)
    (lock : a = .lock → c = .lock) (front : g.fronts → d = 2 * b → a = .unlock → Handed (s.bay b).state) :
    Course g [b] s (s.request d a c) := (Move.request d a c own exists' lock front).course

theorem bayOfDoor_front : bayOfDoor (doorOf b .front) = b := by simp [bayOfDoor, doorOf]

theorem bayOfDoor_rear : bayOfDoor (doorOf b .rear) = b := by simp only [bayOfDoor, doorOf]; omega

theorem requestLock_course {d : Nat} (own : bayOfDoor d = b) (exists' : d < 96) : Course g [b] s (s.requestLock d) :=
  request_course s b .lock .lock own exists' (fun _ => rfl) (fun _ _ h => nomatch h)

theorem withdrawUnlock_course {d : Nat} (own : bayOfDoor d = b) : Course g [b] s (s.withdrawRequest d .unlock) :=
  (Move.withdraw d .unlock own (fun _ _ h => nomatch h)).course

theorem returnFrontLatch_course (hb : b < 48) : Course g [b] s (s.returnFrontLatch b) := by
  unfold State.returnFrontLatch
  split
  · exact withdrawUnlock_course s b (bayOfDoor_front b)
  · exact requestLock_course s b (bayOfDoor_front b) (by simp only [doorOf]; omega)

end

/-! ### The front latch returned (R139, R168) -/

section

variable {s : State} {d : Nat}

theorem mem_insertRequest {x r : LatchRequest} {q : List LatchRequest} : x ∈ insertRequest r q ↔ x = r ∨ x ∈ q := by
  induction q with
  | nil => simp [insertRequest]
  | cons y ys ih =>
    unfold insertRequest
    split
    · simp
    · simp only [List.mem_cons, ih]
      tauto

theorem pendingFor_some {r : LatchRequest} (h : s.pendingFor d = some r) : r ∈ s.latch.queue ∧ r.door = d :=
  ⟨List.mem_of_find?_eq_some h, by simpa using List.find?_some h⟩

theorem pendingFor_none (h : s.pendingFor d = none) : ∀ r ∈ s.latch.queue, r.door ≠ d := by
  simpa [State.pendingFor] using h

/-- At most one request waits for a door. -/
theorem eq_of_door_eq (hq : s.QueueOrdered) {r r' : LatchRequest} (h : r ∈ s.latch.queue) (h' : r' ∈ s.latch.queue)
    (hd : r.door = r'.door) : r = r' :=
  List.inj_on_of_nodup_map (f := LatchRequest.door) (List.pairwise_map.mpr hq.doors) h h' hd

theorem pendingFor_eq_some (hq : s.QueueOrdered) {r : LatchRequest} (h : r ∈ s.latch.queue) (hd : r.door = d) :
    s.pendingFor d = some r := by
  cases hp : s.pendingFor d with
  | none => exact absurd hd (pendingFor_none hp r h)
  | some r' =>
    obtain ⟨hm, hd'⟩ := pendingFor_some hp
    rw [eq_of_door_eq hq hm h (hd'.trans hd.symm)]

/-- R142: no request of an action is left once it has been withdrawn. -/
theorem not_mem_withdrawRequest (hq : s.QueueOrdered) (a : LatchAction) :
    ∀ r ∈ (s.withdrawRequest d a).latch.queue, r.door = d → r.action ≠ a := by
  intro r hr hd
  unfold State.withdrawRequest at hr
  cases hp : s.pendingFor d with
  | none =>
    rw [hp] at hr
    exact absurd hd (pendingFor_none hp r hr)
  | some p =>
    rw [hp] at hr
    dsimp only at hr
    split at hr
    · simp [State.dropRequest, hd] at hr
    · next ha =>
      rw [pendingFor_eq_some hq hr hd] at hp
      cases hp
      exact ha

theorem withdrawRequest_record (a : LatchAction) (e : Nat) : (s.withdrawRequest d a).latchRecord e = s.latchRecord e := by
  rw [State.withdrawRequest_frame]
  rfl

theorem request_record (a : LatchAction) (c : RequestClass) (e : Nat) : (s.request d a c).latchRecord e = s.latchRecord e := by
  rw [State.request_frame]
  rfl

theorem requestLock_record (e : Nat) : (s.requestLock d).latchRecord e = s.latchRecord e := request_record ..

theorem requestLock_position (e : Nat) : (s.requestLock d).latchPosition e = s.latchPosition e :=
  congrArg LatchRecord.position (requestLock_record e)

theorem withdrawRequest_position (a : LatchAction) (e : Nat) : (s.withdrawRequest d a).latchPosition e = s.latchPosition e :=
  congrArg LatchRecord.position (withdrawRequest_record a e)

/-- R141: the queue after a request for the side that the record is at or driven to. -/
theorem request_queue_here {a : LatchAction} (c : RequestClass) (h : a = (s.latchPosition d).side) :
    (s.request d a c).latch.queue = s.latch.queue.filter (·.door ≠ d) := by
  unfold State.request
  cases hp : s.pendingFor d with
  | none =>
    have hall : s.latch.queue.filter (·.door ≠ d) = s.latch.queue :=
      List.filter_eq_self.mpr fun r hr => decide_eq_true (pendingFor_none hp r hr)
    dsimp only
    rw [if_pos h, hall]
    split
    · rfl
    · rw [satisfied_latch]
  | some r =>
    dsimp only
    rw [if_pos h]
    split
    · rfl
    · rw [satisfied_latch]
      rfl

/-- R141: the queue after a request for the other side, none pending. -/
theorem request_of_free {a : LatchAction} (c : RequestClass) (h : a ≠ (s.latchPosition d).side) (hp : s.pendingFor d = none) :
    s.request d a c = s.enqueue d a c := by
  simp only [State.request, hp, if_neg h]

/-- R141: the queue after a request for the other side, merged. -/
theorem request_of_pending {a : LatchAction} (c : RequestClass) {r : LatchRequest} (h : a ≠ (s.latchPosition d).side)
    (hp : s.pendingFor d = some r) : s.request d a c = s.mergeRequest r c := by
  simp only [State.request, hp, if_neg h]

/-- After a LOCK request against the unlocked side a LOCK is pending. -/
theorem lock_pending_of_requestLock (hl : ∀ r ∈ s.latch.queue, r.action ≠ (s.latchPosition r.door).side)
    (h : (s.latchPosition d).side = .unlock) : ∃ r ∈ (s.requestLock d).latch.queue, r.door = d ∧ r.action = .lock := by
  have hne : LatchAction.lock ≠ (s.latchPosition d).side := by rw [h]; decide
  unfold State.requestLock
  cases hp : s.pendingFor d with
  | none =>
    rw [request_of_free _ hne hp]
    exact ⟨_, mem_insertRequest.mpr (.inl rfl), rfl, rfl⟩
  | some r =>
    obtain ⟨hr, hd⟩ := pendingFor_some hp
    have ha := hl r hr
    rw [hd, h] at ha
    rw [request_of_pending _ hne hp]
    refine ⟨_, mem_insertRequest.mpr (.inl rfl), hd, ?_⟩
    cases hact : r.action
    · rfl
    · exact absurd hact ha

/-- R139, R141: a LOCK request leaves no UNLOCK pending for its door. -/
theorem no_unlock_of_requestLock (hq : s.QueueOrdered) (hl : ∀ r ∈ s.latch.queue, r.action ≠ (s.latchPosition r.door).side) :
    ∀ r ∈ (s.requestLock d).latch.queue, r.door = d → r.action ≠ .unlock := by
  intro r hr hd
  by_cases h : (s.latchPosition d).side = .lock
  · rw [State.requestLock, request_queue_here _ h.symm] at hr
    simp [hd] at hr
  · have hu : (s.latchPosition d).side = .unlock := by cases hs : (s.latchPosition d).side <;> simp_all
    have hne : LatchAction.lock ≠ (s.latchPosition d).side := by rw [hu]; decide
    have old : ∀ p ∈ s.latch.queue, p.door = d → p.action ≠ .unlock := fun p hp hpd => by
      have := hl p hp
      rwa [hpd, hu] at this
    unfold State.requestLock at hr
    cases hp : s.pendingFor d with
    | none =>
      rw [request_of_free _ hne hp] at hr
      obtain rfl | hr := mem_insertRequest.mp hr
      · exact LatchAction.noConfusion
      · exact old r hr hd
    | some p =>
      obtain ⟨hpm, hpd⟩ := pendingFor_some hp
      rw [request_of_pending _ hne hp] at hr
      obtain rfl | hr := mem_insertRequest.mp hr
      · exact old p hpm hpd
      · exact old r (List.mem_of_mem_filter hr) hd

theorem requestLock_settles {b : Nat} (hq : s.QueueOrdered) (hl : s.LatchesAgree) :
    FrontSettled (s.requestLock (2 * b)) b where
  unlocked h := .inl (lock_pending_of_requestLock hl.opposite (by rwa [requestLock_position] at h))
  waiting := no_unlock_of_requestLock hq hl.opposite

theorem withdrawUnlock_settles {b : Nat} (hq : s.QueueOrdered) (h : (s.latchPosition (2 * b)).side = .lock) :
    FrontSettled (s.withdrawRequest (2 * b) .unlock) b where
  unlocked h' := by rw [withdrawRequest_position, h] at h'; cases h'
  waiting := not_mem_withdrawRequest hq .unlock

/-- R168 returns the front latch. -/
theorem returnFrontLatch_settles {b : Nat} (hq : s.QueueOrdered) (hl : s.LatchesAgree) : FrontSettled (s.returnFrontLatch b) b := by
  unfold State.returnFrontLatch
  cases h : (s.latchPosition (doorOf b .front)).side
  · exact withdrawUnlock_settles hq h
  · exact requestLock_settles hq hl

end

end Sys2Proof.Courses
end

section

-- One proof at a time: the proofs here together ask for more threads than the memory limit leaves room for.
set_option Elab.async false

/-! The Latch Arbiter through a course of bays (R139 to R142): the queue stays ordered, and requests and records agree. -/

namespace Sys2Proof.Courses

open Sys2Proof Sys2Proof.Machine

/-! ### The order of the queue (R140) -/

theorem precedes_iff {a b : LatchRequest} :
    a.precedes b = true ↔ a.cls.rank < b.cls.rank ∨ (a.cls.rank = b.cls.rank ∧ a.arrival < b.arrival) := by
  simp [LatchRequest.precedes]

theorem precedes_trans {a b c : LatchRequest} (h : a.precedes b = true) (h' : b.precedes c = true) : a.precedes c = true := by
  rw [precedes_iff] at *
  omega

theorem precedes_of_not {a b : LatchRequest} (h : ¬ a.precedes b = true) (hne : a.arrival ≠ b.arrival) :
    b.precedes a = true := by
  rw [precedes_iff] at *
  omega

theorem insertRequest_order {r : LatchRequest} {q : List LatchRequest} (hq : q.Pairwise fun a b => a.precedes b = true)
    (hr : ∀ x ∈ q, r.arrival ≠ x.arrival) : (insertRequest r q).Pairwise fun a b => a.precedes b = true := by
  induction q with
  | nil => simp [insertRequest]
  | cons y ys ih =>
    obtain ⟨hy, hys⟩ := List.pairwise_cons.mp hq
    unfold insertRequest
    split
    · next hry =>
      refine List.pairwise_cons.mpr ⟨fun x hx => ?_, hq⟩
      obtain rfl | hx := List.mem_cons.mp hx
      · exact hry
      · exact precedes_trans hry (hy x hx)
    · next hry =>
      refine List.pairwise_cons.mpr ⟨fun x hx => ?_, ih hys fun x hx => hr x (List.mem_cons_of_mem _ hx)⟩
      obtain rfl | hx := mem_insertRequest.mp hx
      · exact precedes_of_not hry (hr y (List.mem_cons_self ..))
      · exact hy x hx

/-- An insertion into a list any two of whose members differ, of something that differs from them all. -/
theorem insertRequest_pairwise {R : LatchRequest → LatchRequest → Prop} (hsymm : ∀ a b, R a b → R b a) {r : LatchRequest}
    {q : List LatchRequest} (hq : q.Pairwise R) (hr : ∀ x ∈ q, R r x) : (insertRequest r q).Pairwise R := by
  induction q with
  | nil => simp [insertRequest]
  | cons y ys ih =>
    obtain ⟨hy, hys⟩ := List.pairwise_cons.mp hq
    unfold insertRequest
    split
    · exact List.pairwise_cons.mpr ⟨hr, hq⟩
    · refine List.pairwise_cons.mpr ⟨fun x hx => ?_, ih hys fun x hx => hr x (List.mem_cons_of_mem _ hx)⟩
      obtain rfl | hx := mem_insertRequest.mp hx
      · exact hsymm _ _ (hr y (List.mem_cons_self ..))
      · exact hy x hx

/-- The invariant of the queue, of the queue and the arrivals given out. -/
structure Ordered (q : List LatchRequest) (n : Nat) : Prop where
  order : q.Pairwise fun a b => a.precedes b = true
  doors : q.Pairwise fun a b => a.door ≠ b.door
  arrivals : q.Pairwise fun a b => a.arrival ≠ b.arrival
  given : ∀ r ∈ q, r.arrival < n

theorem queueOrdered_iff {s : State} : s.QueueOrdered ↔ Ordered s.latch.queue s.latch.nextArrival :=
  ⟨fun ⟨a, b, c, d⟩ => ⟨a, b, c, d⟩, fun ⟨a, b, c, d⟩ => ⟨a, b, c, d⟩⟩

theorem Ordered.sublist {q q' : List LatchRequest} {n : Nat} (h : Ordered q n) (hs : q'.Sublist q) : Ordered q' n :=
  ⟨h.order.sublist hs, h.doors.sublist hs, h.arrivals.sublist hs, fun r hr => h.given r (hs.subset hr)⟩

theorem Ordered.insert {q : List LatchRequest} {n m : Nat} (h : Ordered q n) {r : LatchRequest}
    (door : ∀ x ∈ q, r.door ≠ x.door) (arrival : ∀ x ∈ q, r.arrival ≠ x.arrival) (hr : r.arrival < m) (hm : n ≤ m) :
    Ordered (insertRequest r q) m where
  order := insertRequest_order h.order arrival
  doors := insertRequest_pairwise (fun _ _ => Ne.symm) h.doors door
  arrivals := insertRequest_pairwise (fun _ _ => Ne.symm) h.arrivals arrival
  given x hx := by
    obtain rfl | hx := mem_insertRequest.mp hx
    · exact hr
    · exact lt_of_lt_of_le (h.given x hx) hm

theorem queueOrdered_congr {s t : State} (hq : t.latch.queue = s.latch.queue) (hn : t.latch.nextArrival = s.latch.nextArrival)
    (h : s.QueueOrdered) : t.QueueOrdered := by
  rw [queueOrdered_iff] at h ⊢
  rwa [hq, hn]

theorem queueOrdered_of_sublist {s t : State} (hq : t.latch.queue.Sublist s.latch.queue)
    (hn : t.latch.nextArrival = s.latch.nextArrival) (h : s.QueueOrdered) : t.QueueOrdered := by
  rw [queueOrdered_iff] at h ⊢
  rw [hn]
  exact h.sublist hq

theorem request_nextArrival_here {s : State} {d : Nat} {a : LatchAction} (c : RequestClass) (h : a = (s.latchPosition d).side) :
    (s.request d a c).latch.nextArrival = s.latch.nextArrival := by
  unfold State.request
  cases s.pendingFor d with
  | none =>
    dsimp only
    rw [if_pos h]
    split
    · rfl
    · rw [satisfied_latch]
  | some r =>
    dsimp only
    rw [if_pos h]
    split
    · rfl
    · rw [satisfied_latch]
      rfl

theorem request_queueOrdered {s : State} (d : Nat) (a : LatchAction) (c : RequestClass) (h : s.QueueOrdered) :
    (s.request d a c).QueueOrdered := by
  by_cases hside : a = (s.latchPosition d).side
  · refine queueOrdered_of_sublist ?_ (request_nextArrival_here c hside) h
    rw [request_queue_here c hside]
    exact List.filter_sublist
  · cases hp : s.pendingFor d with
    | none =>
      rw [request_of_free c hside hp, queueOrdered_iff]
      exact (queueOrdered_iff.mp h).insert (fun x hx => (pendingFor_none hp x hx).symm) (fun x hx => (h.given x hx).ne')
        (Nat.lt_succ_self _) (Nat.le_succ _)
    | some r =>
      obtain ⟨hr, hd⟩ := pendingFor_some hp
      rw [request_of_pending c hside hp, queueOrdered_iff]
      have hrest := (queueOrdered_iff.mp h).sublist (List.filter_sublist (p := fun x => decide (x.door ≠ r.door)))
      have hout : ∀ x ∈ s.latch.queue.filter fun x => decide (x.door ≠ r.door), x ∈ s.latch.queue ∧ x.door ≠ r.door := by
        intro x hx
        simpa using hx
      refine hrest.insert (fun x hx => (hout x hx).2.symm) (fun x hx heq => ?_) (h.given r hr) (Nat.le_refl _)
      exact (hout x hx).2 (congrArg LatchRequest.door (List.inj_on_of_nodup_map (f := LatchRequest.arrival)
        (List.pairwise_map.mpr h.arrivals) hr (hout x hx).1 heq)).symm

theorem withdrawRequest_sublist {s : State} (d : Nat) (a : LatchAction) :
    (s.withdrawRequest d a).latch.queue.Sublist s.latch.queue := by
  unfold State.withdrawRequest
  split
  · split
    · exact List.filter_sublist
    · exact List.Sublist.refl _
  · exact List.Sublist.refl _

theorem withdrawRequest_nextArrival {s : State} (d : Nat) (a : LatchAction) :
    (s.withdrawRequest d a).latch.nextArrival = s.latch.nextArrival := by
  rw [State.withdrawRequest_frame]

theorem withdrawRequest_queueOrdered {s : State} (d : Nat) (a : LatchAction) (h : s.QueueOrdered) :
    (s.withdrawRequest d a).QueueOrdered :=
  queueOrdered_of_sublist (withdrawRequest_sublist d a) (withdrawRequest_nextArrival d a) h

/-! ### Records, pulses and requests (R139, R140) -/

/-- A request of the queue after a request is an old one, with its class raised at most, or the new one. -/
theorem mem_request_queue {s : State} {d : Nat} {a : LatchAction} {c : RequestClass} {r : LatchRequest}
    (hr : r ∈ (s.request d a c).latch.queue) :
    (∃ p ∈ s.latch.queue, p.door = r.door ∧ p.action = r.action) ∨
      (r.door = d ∧ r.action = a ∧ a ≠ (s.latchPosition d).side) := by
  by_cases hside : a = (s.latchPosition d).side
  · rw [request_queue_here c hside] at hr
    exact .inl ⟨r, List.mem_of_mem_filter hr, rfl, rfl⟩
  · cases hp : s.pendingFor d with
    | none =>
      rw [request_of_free c hside hp] at hr
      obtain rfl | hr := mem_insertRequest.mp hr
      · exact .inr ⟨rfl, rfl, hside⟩
      · exact .inl ⟨r, hr, rfl, rfl⟩
    | some p =>
      rw [request_of_pending c hside hp] at hr
      obtain rfl | hr := mem_insertRequest.mp hr
      · exact .inl ⟨p, (pendingFor_some hp).1, rfl, rfl⟩
      · exact .inl ⟨r, List.mem_of_mem_filter hr, rfl, rfl⟩

/-- Records and channels the same, and no request that is new in its door and action but for the side opposite its record's. -/
theorem latchesAgree_of_queue {s t : State} (records : t.latch.records = s.latch.records)
    (channels : t.latch.channels = s.latch.channels)
    (queue : ∀ r ∈ t.latch.queue, (∃ p ∈ s.latch.queue, p.door = r.door ∧ p.action = r.action) ∨
      (r.door < 96 ∧ r.action ≠ (s.latchPosition r.door).side)) (h : s.LatchesAgree) : t.LatchesAgree := by
  have hpos : ∀ d, t.latchPosition d = s.latchPosition d := fun d => by
    simp only [State.latchPosition, State.latchRecord, records]
  have hdrives : ∀ d a, t.Drives d a ↔ s.Drives d a := fun d a => by simp only [State.Drives, channels]
  refine ⟨fun d hd => ?_, ?_, fun r hr => ?_, fun r hr => ?_, ?_⟩
  · rw [hpos, hdrives, hdrives]
    exact h.moving d hd
  · rw [channels]
    exact h.single
  · rw [hpos]
    obtain ⟨p, hp, hd, ha⟩ | ⟨-, ha⟩ := queue r hr
    · rw [← hd, ← ha]
      exact h.opposite p hp
    · exact ha
  · obtain ⟨p, hp, hd, -⟩ | ⟨hd, -⟩ := queue r hr
    · rw [← hd]
      exact h.doors.1 p hp
    · exact hd
  · rw [channels]
    exact h.doors.2

theorem latchesAgree_congr {s t : State} (h : t.latch = s.latch) (hs : s.LatchesAgree) : t.LatchesAgree :=
  latchesAgree_of_queue (by rw [h]) (by rw [h]) (fun r hr => .inl ⟨r, h ▸ hr, rfl, rfl⟩) hs

theorem request_latchesAgree {s : State} {d : Nat} (a : LatchAction) (c : RequestClass) (hd : d < 96) (h : s.LatchesAgree) :
    (s.request d a c).LatchesAgree := by
  refine latchesAgree_of_queue (by rw [State.request_frame]) (by rw [State.request_frame]) (fun r hr => ?_) h
  refine (mem_request_queue hr).imp_right ?_
  rintro ⟨rfl, rfl, hside⟩
  exact ⟨hd, hside⟩

theorem withdrawRequest_latchesAgree {s : State} (d : Nat) (a : LatchAction) (h : s.LatchesAgree) :
    (s.withdrawRequest d a).LatchesAgree :=
  latchesAgree_of_queue (by rw [State.withdrawRequest_frame]) (by rw [State.withdrawRequest_frame])
    (fun r hr => .inl ⟨r, (withdrawRequest_sublist d a).subset hr, rfl, rfl⟩) h

/-- The Latch Arbiter is ordered and agrees with its records. -/
structure Agreed (s : State) : Prop where
  queue : s.QueueOrdered
  latches : s.LatchesAgree

theorem agreed_congr {s t : State} (h : t.latch = s.latch) (hs : Agreed s) : Agreed t :=
  ⟨queueOrdered_congr (by rw [h]) (by rw [h]) hs.queue, latchesAgree_congr h hs.latches⟩

section

variable {g : Rules} {b : Nat} {bs : List Nat} {s t : State}

theorem leaveEntry_latch : (s.leaveEntry b).latch = s.latch := by rw [State.leaveEntry_frame]

theorem markDiscard_latch : (s.markDiscard b).latch = s.latch := by rw [State.markDiscard_frame]

/-- A move leaves the Latch Arbiter, or makes or withdraws a request. -/
theorem Move.latch_cases (h : Move g b s t) : t.latch = s.latch ∨ (∃ d a c, d < 96 ∧ t = s.request d a c) ∨
    ∃ d a, t = s.withdrawRequest d a := by
  cases h with
  | write | notice | cut => exact .inl rfl
  | change f => exact .inl (changeBay_latch ..)
  | leave f => exact .inl ((changeBay_latch ..).trans leaveEntry_latch)
  | mark => exact .inl markDiscard_latch
  | request d a c own exists' => exact .inr (.inl ⟨d, a, c, exists', rfl⟩)
  | withdraw d a => exact .inr (.inr ⟨d, a, rfl⟩)

theorem Move.queueOrdered (h : Move g b s t) (hs : s.QueueOrdered) : t.QueueOrdered := by
  obtain h | ⟨d, a, c, -, rfl⟩ | ⟨d, a, rfl⟩ := h.latch_cases
  · exact queueOrdered_congr (by rw [h]) (by rw [h]) hs
  · exact request_queueOrdered d a c hs
  · exact withdrawRequest_queueOrdered d a hs

theorem Move.latchesAgree (h : Move g b s t) (hs : s.LatchesAgree) : t.LatchesAgree := by
  obtain h | ⟨d, a, c, hd, rfl⟩ | ⟨d, a, rfl⟩ := h.latch_cases
  · exact latchesAgree_congr h hs
  · exact request_latchesAgree a c hd hs
  · exact withdrawRequest_latchesAgree d a hs

/-- What every move keeps, every course keeps. -/
theorem Course.keeps {P : State → Prop} (hP : ∀ b ∈ bs, ∀ s t, Move g b s t → P s → P t) (h : Course g bs s t) (hs : P s) : P t := by
  induction h with
  | refl => exact hs
  | tail _ hm ih =>
    obtain ⟨b, hb, hm⟩ := hm
    exact hP b hb _ _ hm ih

theorem Course.queueOrdered (h : Course g bs s t) (hs : s.QueueOrdered) : t.QueueOrdered :=
  h.keeps (fun _ _ _ _ hm => hm.queueOrdered) hs

theorem Course.latchesAgree (h : Course g bs s t) (hs : s.LatchesAgree) : t.LatchesAgree :=
  h.keeps (fun _ _ _ _ hm => hm.latchesAgree) hs

theorem Course.agreed (h : Course g bs s t) (hs : Agreed s) : Agreed t := ⟨h.queueOrdered hs.queue, h.latchesAgree hs.latches⟩

end

end Sys2Proof.Courses
end

section

-- One proof at a time: the proofs here together ask for more threads than the memory limit leaves room for.
set_option Elab.async false

/-! Courses leave the rest of the state. -/

namespace Sys2Proof.Machine.BaysOnly

variable {s t : State} (h : BaysOnly s t)
include h

theorem agrees : t.retentionAgrees = s.retentionAgrees := by rw [h]
theorem doors : t.doors = s.doors := by rw [h]
theorem mains : t.mains = s.mains := by rw [h]
theorem starting : t.starting = s.starting := by rw [h]
theorem pins : t.pins = s.pins := by rw [h]
theorem clock : t.clock = s.clock := by rw [h]
theorem bankTime : t.bankTime = s.bankTime := by rw [h]
theorem config : t.config = s.config := by rw [h]
theorem store : t.store = s.store := by rw [h]
theorem link : t.link = s.link := by rw [h]
theorem records : t.latch.records = s.latch.records := by rw [h]
theorem channels : t.latch.channels = s.latch.channels := by rw [h]
theorem budget : t.heater.budget = s.heater.budget := by rw [h]
theorem conversion : t.scanner.conversion = s.scanner.conversion := by rw [h]

theorem running : t.running = s.running := by
  unfold State.running State.powered
  rw [pins h, starting h]

theorem door (d : Nat) : t.door d = s.door d := by
  unfold State.door
  rw [doors h]

theorem latchRecord (d : Nat) : t.latchRecord d = s.latchRecord d := by
  unfold State.latchRecord
  rw [records h]

theorem latchPosition (d : Nat) : t.latchPosition d = s.latchPosition d := by
  unfold State.latchPosition
  rw [latchRecord h]

theorem energised : t.energised = s.energised := by
  unfold State.energised
  rw [channels h]

end Sys2Proof.Machine.BaysOnly

namespace Sys2Proof.Courses

open Sys2Proof Sys2Proof.Machine

variable {g : Rules} {b : Nat} {bs : List Nat} {s t : State}

theorem Move.baysOnly (h : Move g b s t) : BaysOnly s t := by
  cases h with
  | write r => exact s.setBay_baysOnly b r
  | change f => exact s.changeBay_baysOnly b f
  | leave f => exact (s.leaveEntry_baysOnly b).trans (State.changeBay_baysOnly _ b f)
  | notice n => exact s.raiseBay_baysOnly b n
  | mark => exact s.markDiscard_baysOnly b
  | cut => exact s.cutRun_baysOnly b
  | request d a c => exact s.request_baysOnly d a c
  | withdraw d a => exact s.withdrawRequest_baysOnly d a

theorem Course.baysOnly (h : Course g bs s t) : BaysOnly s t := by
  induction h with
  | refl => exact BaysOnly.refl s
  | tail _ hm ih =>
    obtain ⟨b, -, hm⟩ := hm
    exact ih.trans hm.baysOnly

end Sys2Proof.Courses
end

section

-- One proof at a time: the proofs here together ask for more threads than the memory limit leaves room for.
set_option Elab.async false

/-! The shared operations as courses of bays, continued: holds, releases, loading, clearing, rounds. -/

namespace Sys2Proof.Courses

open Sys2Proof Sys2Proof.Machine

variable {g : Rules} (s : State) (b : Nat)

/-! ### What the moves leave of the records -/

@[simp] theorem raiseBay_bay (n : BayNotice) (c : Nat) : (s.raiseBay b n).bay c = s.bay c := rfl

theorem withdrawRequest_bay (d : Nat) (a : LatchAction) (c : Nat) : (s.withdrawRequest d a).bay c = s.bay c := by
  rw [State.withdrawRequest_frame]
  rfl

theorem requestLock_bay (d c : Nat) : (s.requestLock d).bay c = s.bay c := by
  rw [State.requestLock_frame]
  rfl

theorem returnFrontLatch_bay (c : Nat) : (s.returnFrontLatch b).bay c = s.bay c := by
  rw [State.returnFrontLatch_frame]
  rfl

/-- A write that keeps the state, the entry and the ranges. -/
theorem set_course (r : Bay) (state : r.state = (s.bay b).state) (entry : r.entry = (s.bay b).entry)
    (range : KeepsRange (s.bay b) r) : Course g [b] s (s.setBay b r) :=
  (Move.write r state (fun _ => entry) range).course

variable {s b}

/-- A bay of the table: only a bay of the part can be in another state than VACANT. -/
theorem lt_of_state_ne (h : (s.bay b).state ≠ .vacant) : b < 48 := by
  by_contra hb
  exact h (by rw [s.bay_of_le b (Nat.not_lt.mp hb)]; rfl)

theorem lt_of_state {st : BayState} (h : (s.bay b).state = st) (hne : st ≠ .vacant := by decide) : b < 48 :=
  lt_of_state_ne (h ▸ hne)

theorem not_handed_of_state {st : BayState} (h : (s.bay b).state = st) (hne : st ≠ .releasing ∧ st ≠ .collecting := by decide) :
    ¬ Handed (s.bay b).state := by
  rw [h]
  exact fun hh => hh.elim hne.1 hne.2

theorem not_handed_of_waiting (h : (s.bay b).state = .booked ∨ (s.bay b).state = .preheating ∨ (s.bay b).state = .ready) :
    ¬ Handed (s.bay b).state := by
  obtain h | h | h := h
  · exact not_handed_of_state h
  · exact not_handed_of_state h
  · exact not_handed_of_state h

theorem frontSettled_congr {t : State} (h : t.latch = s.latch) (hs : FrontSettled s b) : FrontSettled t b := by
  refine ⟨fun hu => ?_, fun r hr => hs.waiting r (h ▸ hr)⟩
  rw [latchPosition_congr h] at hu
  rw [h, latchRecord_congr h]
  exact hs.unlocked hu

theorem changeBay_state (f : Bay → Bay) (hb : b < 48) : ((s.changeBay b f).bay b).state = (f (s.bay b)).state := by
  rw [State.changeBay_bay_self _ _ _ hb]

/-! ### Leaving and entering a hold -/

theorem enterWithdrawn_course (why : WithdrawReason) (live : (s.bay b).state.resting = false)
    (front : g.fronts → FrontKept s b .withdrawn) : Course g [b] s (s.enterWithdrawn b why) :=
  (change_course s b (·.withdrawnFor why) (.inl rfl) rfl rfl rfl (fun h => nomatch h) rfl live.symm (fun _ => rfl) front).trans
    (raiseBay_course _ b _)

theorem withdrawHeld_course (why : WithdrawReason) (held : (s.bay b).state = .holding ∨ (s.bay b).state = .releasing)
    (hs : g.fronts → Agreed s) : Course g [b] s (s.withdrawHeld b why) := by
  have live : (s.bay b).state.resting = false := by obtain h | h := held <;> rw [h] <;> rfl
  by_cases hst : (s.bay b).state = .releasing
  · rw [withdrawHeld_of_releasing s b why hst]
    refine (returnFrontLatch_course s b (lt_of_state hst)).trans (enterWithdrawn_course why ?_ fun hg _ _ => ?_)
    · rw [returnFrontLatch_bay]
      exact live
    · exact returnFrontLatch_settles (hs hg).queue (hs hg).latches
  · rw [withdrawHeld_of_ne_releasing s b why hst]
    exact enterWithdrawn_course why live fun _ => frontKept_of_not_handed _ (not_handed_of_state (held.resolve_right hst))

theorem enterPreheating_course (h : (s.bay b).state = .booked) : Course g [b] s (s.enterPreheating b) :=
  change_course s b _ (.inl rfl) rfl rfl rfl (fun _ => by rw [h]; rfl) rfl (by rw [h]; rfl) (fun h' => by rw [h] at h'; cases h')
    fun _ => frontKept_of_not_handed _ (not_handed_of_state h)

theorem preheatIfReached_course (h : (s.bay b).state = .booked) : Course g [b] s (s.preheatIfReached b) := by
  unfold State.preheatIfReached
  split
  · exact enterPreheating_course h
  · exact Course.refl ..

theorem beginCollection_course (h : (s.bay b).state = .holding ∨ (s.bay b).state = .releasing) :
    Course g [b] s (s.beginCollection b) := by
  have live : (s.bay b).state.resting = false := by obtain h | h := h <;> rw [h] <;> rfl
  exact change_course s b _ (.inl rfl) rfl rfl rfl (fun h => nomatch h) rfl live.symm
    (fun h' => by rw [h'] at h; exact absurd h (by decide)) fun _ => frontKept_of_handed (.inr rfl)

theorem releaseBay_course (h : (s.bay b).state = .holding) : Course g [b] s (s.releaseBay b) := by
  have hb : b < 48 := lt_of_state h
  have hst : ((s.changeBay b fun r => { r with state := .releasing }).bay b).state = .releasing := changeBay_state _ hb
  have hreleased : Course g [b] s (s.changeBay b fun r => { r with state := .releasing }) :=
    change_course s b (fun r => { r with state := .releasing }) (.inl rfl) rfl rfl rfl (fun h => nomatch h) rfl
      (by rw [h]; rfl) (fun h' => by rw [h] at h'; cases h') fun _ => frontKept_of_handed (.inl rfl)
  unfold State.releaseBay
  generalize (s.changeBay b fun r => { r with state := .releasing }) = u at hst hreleased ⊢
  refine hreleased.trans ?_
  dsimp only
  split
  · exact request_course _ b _ _ (bayOfDoor_front b) (by simp only [doorOf]; omega) (fun h => nomatch h)
      fun _ _ _ => .inl hst
  · exact beginCollection_course (.inr hst)

theorem releaseEntry_course (e : Entry) : Course g e.bays s (s.releaseEntry e) :=
  Course.forBays' _ fun b _ s => by
    split
    · next h => exact releaseBay_course h
    · exact Course.refl ..

/-- R166, as its bay's own course: its front latch is returned by the relock test of the same step. -/
theorem endCollection_course (hg : ¬ g.fronts) : Course g [b] s (s.endCollection b) :=
  ((raiseBay_course s b _).trans (sendToVacant_course _ b fun h => absurd h hg)).trans
    (withdrawUnlock_course _ b (bayOfDoor_front b))

theorem releaseTimerEnds_course (h : (s.bay b).state = .releasing) (hs : g.fronts → Agreed s) :
    Course g [b] s (s.releaseTimerEnds b) := by
  have hb : b < 48 := lt_of_state h
  have hlocked : Course g [b] s ((s.requestLock (doorOf b .front)).raiseBay b .releaseTimeout) :=
    (requestLock_course s b (bayOfDoor_front b) (by simp only [doorOf]; omega)).trans (raiseBay_course _ b _)
  have hbay : ((s.requestLock (doorOf b .front)).raiseBay b .releaseTimeout).bay b = s.bay b := requestLock_bay ..
  have hheld : Course g [b] s (((s.requestLock (doorOf b .front)).raiseBay b .releaseTimeout).changeBay b fun r =>
      { r with state := .holding, timer := none }) := by
    refine hlocked.trans (change_course _ b _ (.inl rfl) rfl rfl rfl (fun h => nomatch h) rfl (by rw [hbay, h]; rfl)
      (fun h' => by rw [hbay, h] at h'; cases h') fun hg _ _ => ?_)
    exact frontSettled_congr (s := s.requestLock (2 * b)) rfl (requestLock_settles (hs hg).queue (hs hg).latches)
  unfold State.releaseTimerEnds
  dsimp only
  split
  · exact hheld.trans (withdrawHeld_course _ (.inl (changeBay_state _ hb)) fun hg => hheld.agreed (hs hg))
  · exact hheld

/-! ### Loading -/

theorem beginHold_course (h : (s.bay b).state = .loading) : Course g [b] s (s.beginHold b) := by
  have hb : b < 48 := lt_of_state h
  have hheld : Course g [b] s (s.changeBay b (·.heldFrom s.bankTime (s.boundProfile b).maxHold)) :=
    (Move.change _ (keepsRange_of_emptied (.inl rfl) rfl rfl rfl)
      (fun _ => ⟨rfl, by rw [h]; rfl, fun h' => by rw [h] at h'; cases h'⟩)
      fun _ => frontKept_of_not_handed _ (not_handed_of_state h)).course
  exact (hheld.trans (raiseBay_course _ b _)).trans
    (requestLock_course _ b (bayOfDoor_rear b) (by simp only [doorOf]; omega))

theorem lapse_course (h : ¬ Handed (s.bay b).state) : Course g [b] s (s.lapse b) :=
  (raiseBay_course s b _).trans (sendToVacant_course _ b fun _ => frontKept_of_not_handed _ h)

theorem abandonLoading_course (h : (s.bay b).state = .loading) : Course g [b] s (s.abandonLoading b) := by
  have hb : b < 48 := lt_of_state h
  have hbay : (s.requestLock (doorOf b .rear)).bay b = s.bay b := requestLock_bay ..
  have hback : ∀ st : BayState, st = .ready ∨ st = .preheating →
      Course g [b] s ((s.requestLock (doorOf b .rear)).changeBay b fun r => { r with state := st, timer := none }) := by
    intro st hst
    refine (requestLock_course s b (bayOfDoor_rear b) (by simp only [doorOf]; omega)).trans
      (change_course _ b _ (.inl rfl) rfl rfl rfl (fun _ => by rw [hbay, h]; rfl) rfl ?_
        (fun h' => by rw [hbay, h] at h'; cases h') fun _ => frontKept_of_not_handed _ (not_handed_of_state (hbay ▸ h)))
    rw [hbay, h]
    obtain rfl | rfl := hst <;> rfl
  have hstate : ∀ st : BayState, (((s.requestLock (doorOf b .rear)).changeBay b fun r =>
      { r with state := st, timer := none }).bay b).state = st := fun st => changeBay_state _ hb
  unfold State.abandonLoading
  cases s.warmEnough b
  · simp only [Bool.false_eq_true, if_false]
    split
    · exact (hback .preheating (.inr rfl)).trans (lapse_course (not_handed_of_state (hstate _)))
    · exact hback .preheating (.inr rfl)
  · simp only [if_true]
    have hnoted := (hback .ready (.inl rfl)).trans (raiseBay_course _ b .ready)
    split
    · exact hnoted.trans (lapse_course (not_handed_of_state (hstate .ready)))
    · exact hnoted

theorem loadWindowEnds_course (h : (s.bay b).state = .loading) : Course g [b] s (s.loadWindowEnds b) := by
  unfold State.loadWindowEnds
  split
  · exact write_course s b _
  · exact abandonLoading_course h

theorem returnRearLatch_course (hb : b < 48) : Course g [b] s (s.returnRearLatch b) := by
  have hdrop : Course g [b] s (s.withdrawRequest (doorOf b .rear) .unlock) := withdrawUnlock_course s b (bayOfDoor_rear b)
  unfold State.returnRearLatch
  dsimp only
  split
  · exact hdrop.trans (requestLock_course _ b (bayOfDoor_rear b) (by simp only [doorOf]; omega))
  · exact hdrop

theorem returnRearLatch_bay (c : Nat) : (s.returnRearLatch b).bay c = s.bay c := by
  unfold State.returnRearLatch
  dsimp only
  split
  · rw [requestLock_bay, withdrawRequest_bay]
  · rw [withdrawRequest_bay]

/-! ### Cancelling, clearing, modules -/

theorem rear_ne_front (c : Nat) : doorOf b .rear ≠ 2 * c := by simp only [doorOf]; omega

theorem cancelLoading_course (h : (s.bay b).state = .loading) : Course g [b] s (s.cancelLoading b) := by
  have hb : b < 48 := lt_of_state h
  unfold State.cancelLoading
  split
  · refine ((enterWithdrawn_course .cancelled (by rw [h]; rfl) fun _ => frontKept_of_not_handed _ (not_handed_of_state h)).trans
      (write_course _ b _)).trans (request_course _ b _ _ (bayOfDoor_rear b) (by simp only [doorOf]; omega) (fun h => nomatch h)
        fun _ hd => absurd hd (rear_ne_front b))
  · refine (returnRearLatch_course hb).trans (sendToVacant_course _ b fun _ => frontKept_of_not_handed _ ?_)
    rw [returnRearLatch_bay]
    exact not_handed_of_state h

theorem cancelBay_course : Course g [b] s (s.cancelBay b) := by
  unfold State.cancelBay
  cases h : (s.bay b).state with
  | booked | preheating | ready =>
    exact sendToVacant_course s b fun _ => frontKept_of_not_handed _ (not_handed_of_state h)
  | loading => exact cancelLoading_course h
  | holding => exact enterWithdrawn_course _ (by rw [h]; rfl) fun _ => frontKept_of_not_handed _ (not_handed_of_state h)
  | vacant | releasing | collecting | withdrawn | outOfService => exact Course.refl ..

theorem endClearing_course : Course g [b] s (s.endClearing b) := by
  have hwritten : Course g [b] s (s.setBay b { s.bay b with clearing := false, timer := none }) := write_course s b _
  unfold State.endClearing
  generalize s.setBay b { s.bay b with clearing := false, timer := none } = u at hwritten ⊢
  have hended : Course g [b] u (if (u.bay b).state = .withdrawn then u.sendToVacant b else u) := by
    split
    · next h => exact sendToVacant_course _ b fun _ => frontKept_of_not_handed _ (not_handed_of_state h)
    · exact Course.refl ..
  exact (hwritten.trans hended).trans (withdrawUnlock_course _ b (bayOfDoor_rear b))

theorem abandonClearing_course (hb : b < 48) : Course g [b] s (s.abandonClearing b) :=
  (requestLock_course s b (bayOfDoor_rear b) (by simp only [doorOf]; omega)).trans (write_course _ b _)

theorem lockOutBay_course : Course g [b] s (s.lockOutBay b) := by
  unfold State.lockOutBay
  cases h : (s.bay b).state with
  | vacant => exact enterOutOfService_course s b _ fun _ => frontKept_of_not_handed _ (not_handed_of_state h)
  | outOfService => exact Course.refl ..
  | booked | preheating | ready | loading | holding | releasing | collecting | withdrawn => exact write_course s b _

theorem restoreBay_course : Course g [b] s (s.restoreBay b) := by
  have hwritten : Course g [b] s (s.setBay b { s.bay b with draining := false, sensorFault := false, faultStreak := 0 }) :=
    set_course s b _ rfl rfl fun hr => ⟨Nat.zero_le 3, hr.demand, hr.unheated, hr.cold, hr.hot, hr.uncharged⟩
  unfold State.restoreBay
  dsimp only
  split
  · next h => exact hwritten.trans (enterVacant_course _ b fun _ => frontKept_of_not_handed _ (not_handed_of_state h))
  · exact hwritten

/-! ### Expiries -/

theorem takePreheatStart_course : Course g [b] s (s.takePreheatStart b) := by
  unfold State.takePreheatStart
  split
  · next h => exact preheatIfReached_course h
  · exact Course.refl ..

theorem watchesLapse_iff {st : BayState} : st.watchesLapse = true ↔ st = .booked ∨ st = .preheating ∨ st = .ready := by
  cases st <;> decide

theorem takeLapse_course : Course g [b] s (s.takeLapse b) := by
  unfold State.takeLapse
  split
  · next h =>
    rw [Bool.and_eq_true] at h
    exact lapse_course (not_handed_of_waiting (watchesLapse_iff.mp h.1))
  · exact Course.refl ..

theorem watchesDeadline_iff {st : BayState} : st.watchesDeadline = true ↔ st = .holding ∨ st = .releasing := by
  cases st <;> decide

theorem takeDeadline_course (hs : g.fronts → Agreed s) : Course g [b] s (s.takeDeadline b) := by
  unfold State.takeDeadline
  split
  · next h =>
    rw [Bool.and_eq_true] at h
    exact withdrawHeld_course _ (watchesDeadline_iff.mp h.1) hs
  · exact Course.refl ..

theorem takeReached_course (hs : g.fronts → Agreed s) : Course g [b] s (s.takeReached b) := by
  have hahead : Course g [b] s ((s.takePreheatStart b).takeLapse b) := takePreheatStart_course.trans takeLapse_course
  exact hahead.trans (takeDeadline_course fun hg => hahead.agreed (hs hg))

theorem takeLoadWindow_course : Course g [b] s (s.takeLoadWindow b) := by
  unfold State.takeLoadWindow
  split
  · next h => exact loadWindowEnds_course h.1
  · exact Course.refl ..

theorem takeReleaseTimer_course (hs : g.fronts → Agreed s) : Course g [b] s (s.takeReleaseTimer b) := by
  unfold State.takeReleaseTimer
  split
  · next h => exact releaseTimerEnds_course h.1 hs
  · exact Course.refl ..

theorem takeClearingWindow_course (hb : b < 48) : Course g [b] s (s.takeClearingWindow b) := by
  unfold State.takeClearingWindow
  split
  · exact abandonClearing_course hb
  · exact Course.refl ..

/-! ### Doors -/

theorem forceLoading_course (h : (s.bay b).state = .loading) : Course g [b] s (s.forceLoading b) :=
  (enterWithdrawn_course .forced (by rw [h]; rfl) fun _ => frontKept_of_not_handed _ (not_handed_of_state h)).trans
    (returnRearLatch_course (lt_of_state h))

theorem forcedDoor_course (side : Side) (hs : g.fronts → Agreed s) : Course g [b] s (s.forcedDoor b side) := by
  have hnoted : Course g [b] s (s.raiseBay b (.doorForced side)) := raiseBay_course s b _
  unfold State.forcedDoor
  dsimp only
  cases h : ((s.raiseBay b (.doorForced side)).bay b).state with
  | holding => exact hnoted.trans (withdrawHeld_course _ (.inl h) fun hg => hnoted.agreed (hs hg))
  | releasing => exact hnoted.trans (withdrawHeld_course _ (.inr h) fun hg => hnoted.agreed (hs hg))
  | loading => exact hnoted.trans (forceLoading_course h)
  | vacant | booked | preheating | ready | collecting | withdrawn | outOfService => exact hnoted

theorem lateCollection_course (h : (s.bay b).state = .holding) : Course g [b] s (s.lateCollection b) :=
  (beginCollection_course (.inl h)).trans
    (Move.withdraw _ _ (bayOfDoor_front b) fun _ _ _ => .inr (changeBay_state _ (lt_of_state h))).course

theorem openedUnforced_course (side : Side) : Course g [b] s (s.openedUnforced b side) := by
  unfold State.openedUnforced
  split
  · next h => exact beginCollection_course (.inr h)
  · next h =>
    dsimp only
    split
    · exact lateCollection_course h
    · exact Course.refl ..
  · exact write_course s b _
  · exact Course.refl ..

/-- A close of the rear door takes its bay's course; one of the front door is taken with its relock test. -/
theorem closedOnBay_rear_course : Course g [b] s (s.closedOnBay b .rear) := by
  unfold State.closedOnBay
  dsimp only
  split
  · next h => exact beginHold_course h.1
  · split
    · exact endClearing_course
    · exact Course.refl ..

theorem closedOnBay_course (side : Side) (hg : ¬ g.fronts) : Course g [b] s (s.closedOnBay b side) := by
  cases side
  · unfold State.closedOnBay
    dsimp only
    split
    · exact endCollection_course hg
    · exact Course.refl ..
  · exact closedOnBay_rear_course

/-! ### Rounds -/

theorem demandFor_le (setpoint t : Int) (gain : Nat) : demandFor setpoint t gain ≤ 16 := by
  simp only [demandFor, clampTo]
  omega

theorem setDemand_course (t : Int) : Course g [b] s (s.setDemand b t) := by
  unfold State.setDemand
  split
  · next h =>
    exact set_course s b _ rfl rfl fun hr =>
      ⟨hr.streak, demandFor_le .., fun hu => absurd (h.symm.trans hu) (by decide), hr.cold, hr.hot, hr.uncharged⟩
  · exact Course.refl ..

theorem noteSensorFault_course : Course g [b] s (s.noteSensorFault b) := by
  have hwritten : Course g [b] s (s.setBay b { s.bay b with sensorFault := true }) := write_course s b _
  unfold State.noteSensorFault
  dsimp only
  split
  · exact hwritten
  · exact hwritten.trans (raiseBay_course _ b _)

theorem noteSensorFault_state (c : Nat) : ((s.noteSensorFault b).bay c).state = (s.bay c).state := by
  have hset : ((s.setBay b { s.bay b with sensorFault := true }).bay c).state = (s.bay c).state := by
    by_cases hbc : b = c
    · subst hbc
      by_cases hb : b < 48
      · rw [State.setBay_bay_self _ _ _ hb]
      · rw [State.bay_of_le _ b (Nat.not_lt.mp hb), State.bay_of_le _ b (Nat.not_lt.mp hb)]
    · rw [State.setBay_bay_ne _ _ _ _ hbc]
  unfold State.noteSensorFault
  dsimp only
  split
  · exact hset
  · exact hset

theorem afterValid_keepsRange (r : Bay) (t : Int) (now : Nat) : KeepsRange r (r.afterValid t now) := fun hr =>
  ⟨Nat.zero_le 3, hr.demand, hr.unheated, hr.cold, hr.hot, hr.uncharged⟩

theorem afterFault_keepsRange (r : Bay) (now : Nat) : KeepsRange r (r.afterFault now) := fun hr =>
  ⟨Nat.min_le_left .., hr.demand, hr.unheated, hr.cold, hr.hot, hr.uncharged⟩

theorem chargeTo_le (q charge : Nat) : chargeTo q charge ≤ 16777215 := Nat.min_le_right ..

theorem chargeValid_keepsRange {r : Bay} (p : Profile) (t : Int) (now : Nat) (h : r.state.holdsDeficits = true) :
    KeepsRange r (r.chargeValid p t now) := fun hr => by
  refine ⟨hr.streak, hr.demand, hr.unheated, ?_, ?_, fun hu => absurd (h.symm.trans hu) (by decide)⟩
  · simp only [Bay.chargeValid]
    split
    · exact chargeTo_le ..
    · exact hr.cold
  · simp only [Bay.chargeValid]
    split
    · exact chargeTo_le ..
    · exact hr.hot

theorem chargeFault_keepsRange {r : Bay} (p : Profile) (now : Nat) (h : r.state.holdsDeficits = true) :
    KeepsRange r (r.chargeFault p now) := fun hr =>
  ⟨hr.streak, hr.demand, hr.unheated, chargeTo_le .., hr.hot, fun hu => absurd (h.symm.trans hu) (by decide)⟩

theorem holdsDeficits_of_held {st : BayState} (h : st = .holding ∨ st = .releasing) : st.holdsDeficits = true := by
  obtain rfl | rfl := h <;> rfl

theorem accountValid_course (t : Int) (held : (s.bay b).state = .holding ∨ (s.bay b).state = .releasing) (hs : g.fronts → Agreed s) :
    Course g [b] s (s.accountValid b t) := by
  have hb : b < 48 := held.elim (fun h => lt_of_state h) fun h => lt_of_state h
  have hcharged : Course g [b] s
      (s.setBay b (((s.bay b).chargeValid (s.boundProfile b) t s.bankTime).afterValid t s.bankTime)) :=
    set_course s b _ rfl rfl fun hr =>
      afterValid_keepsRange _ t _ (chargeValid_keepsRange _ t _ (holdsDeficits_of_held held) hr)
  unfold State.accountValid
  dsimp only
  split
  · refine hcharged.trans (withdrawHeld_course _ ?_ fun hg => hcharged.agreed (hs hg))
    rw [State.setBay_bay_self _ _ _ hb]
    exact held
  · exact hcharged.trans (setDemand_course t)

theorem accountFault_course (held : (s.bay b).state = .holding ∨ (s.bay b).state = .releasing) (hs : g.fronts → Agreed s) :
    Course g [b] s (s.accountFault b) := by
  have hb : b < 48 := held.elim (fun h => lt_of_state h) fun h => lt_of_state h
  have hcharged : Course g [b] s
      (s.setBay b (((s.bay b).chargeFault (s.boundProfile b) s.bankTime).afterFault s.bankTime)) :=
    set_course s b _ rfl rfl fun hr =>
      afterFault_keepsRange _ _ (chargeFault_keepsRange _ _ (holdsDeficits_of_held held) hr)
  have hstate : ((s.setBay b (((s.bay b).chargeFault (s.boundProfile b) s.bankTime).afterFault s.bankTime)).bay b).state =
      (s.bay b).state := by rw [State.setBay_bay_self _ _ _ hb]; rfl
  unfold State.accountFault
  dsimp only
  generalize s.setBay b (((s.bay b).chargeFault (s.boundProfile b) s.bankTime).afterFault s.bankTime) = u at hcharged hstate ⊢
  have tested : ∀ (v : State) (why : WithdrawReason), Course g [b] s v → (v.bay b).state = (s.bay b).state →
      Course g [b] s (v.withdrawHeld b why) := fun v why hv hst =>
    hv.trans (withdrawHeld_course why (by rw [hst]; exact held) fun hg => hv.agreed (hs hg))
  cases decide ((u.bay b).faultStreak = 3)
  · simp only [Bool.false_eq_true, if_false]
    split
    · exact tested _ _ hcharged hstate
    · exact hcharged
  · simp only [if_true]
    have hnoted := hcharged.trans (noteSensorFault_course (s := u))
    split
    · exact tested _ _ hnoted ((noteSensorFault_state b).trans hstate)
    · exact hnoted

theorem readyTest_course (t : Int) (h : (s.bay b).state = .preheating) : Course g [b] s (s.readyTest b t) := by
  unfold State.readyTest
  split
  · exact (change_course s b _ (.inl rfl) rfl rfl rfl (fun _ => by rw [h]; rfl) rfl (by rw [h]; rfl)
      (fun h' => by rw [h] at h'; cases h') fun _ => frontKept_of_not_handed _ (not_handed_of_state h)).trans (raiseBay_course _ b _)
  · exact Course.refl ..

theorem returnTest_course (t : Int) (h : (s.bay b).state = .ready) : Course g [b] s (s.returnTest b t) := by
  unfold State.returnTest
  split
  · exact change_course s b _ (.inl rfl) rfl rfl rfl (fun _ => by rw [h]; rfl) rfl (by rw [h]; rfl)
      (fun h' => by rw [h] at h'; cases h') fun _ => frontKept_of_not_handed _ (not_handed_of_state h)
  · exact Course.refl ..

theorem validRound_course (t : Int) (hs : g.fronts → Agreed s) : Course g [b] s (s.validRound b t) := by
  have hnoted : Course g [b] s (s.setBay b ((s.bay b).afterValid t s.bankTime)) :=
    set_course s b _ rfl rfl (afterValid_keepsRange _ t _)
  have hstate : b < 48 → ((s.setBay b ((s.bay b).afterValid t s.bankTime)).bay b).state = (s.bay b).state := fun hb => by
    rw [State.setBay_bay_self _ _ _ hb]
    rfl
  unfold State.validRound
  dsimp only
  cases h : (s.bay b).state with
  | vacant | booked | withdrawn | loading | collecting => exact hnoted
  | preheating =>
    exact (hnoted.trans (readyTest_course t ((hstate (lt_of_state h)).trans h))).trans (setDemand_course t)
  | ready => exact (hnoted.trans (returnTest_course t ((hstate (lt_of_state h)).trans h))).trans (setDemand_course t)
  | holding => exact accountValid_course t (.inl h) hs
  | releasing => exact accountValid_course t (.inr h) hs
  | outOfService => exact Course.refl ..

theorem thirdFault_course : Course g [b] s (s.thirdFault b) := by
  have hnoted : Course g [b] s (s.noteSensorFault b) := noteSensorFault_course
  unfold State.thirdFault
  dsimp only
  cases h : ((s.noteSensorFault b).bay b).state with
  | vacant | booked | preheating | ready =>
    exact hnoted.trans (enterOutOfService_course _ b _ fun _ => frontKept_of_not_handed _ (not_handed_of_state h))
  | loading | collecting | withdrawn | holding | releasing | outOfService => exact hnoted

theorem faultRound_course (hs : g.fronts → Agreed s) : Course g [b] s (s.faultRound b) := by
  have hnoted : Course g [b] s (s.setBay b ((s.bay b).afterFault s.bankTime)) :=
    set_course s b _ rfl rfl (afterFault_keepsRange _ _)
  unfold State.faultRound
  cases h : (s.bay b).state with
  | holding => exact accountFault_course (.inl h) hs
  | releasing => exact accountFault_course (.inr h) hs
  | outOfService => exact Course.refl ..
  | vacant | booked | preheating | ready | loading | collecting | withdrawn =>
    dsimp only
    split
    · exact hnoted.trans thirdFault_course
    · exact hnoted

/-! ### Booking and the commands on an order -/

theorem retimeBay_course (offset : Nat) : Course g [b] s (s.retimeBay offset b) := by
  unfold State.retimeBay
  dsimp only
  cases h : (s.bay b).state with
  | booked =>
    refine (write_course s b _ h.symm).trans (preheatIfReached_course ?_)
    rw [State.setBay_bay_self _ _ _ (lt_of_state h)]
  | preheating | ready => exact write_course s b _ h.symm
  | vacant | loading | holding | releasing | collecting | withdrawn | outOfService => exact Course.refl ..

theorem extendBay_course (minutes : Nat) : Course g [b] s (s.extendBay minutes b) := by
  unfold State.extendBay
  dsimp only
  cases h : (s.bay b).state with
  | holding | releasing => exact write_course s b _ h.symm
  | vacant | booked | preheating | ready | loading | collecting | withdrawn | outOfService => exact Course.refl ..

/-- R43, R45: the bay is bound before its entry stands in the directory. -/
theorem bindBay_course (code offset slot : Nat) (hg : ¬ g.directory) (h : (s.bay b).state = .vacant) :
    Course g [b] s (s.bindBay code offset b slot) := by
  have hbound : Course g [b] s (s.changeBay b fun r =>
      { r with
          state := .booked, entry := some code, profile := some slot, expectedLoad := some (s.expectedLoadFor offset)
          preheatStart := some (preheatStartFor (s.expectedLoadFor offset) (s.profile slot).lead)
          lapseAt := some (s.lapseAtFor (s.expectedLoadFor offset)) }) :=
    (Move.change _ (keepsRange_of_figures (.inl rfl) rfl rfl rfl fun _ => by rw [h]; rfl) (fun hd => absurd hd hg)
      fun _ => frontKept_of_not_handed _ (not_handed_of_state h)).course
  unfold State.bindBay
  dsimp only
  by_cases hb : b < 48
  · exact hbound.trans (preheatIfReached_course (changeBay_state _ hb))
  · refine hbound.trans ?_
    unfold State.preheatIfReached
    rw [State.bay_of_le _ b (Nat.not_lt.mp hb), if_neg (by simp [State.reached, Bay.empty])]
    exact Course.refl ..

theorem rename_course (entry : Option Nat) (hg : ¬ g.directory) : Course g [b] s (s.setBay b { s.bay b with entry := entry }) :=
  (Move.write { s.bay b with entry := entry } rfl (fun hd => absurd hd hg) (keepsRange_of_same rfl rfl rfl rfl rfl)).course

/-! ### A warm restart (R21) -/

theorem resolveBay_course (hg : ¬ g.fronts) : Course g [b] s (s.resolveBay b) := by
  have hkept : Course g [b] s (s.setBay b (s.bay b).retained) := write_course s b _
  unfold State.resolveBay
  generalize s.setBay b (s.bay b).retained = u at hkept ⊢
  dsimp only
  cases h : (u.bay b).state with
  | vacant | booked | withdrawn | outOfService => exact hkept
  | preheating | ready =>
    exact hkept.trans (set_course u b _ h.symm rfl fun hr =>
      ⟨hr.streak, Nat.le_refl 16, fun hu => (by cases hu), hr.cold, hr.hot, fun hu => hr.uncharged (by rw [h]; exact hu)⟩)
  | loading =>
    dsimp only
    split
    · exact hkept.trans (enterWithdrawn_course _ (by rw [h]; rfl) fun hf => absurd hf hg)
    · exact hkept.trans (change_course _ b _ (.inl rfl) rfl rfl rfl (fun _ => by rw [h]; rfl) rfl (by rw [h]; rfl)
        (fun h' => by rw [h] at h'; cases h') fun hf => absurd hf hg)
  | holding =>
    exact hkept.trans (set_course u b _ h.symm rfl fun hr =>
      ⟨hr.streak, Nat.le_refl 16, fun hu => (by cases hu), hr.cold, hr.hot, fun hu => hr.uncharged (by rw [h]; exact hu)⟩)
  | releasing =>
    exact hkept.trans (change_course _ b _ (.inr (Nat.le_refl 16)) rfl rfl rfl (fun h => nomatch h) rfl (by rw [h]; rfl)
      (fun h' => by rw [h] at h'; cases h') fun hf => absurd hf hg)
  | collecting =>
    dsimp only
    split
    · exact (hkept.trans (raiseBay_course _ b _)).trans (sendToVacant_course _ b fun hf => absurd hf hg)
    · exact hkept

end Sys2Proof.Courses
end

section

-- One proof at a time: the proofs here together ask for more threads than the memory limit leaves room for.
set_option Elab.async false

/-! What a step can do, said once: a chain of acts, each of them one of the operations of the chapters. The invariants follow act by
act. -/

namespace Sys2Proof.Acts

open Sys2Proof Sys2Proof.Machine Sys2Proof.Courses

/-- Nothing changes of what the invariants of records, budget, gates and latches speak of, and the counts stay in their ranges. -/
structure Still (s t : State) : Prop where
  bays : t.bays = s.bays := by rfl
  closed : ∀ d, (t.door d).closed = (s.door d).closed := by exact fun _ => rfl
  records : t.latch.records = s.latch.records := by rfl
  queue : t.latch.queue = s.latch.queue := by rfl
  nextArrival : t.latch.nextArrival = s.latch.nextArrival := by rfl
  channels : t.latch.channels = s.latch.channels := by rfl
  budget : t.heater.budget = s.heater.budget := by rfl
  schedule : t.heater.schedule = s.heater.schedule := by rfl
  gates : t.heater.gates = s.heater.gates := by rfl
  present : t.mains.present = s.mains.present := by rfl
  agrees : t.retentionAgrees = s.retentionAgrees := by rfl
  running : t.running = true → s.running = true := by exact id
  counts : s.CountsInRange → t.CountsInRange := by
    exact fun h => ⟨h.bankTime, h.generation, h.overruns, h.rotation, h.settle, h.position, h.frames, h.counters, h.kiosks⟩

/-- Nor of the directory. -/
structure Aside (s t : State) : Prop extends Still s t where
  directory : t.directory = s.directory := by rfl

theorem Aside.refl (s : State) : Aside s s := {}

theorem Aside.trans {s t u : State} (h : Aside s t) (h' : Aside t u) : Aside s u where
  bays := h'.bays.trans h.bays
  directory := h'.directory.trans h.directory
  closed d := (h'.closed d).trans (h.closed d)
  records := h'.records.trans h.records
  queue := h'.queue.trans h.queue
  nextArrival := h'.nextArrival.trans h.nextArrival
  channels := h'.channels.trans h.channels
  budget := h'.budget.trans h.budget
  schedule := h'.schedule.trans h.schedule
  gates := h'.gates.trans h.gates
  present := h'.present.trans h.present
  agrees := h'.agrees.trans h.agrees
  running hr := h.running (h'.running hr)
  counts hs := h'.counts (h.counts hs)

/-- One act of the block. -/
inductive Act (s : State) : State → Prop
  | aside {t : State} (h : Aside s t) : Act s t
  | course {bs : List Nat} {t : State} (h : ∀ g : Rules, (g.fronts → Agreed s) → Course g bs s t) : Act s t
  | serve (c : Command) : Act s (carryOut s c).state
  | window (present : s.mains.present = true) : Act s s.startWindow
  | halfCycle (h : Nat) (next : h < 16) (present : s.mains.present = true) : Act s (s.beginHalfCycle h)
  | abandon : Act s s.abandonWindow
  | returned (settle : Nat) (within : s.CountsInRange → settle ≤ 8) : Act s { s with mains := { s.mains with settle := settle, present := true } }
  | lost : Act s s.loseMains
  | opened (d : Nat) (exists' : d < 96) : Act s (s.doorOpenedStep d)
  | closed (d : Nat) (exists' : d < 96) : Act s (s.doorClosedStep d)
  | granted (r : LatchRequest) (c : Nat) (head : s.latch.queue.head? = some r) (free : s.freeChannel = some c)
      (may : s.mayGrant r.door = true) : Act s (s.grantPulse r c)
  | unlocked (p : Pulse) (c : Nat) (exists' : c < 4) (ends : s.pulseOver c .unlock = some p) : Act s (s.endUnlock c p.door)
  | locked (p : Pulse) (c : Nat) (exists' : c < 4) (ends : s.pulseOver c .lock = some p) : Act s (s.endLock c p.door)
  | begun (pins : Pins) (cold : Bool) : Act s (State.beginStart { s with pins := pins } cold)
  | ended (cold : Bool) (starting : s.starting = some cold) : Act s (s.endStart cold)
  | stopped (pins : Pins) (moment : StopMoment) (off : (pins.vdd && pins.resetn) = false) :
      Act s (State.stopPart { s with pins := pins } moment)
  | forgotten : Act s s.loseRetention

/-! ### Counts -/

theorem countUp_le (n : Nat) : countUp n ≤ 65535 := Nat.min_le_right ..

theorem satTime_le (n : Nat) : satTime n ≤ 4294967295 := Nat.min_le_right ..

/-- The link changed, its queue and counters in their ranges. -/
theorem aside_of_link {s : State} {l : OrderLink} (hq : s.link.queue.length ≤ 4 → l.queue.length ≤ 4)
    (hc : s.CountsInRange → l.truncatedCount ≤ 65535 ∧ l.crcCount ≤ 65535 ∧ l.discardedCount ≤ 65535 ∧ l.broadcastCount ≤ 65535) :
    Aside s { s with link := l } :=
  { counts := fun h => ⟨h.bankTime, h.generation, h.overruns, h.rotation, h.settle, h.position, hq h.frames, hc h, h.kiosks⟩ }

/-- The settle count changed, and within its range. -/
theorem aside_of_settle {s : State} {n : Nat} (hn : s.CountsInRange → n < 8) :
    Aside s { s with mains := { s.mains with settle := n } } :=
  { counts := fun h => ⟨h.bankTime, h.generation, h.overruns, h.rotation, ⟨Nat.le_of_lt (hn h), fun _ => hn h⟩, h.position, h.frames,
      h.counters, h.kiosks⟩ }

/-- The entry buffer and the failure list of a kiosk line in their ranges. -/
def PortInRange (p : KioskPort) : Prop := p.digits.length ≤ 6 ∧ p.failures.length ≤ 5

theorem length_recordFailure {l : List Nat} (now : Nat) (h : l.length ≤ 5) : (recordFailure l now).length ≤ 5 := by
  unfold recordFailure
  rw [List.length_append, List.length_singleton]
  split
  · omega
  · rw [List.length_drop]
    omega

theorem failed_inRange {p : KioskPort} (now : Nat) (h : PortInRange p) : PortInRange (p.failed now) := by
  unfold KioskPort.failed
  dsimp only
  split
  · exact ⟨h.1, Nat.zero_le _⟩
  · exact ⟨h.1, length_recordFailure now h.2⟩

theorem take_inRange {p : KioskPort} (c : Byte) (stop : Bool) (now : Nat) (h : PortInRange p) : PortInRange (p.take c stop now) := by
  unfold KioskPort.take
  dsimp only
  split
  · next hc =>
    simp only [Bool.and_eq_true, decide_eq_true_eq] at hc
    exact ⟨by rw [List.length_append, List.length_singleton]; omega, h.2⟩
  · exact h

/-- Several acts, one after another. -/
def Acts : State → State → Prop := Relation.ReflTransGen Act

theorem Act.acts {s t : State} (h : Act s t) : Acts s t := .single h

theorem Acts.refl (s : State) : Acts s s := Relation.ReflTransGen.refl

theorem Acts.trans {s t u : State} (h : Acts s t) (h' : Acts t u) : Acts s u := Relation.ReflTransGen.trans h h'

theorem Aside.acts {s t : State} (h : Aside s t) : Acts s t := (Act.aside h).acts

theorem acts_of_course {s t : State} {bs : List Nat} (h : ∀ g : Rules, (g.fronts → Agreed s) → Course g bs s t) : Acts s t :=
  (Act.course h).acts

/-! ### The scanner and the latches -/

section

variable (s : State)

theorem dropConversion_aside : Aside s s.dropConversion := {}

theorem endPass_aside : Aside s s.endPass := {}

theorem nextPair_aside : Aside s s.nextPair := by
  unfold State.nextPair
  split
  · exact Aside.refl s
  · split
    · exact Aside.refl s
    · split
      · exact endPass_aside s
      · exact {}

theorem noteStarved_aside : Aside s s.noteStarved := by
  unfold State.noteStarved
  split
  · exact {}
  · exact Aside.refl s

theorem resumeScanner_aside : Aside s s.resumeScanner := by
  unfold State.resumeScanner
  split
  · exact Aside.refl s
  · exact nextPair_aside s

theorem startPass_aside : Aside s s.startPass := by
  have hlisted : ∀ due : List Nat, Aside s { s with scanner := { s.scanner with
      skip := Vector.ofFn fun b : Fin 48 => s.skipAfter b, pass := some { due := due, remaining := due } } } := fun _ => {}
  unfold State.startPass
  dsimp only
  split
  · exact (hlisted _).trans (endPass_aside _)
  · exact ((hlisted _).trans (nextPair_aside _)).trans (noteStarved_aside _)

theorem setRound_aside (b : Nat) (r : Option Samples) : Aside s (s.setRound b r) := {}

theorem takeSample_acts (b code : Nat) : Acts s (s.takeSample b code) := by
  have hdropped : Acts s (s.setRound b none) := (setRound_aside s b none).acts
  unfold State.takeSample
  split
  · exact Acts.refl s
  · split
    · exact hdropped.trans (acts_of_course fun _ => faultRound_course)
    · dsimp only
      split
      · exact hdropped.trans (acts_of_course fun _ => validRound_course _)
      · exact (setRound_aside s b _).acts

theorem endKept_acts (b code : Nat) : Acts s (s.endKept b code) := by
  have hafter : ∀ u : State, Acts u
      (State.nextPair (State.clearStall (State.dropConversion
        { u with scanner := { u.scanner with pass := u.scanner.pass.map Pass.moveOn } }))) := fun u => by
    refine Acts.trans (Aside.acts ?_) (nextPair_aside _).acts
    exact {}
  unfold State.endKept
  dsimp only
  split
  · exact hafter s
  · exact (takeSample_acts s b code).trans (hafter _)

end

/-! ### Mains -/

section

variable (s : State)

theorem acceptCrossing_aside : Aside s s.acceptCrossing := {}

theorem settleCrossing_acts (valid : Bool) (absent : s.mains.present = false) : Acts s (s.settleCrossing valid) := by
  unfold State.settleCrossing
  cases valid
  · exact (aside_of_settle fun _ => by decide).acts
  · dsimp only
    rw [if_pos rfl]
    split
    · have hreturned : Acts s (State.raiseBank
          { s with mains := { s.mains with settle := s.mains.settle + 1, present := true } } .mainsReturned) :=
        (Act.returned _ fun h => h.settle.2 absent).acts.trans (Aside.acts {})
      exact hreturned.trans (Act.window rfl).acts
    · next h => exact (aside_of_settle fun _ => Nat.not_le.mp h).acts

theorem windowCrossing_acts (valid : Bool) (present : s.mains.present = true) : Acts s (s.windowCrossing valid) := by
  unfold State.windowCrossing
  cases valid
  · exact Act.abandon.acts
  · rw [if_pos rfl]
    split
    · exact (Act.window present).acts
    · split
      · next h => exact (Act.halfCycle _ (by omega) present).acts
      · have hturned : Aside s s.advanceRotation :=
          { counts := fun h => ⟨h.bankTime, h.generation, h.overruns, Nat.mod_lt _ (by decide), h.settle, h.position, h.frames,
              h.counters, h.kiosks⟩ }
        exact hturned.acts.trans (Act.window (s := s.advanceRotation) present).acts

theorem takeCrossing_acts : Acts s s.takeCrossing := by
  have hseen : Acts s s.acceptCrossing := (acceptCrossing_aside s).acts
  unfold State.takeCrossing
  cases s.classify with
  | noise => exact Acts.refl s
  | valid | late =>
    dsimp only
    split
    · next h => exact hseen.trans (windowCrossing_acts _ _ h)
    · next h => exact hseen.trans (settleCrossing_acts _ _ (Bool.eq_false_iff.mpr h))

end

/-! ### Commands and frames -/

section

variable (s : State)

theorem answer_acts (c : Command) : Acts s (s.answer c) :=
  (Act.serve c).acts.trans (Aside.acts {})

theorem noteBroadcast_aside : Aside s { s with link := s.link.noteBroadcast } :=
  aside_of_link id fun h => ⟨h.counters.1, h.counters.2.1, h.counters.2.2.1, countUp_le _⟩

theorem noteOverrun_aside : Aside s { s with link := s.link.noteOverrun } :=
  aside_of_link id fun h => ⟨h.counters.1, h.counters.2.1, countUp_le _, h.counters.2.2.2⟩

theorem noteCrcError_aside : Aside s { s with link := s.link.noteCrcError } :=
  aside_of_link id fun h => ⟨h.counters.1, countUp_le _, h.counters.2.2⟩

theorem setFrames_aside (q : List QueuedFrame) (hq : s.link.queue.length ≤ 4 → q.length ≤ 4) : Aside s (s.setFrames q) :=
  aside_of_link hq State.CountsInRange.counters

theorem serveFrames_acts (q : List QueuedFrame) (hq : s.link.queue.length ≤ 4 → q.length ≤ 4) : Acts s (s.serveFrames q) := by
  induction q generalizing s with
  | nil => exact (setFrames_aside s [] hq).acts
  | cons f rest ih =>
    have hskip : Acts s (State.serveFrames { s with link := s.link.noteBroadcast } rest) :=
      (noteBroadcast_aside s).acts.trans (ih _ fun h => Nat.le_of_succ_le (hq h))
    unfold State.serveFrames
    split
    · split
      · exact (Act.begun s.pins false).acts
      · exact (Act.begun s.pins true).acts
      · exact hskip
    · exact (setFrames_aside s _ hq).acts.trans (answer_acts _ _)

theorem offerFrame_acts (f : QueuedFrame) : Acts s (s.offerFrame f) := by
  unfold State.offerFrame
  split
  · exact (noteOverrun_aside s).acts
  · next hlt =>
    split
    · exact serveFrames_acts s _ fun _ => (by decide : 1 ≤ 4)
    · refine (setFrames_aside s _ fun _ => ?_).acts
      rw [List.length_append, List.length_singleton]
      omega

theorem abandonFrame_aside : Aside s s.abandonFrame := by
  unfold State.abandonFrame
  split
  · exact Aside.refl s
  · exact aside_of_link id fun h => ⟨countUp_le _, h.counters.2⟩

theorem takeAddress_aside (a : Byte) : Aside s (s.takeAddress a) := by
  have hset : ∀ r : Receiver, Aside s (s.abandonFrame.setReceiver r) := fun r => (abandonFrame_aside s).trans {}
  unfold State.takeAddress
  dsimp only
  split
  · exact hset _
  · split
    · exact hset _
    · exact hset _

theorem judgeFrame_acts (r : Receiver) (low : Byte) : Acts s (s.judgeFrame r low) := by
  have hasleep : Acts s (s.setReceiver Receiver.asleep) := Aside.acts {}
  unfold State.judgeFrame
  dsimp only
  split
  · exact hasleep.trans (noteCrcError_aside _).acts
  · split
    · split
      · exact hasleep.trans (offerFrame_acts _ _)
      · exact hasleep.trans (noteBroadcast_aside _).acts
    · exact hasleep.trans (offerFrame_acts _ _)

theorem takeData_acts (data : Byte) (stop : Bool) : Acts s (s.takeData data stop) := by
  unfold State.takeData
  dsimp only
  split
  · exact Aside.acts {}
  · split
    · exact Aside.acts {}
    · split
      · exact Aside.acts {}
      · exact judgeFrame_acts s _ _

theorem whenListening_acts (f : State → State) (h : ∀ u, Acts u (f u)) : Acts s (s.whenListening f) := by
  unfold State.whenListening
  split
  · exact Acts.refl s
  · have hheard : Aside s s.heard := {}
    exact hheard.acts.trans (h _)

theorem finishReply_acts : Acts s s.finishReply := by
  unfold State.finishReply
  split
  · exact (Act.begun s.pins _).acts
  · exact Acts.trans (t := { s with link := { s.link with reply := none, sending := none } }) (Aside.acts {})
      (serveFrames_acts _ _ fun h => (List.length_tail.trans_le (Nat.sub_le ..)).trans h)

/-! ### Rows -/

theorem awake_acts : Acts s s.awake := by
  unfold State.awake
  split
  · next cold h =>
    split
    · exact (Act.ended cold h).acts
    · exact Acts.refl s
  · exact Acts.refl s

theorem whenRunning_acts (f : State → State) (h : ∀ u : State, Acts u (f u)) : Acts s (s.whenRunning f) := by
  unfold State.whenRunning
  split
  · exact (awake_acts s).trans (h _)
  · exact awake_acts s

theorem whenRunningAt_acts (t : Nat) (f : State → State) (h : ∀ u : State, Acts u (f u)) : Acts s (s.whenRunningAt t f) := by
  have hmoved : Acts s (s.awake.advance t) := (awake_acts s).trans (Aside.acts {})
  unfold State.whenRunningAt
  dsimp only
  split
  · exact hmoved.trans (h _)
  · exact hmoved

theorem receiveCommand_acts (broadcast : Bool) (c : Command) : Acts s (s.receiveCommand broadcast c) := by
  refine whenRunning_acts s _ fun u => whenListening_acts u _ fun v => ?_
  have hdropped : Acts v v.abandonFrame := (abandonFrame_aside v).acts
  dsimp only
  split
  · exact hdropped
  · exact hdropped.trans (offerFrame_acts _ _)

theorem receiveMisfit_acts (k : Byte) (n : Nat) : Acts s (s.receiveMisfit k n) := by
  unfold State.receiveMisfit
  split
  · exact receiveCommand_acts s _ _
  · split
    · exact receiveCommand_acts s _ _
    · exact Acts.refl s

theorem setPort_aside (l : KioskLine) (p : KioskPort) (hp : PortInRange (s.port l) → PortInRange p) : Aside s (s.setPort l p) := by
  cases l with
  | ka =>
    exact { counts := fun h => ⟨h.bankTime, h.generation, h.overruns, h.rotation, h.settle, h.position, h.frames, h.counters, fun
      | .ka => hp (h.kiosks .ka)
      | .kb => h.kiosks .kb⟩ }
  | kb =>
    exact { counts := fun h => ⟨h.bankTime, h.generation, h.overruns, h.rotation, h.settle, h.position, h.frames, h.counters, fun
      | .ka => h.kiosks .ka
      | .kb => hp (h.kiosks .kb)⟩ }

theorem course_port {bs : List Nat} {t : State} {g : Rules} (h : Course g bs s t) (l : KioskLine) : t.port l = s.port l :=
  (congrArg (fun u : State => u.port l) (show t = _ from h.baysOnly)).trans (by cases l <;> rfl)

theorem takeEntry_acts (l : KioskLine) : Acts s (s.takeEntry l) := by
  unfold State.takeEntry
  dsimp only
  split
  · refine (setPort_aside s _ _ fun h => ?_).acts
    exact h
  · split
    · refine (setPort_aside s _ _ fun h => ?_).acts
      exact failed_inRange _ (p := { s.port l with lastCharacter := s.bankTime, lockout := none }) h
    · split
      · refine (setPort_aside s _ _ fun h => ?_).acts
        exact failed_inRange _ (p := { s.port l with lastCharacter := s.bankTime, lockout := none }) h
      · next e _ =>
        have hport : (s.releaseEntry e).port l = s.port l := course_port s (releaseEntry_course (g := ⟨True, False⟩) e) l
        exact (acts_of_course fun _ _ => releaseEntry_course _).trans
          (setPort_aside _ _ _ fun h => ⟨(hport ▸ h).1, Nat.zero_le _⟩).acts

theorem takeKioskCharacter_acts (l : KioskLine) (c : Byte) (stop : Bool) : Acts s (s.takeKioskCharacter l c stop) := by
  unfold State.takeKioskCharacter
  dsimp only
  split
  · split
    · refine (setPort_aside s _ _ fun h => ?_).acts
      exact ⟨Nat.zero_le _, h.2⟩
    · exact Acts.refl s
  · split
    · exact takeEntry_acts s l
    · exact (setPort_aside s _ _ fun h => take_inRange _ _ _ h).acts
  · exact Acts.refl s

end

/-- The outcome is a next state, reached by acts. -/
def Reaches (s : State) (o : Host.Outcome State Fault Refusal) : Prop := ∃ t, o = .next t ∧ Acts s t

theorem Reaches.next {s t : State} (h : Acts s t) : Reaches s (.next t) := ⟨t, rfl, h⟩

theorem reaches_nextIf {s t : State} (c : Bool) (h : c = true → Acts s t) : Reaches s (nextIf c s t) := by
  cases c
  · exact .next (Acts.refl s)
  · exact .next (h rfl)

section

variable (s : State)

/-- A row whose effect on a running part is a chain of acts. -/
theorem reaches_whenRunning (f : State → State) (h : ∀ u : State, Acts u (f u)) : Reaches s (.next (s.whenRunning f)) :=
  .next (whenRunning_acts s f h)

theorem reaches_whenRunningAt (t : Nat) (f : State → State) (h : ∀ u : State, Acts u (f u)) :
    Reaches s (.next (s.whenRunningAt t f)) := .next (whenRunningAt_acts s t f h)

/-- The rows of the server's commands. -/
theorem exec_restart_reaches (broadcast : Bool) (o : Nat) : Reaches s (exec (.restart broadcast o) s) :=
  reaches_nextIf _ fun _ => receiveCommand_acts s _ _

theorem exec_server_reaches (i : Instr) (h : (Machine.Instr.serverCommand i).isSome = true) : Reaches s (exec i s) := by
  have served : ∀ (c : Bool) (broadcast : Bool) (k : Command), Reaches s (nextIf c s (s.receiveCommand broadcast k)) :=
    fun c _ _ => reaches_nextIf c fun _ => receiveCommand_acts s _ _
  cases i with
  | book r c ss o =>
    unfold exec execBook
    dsimp only
    split
    · exact reaches_nextIf _ fun _ => receiveMisfit_acts s _ _
    · exact served ..
  | amendNewCode | amendExtend | amendNewLoad | cancel | load | clear | openOrder | lockout | restore | query | scan | status
  | profileRead | restart => exact served ..
  | configure bs =>
    unfold exec execConfigure
    dsimp only
    split
    · exact .next (receiveCommand_acts s _ _)
    · exact .next (receiveMisfit_acts s _ _)
  | profileWrite n bs =>
    refine reaches_nextIf _ fun _ => ?_
    split
    · exact receiveCommand_acts s _ _
    · exact receiveMisfit_acts s _ _
  | unknownCommand c =>
    unfold exec execUnknownCommand
    dsimp only
    split
    · exact .next (receiveMisfit_acts s _ _)
    · exact .next (receiveCommand_acts s _ _)
  | _ => simp [Machine.Instr.serverCommand] at h

/-- The rows of the order link's and the kiosk lines' characters and events. -/
theorem exec_linkAddressCharacter_reaches (a : Byte) (t : Nat) : Reaches s (exec (.linkAddressCharacter a t) s) :=
  reaches_whenRunningAt s t _ fun u => whenListening_acts u _ fun v => (takeAddress_aside v a).acts

theorem exec_linkDataCharacter_reaches (data : Byte) (stop : Bool) (t : Nat) :
    Reaches s (exec (.linkDataCharacter data stop t) s) :=
  reaches_whenRunningAt s t _ fun u => whenListening_acts u _ fun v => by
    split
    · exact Acts.refl v
    · exact takeData_acts v data stop

theorem exec_frameEnd_reaches (data : Byte) (stop : Bool) (t : Nat) : Reaches s (exec (.frameEnd data stop t) s) :=
  reaches_whenRunningAt s t _ fun u => by
    split
    · exact whenListening_acts u _ fun v => takeData_acts v data stop
    · exact Acts.refl u

theorem exec_frameGapTimeout_reaches (t : Nat) : Reaches s (exec (.frameGapTimeout t) s) :=
  reaches_whenRunningAt s t _ fun u => by
    split
    · split
      · exact (abandonFrame_aside u).acts
      · exact Acts.refl u
    · exact Acts.refl u

theorem exec_replySend_reaches (t : Nat) : Reaches s (exec (.replySend t) s) :=
  reaches_whenRunningAt s t _ fun u => by
    split
    · split
      · exact Aside.acts {}
      · exact Acts.refl u
    · exact Acts.refl u

theorem exec_replyDone_reaches (t : Nat) : Reaches s (exec (.replyDone t) s) :=
  reaches_whenRunningAt s t _ fun u => by
    split
    · exact finishReply_acts u
    · exact Acts.refl u

theorem exec_kioskCharacter_reaches (l : KioskLine) (c : Byte) (stop : Bool) : Reaches s (exec (.kioskCharacter l c stop) s) :=
  reaches_whenRunning s _ fun u => takeKioskCharacter_acts u l c stop

theorem exec_kioskEntry_reaches (l : KioskLine) : Reaches s (exec (.kioskEntry l) s) :=
  reaches_whenRunning s _ fun u => by
    split
    · exact takeEntry_acts u l
    · exact Acts.refl u

theorem exec_kioskFrameTimeout_reaches (l : KioskLine) : Reaches s (exec (.kioskFrameTimeout l) s) :=
  reaches_whenRunning s _ fun u => by
    dsimp only
    split
    · refine (setPort_aside u _ _ fun h => ?_).acts
      exact ⟨Nat.zero_le _, h.2⟩
    · exact Acts.refl u

theorem exec_kioskReplyDone_reaches (l : KioskLine) : Reaches s (exec (.kioskReplyDone l) s) :=
  reaches_whenRunning s _ fun u => by
    split
    · refine (setPort_aside u _ _ fun h => ?_).acts
      exact h
    · exact Acts.refl u

/-! ### Supplies -/

theorem pins_aside (pins : Pins) (h : (pins.vdd && pins.resetn) = false) : Aside s { s with pins := pins } :=
  { running := fun hr => absurd hr (by simp [State.running, State.powered, h]) }

theorem exec_powerOn_reaches : Reaches s (exec .powerOn s) := by
  refine .next ?_
  split
  · exact Acts.refl s
  · dsimp only
    split
    · exact (Act.begun { s.pins with vdd := true } false).acts
    · next h => exact (pins_aside s { s.pins with vdd := true } (by simp [h])).acts

theorem exec_resetnRelease_reaches : Reaches s (exec .resetnRelease s) := by
  refine .next ?_
  split
  · exact Acts.refl s
  · dsimp only
    split
    · exact (Act.begun { s.pins with resetn := true } false).acts
    · next h => exact (pins_aside s { s.pins with resetn := true } (by simp [h])).acts

theorem exec_resetnLow_reaches (m : StopMoment) : Reaches s (exec (.resetnLow m) s) := by
  refine .next ?_
  split
  · dsimp only
    split
    · exact (Act.stopped { s.pins with resetn := false } m (by simp)).acts
    · exact (pins_aside s { s.pins with resetn := false } (by simp)).acts
  · exact Acts.refl s

theorem exec_lossOfVdd_reaches (m : StopMoment) : Reaches s (exec (.lossOfVdd m) s) := by
  refine .next ?_
  split
  · dsimp only
    split
    · exact (Act.stopped { s.pins with vdd := false } m (by simp)).acts
    · exact (pins_aside s { s.pins with vdd := false } (by simp)).acts
  · exact Acts.refl s

/-! ### Doors -/

theorem closed_setDoor (d e : Nat) (r : Door) (h : r.closed = (s.door d).closed) (hd : d < 96) :
    ((s.setDoor d r).door e).closed = (s.door e).closed := by
  by_cases hde : d = e
  · subst hde
    rw [State.setDoor_door_self _ _ _ hd, h]
  · rw [State.setDoor_door_ne _ _ _ _ hde]

theorem setDoor_aside (d : Nat) (r : Door) (h : r.closed = (s.door d).closed) (hd : d < 96) : Aside s (s.setDoor d r) :=
  { closed := fun e => closed_setDoor s d e r h hd }

theorem exec_doorSwitchChange_reaches (d : Nat) (closed : Bool) (t : Nat) : Reaches s (exec (.doorSwitchChange d closed t) s) := by
  refine reaches_nextIf _ fun hd => ?_
  have hmoved : Acts s ((s.awake.advance t).setSwitch d closed) := (awake_acts s).trans (Aside.acts {})
  split
  · refine hmoved.trans (setDoor_aside _ d _ ?_ (of_decide_eq_true hd)).acts
    unfold Door.sense
    split <;> rfl
  · exact hmoved

theorem exec_doorOpened_reaches (d t : Nat) : Reaches s (exec (.doorOpened d t) s) :=
  reaches_nextIf _ fun hd => whenRunningAt_acts s t _ fun u => by
    split
    · exact (Act.opened d (of_decide_eq_true hd)).acts
    · exact Acts.refl u

theorem exec_doorClosed_reaches (d t : Nat) : Reaches s (exec (.doorClosed d t) s) :=
  reaches_nextIf _ fun hd => whenRunningAt_acts s t _ fun u => by
    split
    · exact (Act.closed d (of_decide_eq_true hd)).acts
    · exact Acts.refl u

theorem exec_doorAlarmExpiry_reaches (d : Nat) : Reaches s (exec (.doorAlarmExpiry d) s) :=
  reaches_nextIf _ fun hd => whenRunning_acts s _ fun u => by
    split
    · have hraised : Acts u (u.raiseBay (bayOfDoor d) (.doorLeftOpen (sideOfDoor d))) :=
        acts_of_course fun _ _ => raiseBay_course u _ _
      have hquiet : Aside (u.raiseBay (bayOfDoor d) (.doorLeftOpen (sideOfDoor d)))
          ((u.raiseBay (bayOfDoor d) (.doorLeftOpen (sideOfDoor d))).setDoor d { u.door d with alarm := none }) :=
        setDoor_aside _ d _ rfl (of_decide_eq_true hd)
      exact hraised.trans hquiet.acts
    · exact Acts.refl u

/-! ### Latches -/

theorem exec_latchGrant_reaches (t : Nat) : Reaches s (exec (.latchGrant t) s) :=
  reaches_whenRunningAt s t _ fun u => by
    split
    · next r c hr hc =>
      split
      · next hmay => exact (Act.granted r c hr hc hmay).acts
      · exact Acts.refl u
    · exact Acts.refl u

theorem exec_unlockPulseEnd_reaches (c t : Nat) : Reaches s (exec (.unlockPulseEnd c t) s) :=
  reaches_nextIf _ fun hc => whenRunningAt_acts s t _ fun u => by
    split
    · next p hp => exact (Act.unlocked p c (of_decide_eq_true hc) hp).acts
    · exact Acts.refl u

theorem exec_lockPulseEnd_reaches (c t : Nat) : Reaches s (exec (.lockPulseEnd c t) s) :=
  reaches_nextIf _ fun hc => whenRunningAt_acts s t _ fun u => by
    split
    · next p hp => exact (Act.locked p c (of_decide_eq_true hc) hp).acts
    · exact Acts.refl u

theorem exec_stallTimerExpiry_reaches (t : Nat) : Reaches s (exec (.stallTimerExpiry t) s) :=
  reaches_whenRunningAt s t _ fun u => by
    split
    · split
      · exact Aside.acts {}
      · exact Acts.refl u
    · exact Acts.refl u

/-! ### The scanner and mains -/

theorem exec_passPeriodExpiry_reaches (t : Nat) : Reaches s (exec (.passPeriodExpiry t) s) :=
  reaches_whenRunningAt s t _ fun u => by
    split
    · have hset : Aside u { u with scanner := { u.scanner with passTimer := u.config.passPeriod } } := {}
      have hoverrun : ∀ v : State, Aside v v.overrunPass := fun v =>
        { counts := fun h => ⟨h.bankTime, h.generation, countUp_le _, h.rotation, h.settle, h.position, h.frames, h.counters, h.kiosks⟩ }
      dsimp only
      split
      · exact hset.acts.trans (hoverrun _).acts
      · exact hset.acts.trans (startPass_aside _).acts
    · exact Acts.refl u

theorem exec_settlingConversionEnd_reaches (t : Nat) : Reaches s (exec (.settlingConversionEnd t) s) :=
  reaches_whenRunningAt s t _ fun u => by
    split
    · split
      · exact Aside.acts {}
      · exact Acts.refl u
    · exact Acts.refl u

theorem exec_keptConversionEnd_reaches (code t : Nat) : Reaches s (exec (.keptConversionEnd code t) s) :=
  reaches_nextIf _ fun _ => whenRunningAt_acts s t _ fun u => by
    split
    · split
      · exact endKept_acts u _ _
      · exact Acts.refl u
    · exact Acts.refl u

theorem exec_zcCrossing_reaches (t : Nat) : Reaches s (exec (.zcCrossing t) s) :=
  reaches_whenRunningAt s t _ fun u => takeCrossing_acts u

theorem exec_absenceWatchExpiry_reaches (t : Nat) : Reaches s (exec (.absenceWatchExpiry t) s) :=
  reaches_whenRunningAt s t _ fun u => by
    split
    · split
      · exact Act.lost.acts
      · exact Acts.refl u
    · exact Acts.refl u

/-! ### Expiries, the store, bank time -/

theorem exec_bayExpiry_reaches (b : Nat) (f : State → Nat → State)
    (h : b < 48 → ∀ (u : State) (g : Rules), (g.fronts → Agreed u) → Course g [b] u (f u b)) :
    Reaches s (nextIf (b < 48) s (s.whenRunning (f · b))) :=
  reaches_nextIf _ fun hb => whenRunning_acts s _ fun u => acts_of_course (h (of_decide_eq_true hb) u)

theorem completeWrite_aside (w : StoreWrite) : Aside s (s.completeWrite w) := by
  unfold State.completeWrite
  dsimp only
  split
  · exact {}
  · exact {}

theorem exec_storeWriteComplete_reaches (t : Nat) : Reaches s (exec (.storeWriteComplete t) s) :=
  reaches_whenRunningAt s t _ fun u => by
    split
    · split
      · exact (completeWrite_aside u _).acts
      · exact Acts.refl u
    · exact Acts.refl u

/-- Every row of the table answers a next state, by acts. -/
theorem exec_reaches (i : Instr) : Reaches s (exec i s) := by
  cases i with
  | linkAddressCharacter a t => exact exec_linkAddressCharacter_reaches s a t
  | linkDataCharacter data stop t => exact exec_linkDataCharacter_reaches s data stop t
  | frameEnd data stop t => exact exec_frameEnd_reaches s data stop t
  | frameGapTimeout t => exact exec_frameGapTimeout_reaches s t
  | replySend t => exact exec_replySend_reaches s t
  | replyDone t => exact exec_replyDone_reaches s t
  | powerOn => exact exec_powerOn_reaches s
  | resetnLow m => exact exec_resetnLow_reaches s m
  | resetnRelease => exact exec_resetnRelease_reaches s
  | lossOfVdd m => exact exec_lossOfVdd_reaches s m
  | kioskCharacter l c stop => exact exec_kioskCharacter_reaches s l c stop
  | kioskEntry l => exact exec_kioskEntry_reaches s l
  | kioskFrameTimeout l => exact exec_kioskFrameTimeout_reaches s l
  | kioskReplyDone l => exact exec_kioskReplyDone_reaches s l
  | doorSwitchChange d c t => exact exec_doorSwitchChange_reaches s d c t
  | doorOpened d t => exact exec_doorOpened_reaches s d t
  | doorClosed d t => exact exec_doorClosed_reaches s d t
  | doorAlarmExpiry d => exact exec_doorAlarmExpiry_reaches s d
  | latchGrant t => exact exec_latchGrant_reaches s t
  | unlockPulseEnd c t => exact exec_unlockPulseEnd_reaches s c t
  | lockPulseEnd c t => exact exec_lockPulseEnd_reaches s c t
  | stallTimerExpiry t => exact exec_stallTimerExpiry_reaches s t
  | passPeriodExpiry t => exact exec_passPeriodExpiry_reaches s t
  | settlingConversionEnd t => exact exec_settlingConversionEnd_reaches s t
  | keptConversionEnd code t => exact exec_keptConversionEnd_reaches s code t
  | zcCrossing t => exact exec_zcCrossing_reaches s t
  | absenceWatchExpiry t => exact exec_absenceWatchExpiry_reaches s t
  | preheatStartExpiry b => exact exec_bayExpiry_reaches s b State.takePreheatStart fun _ _ _ _ => takePreheatStart_course
  | lapseExpiry b => exact exec_bayExpiry_reaches s b State.takeLapse fun _ _ _ _ => takeLapse_course
  | loadWindowExpiry b => exact exec_bayExpiry_reaches s b State.takeLoadWindow fun _ _ _ _ => takeLoadWindow_course
  | deadlineExpiry b => exact exec_bayExpiry_reaches s b State.takeDeadline fun _ _ _ => takeDeadline_course
  | releaseTimerExpiry b => exact exec_bayExpiry_reaches s b State.takeReleaseTimer fun _ _ _ => takeReleaseTimer_course
  | clearingWindowExpiry b =>
    exact exec_bayExpiry_reaches s b State.takeClearingWindow fun hb _ _ _ => takeClearingWindow_course hb
  | storeWriteComplete t => exact exec_storeWriteComplete_reaches s t
  | bankTimeTick =>
    exact reaches_whenRunning s _ fun u => Aside.acts { counts := fun h =>
      ⟨satTime_le _, h.generation, h.overruns, h.rotation, h.settle, h.position, h.frames, h.counters, h.kiosks⟩ }
  | lossOfVret => exact .next Act.forgotten.acts
  | restart => exact exec_restart_reaches s _ _
  | book | amendNewCode | amendExtend | amendNewLoad | cancel | load | clear | openOrder | lockout | restore | query | scan
  | status | configure | profileWrite | profileRead | unknownCommand => exact exec_server_reaches s _ rfl

/-- A step is a chain of acts, on the state with the queue's rest. -/
theorem step_acts {t : State} (h : step s = .next t) : Acts s t := by
  unfold step at h
  split at h
  · cases h
    exact awake_acts s
  · next c rest _ =>
    obtain ⟨u, hu, hacts⟩ := exec_reaches { s with pending := rest } c
    rw [hu] at h
    cases h
    exact Acts.trans (t := { s with pending := rest }) (Aside.acts {}) hacts

/-- What every act keeps, every step keeps. -/
theorem step_keeps {P : State → Prop} (hP : ∀ s t, Act s t → P s → P t) {t : State} (h : step s = .next t) (hs : P s) : P t := by
  have hacts : Acts s t := step_acts s h
  clear h
  induction hacts with
  | refl => exact hs
  | tail _ ha ih => exact hP _ _ ha ih

end

end Sys2Proof.Acts
end

section

-- One proof at a time: the proofs here together ask for more threads than the memory limit leaves room for.
set_option Elab.async false

/-! What carrying out a server command does to the bays: courses, but for BOOK, CANCEL and NEW_CODE, which change entries. -/

namespace Sys2Proof.Acts

open Sys2Proof Sys2Proof.Machine Sys2Proof.Courses

/-- Courses of bays and changes elsewhere, one after another; with `directory`, none that changes entries by hand. -/
def Handling (directory : Prop) : State → State → Prop :=
  Relation.ReflTransGen fun u v =>
    (∃ bs, ∀ g : Rules, (g.fronts → Agreed u) → (g.directory → directory) → Course g bs u v) ∨
      (Still u v ∧ (directory → v.directory = u.directory))

section

variable {directory : Prop} {s t u : State}

theorem Handling.refl (directory : Prop) (s : State) : Handling directory s s := Relation.ReflTransGen.refl

theorem Handling.trans (h : Handling directory s t) (h' : Handling directory t u) : Handling directory s u :=
  Relation.ReflTransGen.trans h h'

theorem handling_of_course {bs : List Nat}
    (h : ∀ g : Rules, (g.fronts → Agreed s) → (g.directory → directory) → Course g bs s t) : Handling directory s t :=
  .single (.inl ⟨bs, h⟩)

theorem handling_of_aside (h : Aside s t) : Handling directory s t := .single (.inr ⟨h.toStill, fun _ => h.directory⟩)

theorem handling_of_still (h : Still s t) (hd : ¬ directory) : Handling directory s t := .single (.inr ⟨h, fun h' => absurd h' hd⟩)

theorem Handling.mono {directory' : Prop} (h : Handling directory s t) (hd : directory' → directory) : Handling directory' s t :=
  Relation.ReflTransGen.mono (fun _ _ hstep => hstep.imp
    (fun ⟨bs, hc⟩ => ⟨bs, fun g hg hd' => hc g hg fun hgd => hd (hd' hgd)⟩)
    fun ⟨hs, hdir⟩ => ⟨hs, fun hd' => hdir (hd hd')⟩) _ _ h

/-- What courses and changes elsewhere keep is kept by carrying out a command. -/
theorem Handling.keeps {P : State → Prop} (h : Handling directory s t)
    (hcourse : ∀ (u v : State) (bs : List Nat),
      (∀ g : Rules, (g.fronts → Agreed u) → (g.directory → directory) → Course g bs u v) → P u → P v)
    (hstill : ∀ u v : State, Still u v → (directory → v.directory = u.directory) → P u → P v) (hs : P s) : P t := by
  induction h with
  | refl => exact hs
  | tail _ hstep ih =>
    obtain ⟨bs, hc⟩ | ⟨hst, hd⟩ := hstep
    · exact hcourse _ _ bs hc ih
    · exact hstill _ _ hst hd ih

theorem handling_forBays (bs : List Nat) (f : State → Nat → State) (h : ∀ b ∈ bs, ∀ s, Handling directory s (f s b)) (s : State) :
    Handling directory s (s.forBays bs f) := by
  induction bs generalizing s with
  | nil => exact Handling.refl _ s
  | cons b bs ih =>
    exact (h b (List.mem_cons_self ..) s).trans (ih (fun c hc => h c (List.mem_cons_of_mem _ hc)) (f s b))

end

/-! ### Entries -/

theorem nextGeneration_le (n : Nat) : nextGeneration n ≤ 65535 := Nat.le_of_lt_succ (Nat.mod_lt _ (by decide))

theorem still_of_directory {s : State} {d : Directory} (hd : d.generation ≤ 65535) : Still s { s with directory := d } :=
  { counts := fun h => ⟨h.bankTime, hd, h.overruns, h.rotation, h.settle, h.position, h.frames, h.counters, h.kiosks⟩ }

/-! ### The bays of a BOOK (R41, R42) -/

section

variable (s : State)

theorem candidates_nodup : s.candidates.Nodup := List.nodup_range.filter _

theorem chooseBays_sublist (k : Nat) : (s.chooseBays k).Sublist s.candidates := by
  unfold State.chooseBays
  split
  · exact (List.take_sublist _ _).trans List.filter_sublist
  · exact List.take_sublist _ _

theorem chooseBays_nodup (k : Nat) : (s.chooseBays k).Nodup := (candidates_nodup s).sublist (chooseBays_sublist s k)

theorem vacant_of_mem_chooseBays {k b : Nat} (h : b ∈ s.chooseBays k) : b < 48 ∧ (s.bay b).state = .vacant := by
  obtain ⟨hb, hc⟩ := List.mem_filter.mp ((chooseBays_sublist s k).subset h)
  refine ⟨List.mem_range.mp hb, ?_⟩
  simp only [State.candidate, Bool.and_eq_true, decide_eq_true_eq] at hc
  exact hc.1.1.1.1.1

theorem preheatIfReached_bay_ne (b c : Nat) (h : b ≠ c) : (s.preheatIfReached b).bay c = s.bay c := by
  unfold State.preheatIfReached
  split
  · exact State.changeBay_bay_ne _ _ _ _ h
  · rfl

theorem bindBay_bay_ne (code offset b slot c : Nat) (h : b ≠ c) : (s.bindBay code offset b slot).bay c = s.bay c := by
  unfold State.bindBay
  dsimp only
  rw [preheatIfReached_bay_ne _ _ _ h, State.changeBay_bay_ne _ _ _ _ h]

/-- The chosen bays bound one after another. -/
theorem bindBays_course {g : Rules} (code offset : Nat) (bound : List (Nat × Nat)) (hg : ¬ g.directory)
    (hdistinct : (bound.map Prod.fst).Nodup) (hvacant : ∀ p ∈ bound, (s.bay p.1).state = .vacant) :
    Course g (bound.map Prod.fst) s (bound.foldl (fun s p => s.bindBay code offset p.1 p.2) s) := by
  induction bound generalizing s with
  | nil => exact Course.refl ..
  | cons p ps ih =>
    obtain ⟨hp, hps⟩ := List.nodup_cons.mp hdistinct
    have hfirst : Course g (p.1 :: ps.map Prod.fst) s (s.bindBay code offset p.1 p.2) :=
      (bindBay_course code offset p.2 hg (hvacant p (List.mem_cons_self ..))).of_single (List.mem_cons_self ..)
    refine hfirst.trans ((ih _ hps fun q hq => ?_).mono fun c hc => List.mem_cons_of_mem _ hc)
    have hne : p.1 ≠ q.1 := fun h => hp (by rw [h]; exact List.mem_map_of_mem hq)
    rw [bindBay_bay_ne _ _ _ _ _ _ hne]
    exact hvacant q (List.mem_cons_of_mem _ hq)

theorem map_fst_zip_sublist (bs slots : List Nat) : ((bs.zip slots).map Prod.fst).Sublist bs := by
  induction bs generalizing slots with
  | nil => exact List.nil_sublist _
  | cons b bs ih =>
    cases slots with
    | nil => exact List.nil_sublist _
    | cons n slots => exact (ih slots).cons_cons b

theorem serveBook_handling (ref code : Nat) (slots : List Nat) (offset : Nat) :
    Handling False s (serveBook s ref code slots offset).state := by
  unfold serveBook
  split
  · exact Handling.refl ..
  split
  · exact Handling.refl ..
  split
  · exact Handling.refl ..
  split
  · exact Handling.refl ..
  split
  · exact Handling.refl ..
  dsimp only
  split
  · exact Handling.refl ..
  · have hsub : (((s.chooseBays slots.length).zip slots).map Prod.fst).Sublist (s.chooseBays slots.length) :=
      map_fst_zip_sublist _ _
    refine (handling_of_course fun g _ hd => bindBays_course s code offset _ hd ((chooseBays_nodup s _).sublist hsub)
      fun p hp => ?_).trans (handling_of_still ?_ id)
    · exact (vacant_of_mem_chooseBays s (hsub.subset (List.mem_map_of_mem hp))).2
    · exact still_of_directory (nextGeneration_le _)

/-! ### The other commands -/

theorem serveNewCode_handling (e : Entry) (code : Nat) : Handling False s (serveNewCode s e code).state := by
  unfold serveNewCode
  split
  · exact Handling.refl ..
  · have hkeyed : Still s { s with directory := s.directory.rekey e code } := still_of_directory (nextGeneration_le _)
    exact (handling_of_still hkeyed id).trans (handling_forBays _ _ (fun b _ u =>
      handling_of_course fun g _ hd => rename_course _ hd) _)

theorem serveExtend_handling (e : Entry) (minutes : Nat) : Handling True s (serveExtend s e minutes).state :=
  handling_forBays _ _ (fun _ _ _ => handling_of_course fun _ _ _ => extendBay_course minutes) s

theorem serveNewLoad_handling (e : Entry) (offset : Nat) : Handling True s (serveNewLoad s e offset).state :=
  handling_forBays _ _ (fun _ _ _ => handling_of_course fun _ _ _ => retimeBay_course offset) s

theorem serveAmend_handling (ref form value : Nat) : Handling (form ≠ amendFormNewCode) s (serveAmend s ref form value).state := by
  unfold serveAmend
  split
  · exact Handling.refl ..
  · split
    · exact Handling.refl ..
    · split
      · exact (serveNewCode_handling s _ _).mono (by tauto)
      · split
        · exact (serveExtend_handling s _ _).mono fun _ => trivial
        · exact (serveNewLoad_handling s _ _).mono fun _ => trivial

theorem serveCancel_handling (ref : Nat) : Handling False s (serveCancel s ref).state := by
  unfold serveCancel
  split
  · exact Handling.refl ..
  · split
    · exact Handling.refl ..
    · split
      · exact Handling.refl ..
      · next e _ _ _ =>
        have hremoved : Still s { s with directory := s.directory.remove e.code } := still_of_directory (nextGeneration_le _)
        exact ((handling_of_still hremoved id).trans (handling_forBays _ _ (fun _ _ _ =>
          handling_of_course fun _ _ hd => rename_course none hd) _)).trans
            (handling_forBays _ _ (fun _ _ _ => handling_of_course fun _ _ _ => cancelBay_course) _)

theorem serveLoad_handling (ref b force : Nat) : Handling True s (serveLoad s ref b force).state := by
  unfold serveLoad
  split
  · exact Handling.refl ..
  · dsimp only
    split
    · exact Handling.refl ..
    · next hst =>
      split
      · exact Handling.refl ..
      · split
        · exact Handling.refl ..
        · have hwaits : (s.bay b).state = .ready ∨ (s.bay b).state = .preheating := by tauto
          have hb : b < 48 := hwaits.elim (fun h => lt_of_state h) fun h => lt_of_state h
          have hlive : (s.bay b).state.resting = false := by obtain h | h := hwaits <;> rw [h] <;> rfl
          refine handling_of_course (bs := [b]) fun g _ _ => (change_course s b Bay.loadingFrom (.inl rfl) rfl rfl rfl
            (fun _ => by obtain h | h := hwaits <;> rw [h] <;> rfl) rfl hlive.symm
            (fun h => by rw [h] at hwaits; exact absurd hwaits (by decide))
            fun _ => frontKept_of_not_handed _ (not_handed_of_waiting (by tauto))).trans
              (request_course _ b _ _ (bayOfDoor_rear b) (by simp only [doorOf]; omega) (fun h => nomatch h)
                fun _ hd => absurd hd (rear_ne_front b))

theorem serveClear_handling (b : Nat) : Handling True s (serveClear s b).state := by
  unfold serveClear
  split
  · exact Handling.refl ..
  · dsimp only
    split
    · exact Handling.refl ..
    · exact handling_of_course fun g _ _ => (write_course s b _).trans
        (request_course _ b _ _ (bayOfDoor_rear b) (by simp only [doorOf]; omega) (fun h => nomatch h)
          fun _ hd => absurd hd (rear_ne_front b))

theorem serveOpen_handling (k v : Nat) : Handling True s (serveOpen s k v).state := by
  unfold serveOpen
  split
  · exact Handling.refl ..
  · exact handling_of_course fun _ _ _ => releaseEntry_course _

theorem setLockedOut_aside (m : Nat) (v : Bool) : Aside s (s.setLockedOut m v) := {}

theorem serveLockout_handling (b : Nat) : Handling True s (serveLockout s b).state := by
  unfold serveLockout
  split
  · exact Handling.refl ..
  · exact (handling_forBays _ _ (fun _ _ _ => handling_of_course fun _ _ _ => lockOutBay_course) s).trans
      (handling_of_aside (setLockedOut_aside _ _ _))

theorem serveRestore_handling (b : Nat) : Handling True s (serveRestore s b).state := by
  unfold serveRestore
  split
  · exact Handling.refl ..
  · exact (handling_forBays _ _ (fun _ _ _ => handling_of_course fun _ _ _ => restoreBay_course) s).trans
      (handling_of_aside (setLockedOut_aside _ _ _))

theorem serveStatus_handling (o : Nat) : Handling True s (serveStatus s o).state := by
  have hread : ∀ bs : List Nat, Handling True s (s.forBays bs fun s b => s.setNotices b BayNotices.empty) := fun bs =>
    handling_forBays _ _ (fun _ _ _ => handling_of_aside {}) s
  unfold serveStatus
  split
  · exact Handling.refl ..
  · dsimp only
    split
    · exact (hread _).trans (handling_of_aside { counts := fun h => ⟨h.bankTime, h.generation, Nat.zero_le _, h.rotation, h.settle,
        h.position, h.frames, ⟨Nat.zero_le _, Nat.zero_le _, Nat.zero_le _, Nat.zero_le _⟩, h.kiosks⟩ })
    · exact (hread _).trans (handling_of_aside {})

theorem beginWrite_aside (target : StoreTarget) (fields : List Byte) : Aside s (s.beginWrite target fields) := {}

theorem serveConfigure_handling (bs : List Byte) : Handling True s (serveConfigure s bs).state := by
  unfold serveConfigure
  split
  · exact Handling.refl ..
  · exact handling_of_aside (beginWrite_aside s _ _)

theorem serveProfileWrite_handling (n : Nat) (bs : List Byte) : Handling True s (serveProfileWrite s n bs).state := by
  unfold serveProfileWrite
  split
  · exact Handling.refl ..
  split
  · exact Handling.refl ..
  split
  · exact Handling.refl ..
  split
  · exact handling_of_aside (beginWrite_aside s _ _)
  split
  · exact Handling.refl ..
  dsimp only
  split
  · exact Handling.refl ..
  · exact handling_of_aside (beginWrite_aside s _ _)

/-- The commands that only report, or are answered by the link itself, leave the state. -/
theorem serveQuery_state (k v : Nat) : (serveQuery s k v).state = s := by
  unfold serveQuery
  split <;> rfl

theorem serveScan_state (o c : Nat) : (serveScan s o c).state = s := by
  unfold serveScan
  split <;> rfl

theorem serveProfileRead_state (n : Nat) : (serveProfileRead s n).state = s := by
  unfold serveProfileRead
  split
  · rfl
  · split <;> rfl

theorem serveRestart_state (o : Nat) : (serveRestart s o).state = s := by
  unfold serveRestart
  split <;> rfl

/-- The commands that change entries other than by a bay's leaving its own. -/
def Rebooks : Command → Prop
  | .book _ _ _ _ => True
  | .amend _ form _ => form = amendFormNewCode
  | .cancel _ => True
  | _ => False

theorem carryOut_handling (c : Command) : Handling (¬ Rebooks c) s (carryOut s c).state := by
  have same : ∀ {t : State}, t = s → Handling (¬ Rebooks c) s t := fun h => by rw [h]; exact Handling.refl ..
  have regular : ∀ {t : State}, Handling True s t → Handling (¬ Rebooks c) s t := fun h => h.mono fun _ => trivial
  cases c with
  | book r k ss o => exact (serveBook_handling s r k ss o).mono fun h => h trivial
  | amend r f v => exact (serveAmend_handling s r f v).mono id
  | cancel r => exact (serveCancel_handling s r).mono fun h => h trivial
  | load r b f => exact regular (serveLoad_handling s r b f)
  | clear b => exact regular (serveClear_handling s b)
  | openOrder k v => exact regular (serveOpen_handling s k v)
  | lockout b => exact regular (serveLockout_handling s b)
  | restore b => exact regular (serveRestore_handling s b)
  | query k v => exact same (serveQuery_state s k v)
  | scan o k => exact same (serveScan_state s o k)
  | status o => exact regular (serveStatus_handling s o)
  | configure bs => exact regular (serveConfigure_handling s bs)
  | profileWrite n bs => exact regular (serveProfileWrite_handling s n bs)
  | profileRead n => exact same (serveProfileRead_state s n)
  | restart o => exact same (serveRestart_state s o)
  | unknown | badLength | tooLong => exact same rfl

end

end Sys2Proof.Acts
end

section

-- One proof at a time: the proofs here together ask for more threads than the memory limit leaves room for.
set_option Elab.async false

/-! The acts that are more than one course taken apart, and what follows for an invariant of the bay records and the directory alone. -/

namespace Sys2Proof.Acts

open Sys2Proof Sys2Proof.Machine Sys2Proof.Courses

/-! ### Doors -/

section

variable {g : Rules} (s : State) (d : Nat)

/-- R136: the door held open. -/
def openedDoor : State := s.setDoor d { s.door d with closed := false, candidate := none }

/-- R136: the door held closed, and its mark of a failed lock cleared (R139). -/
def closedDoor : State :=
  (s.setDoor d { s.door d with closed := true, candidate := none }).setOpenAfterFailedLock d false

/-- R136: an opening is a course of the door's bay, the run cut and the alarm started. -/
theorem doorOpenedStep_course (hs : g.fronts → Agreed s) : ∃ u : State, Course g [bayOfDoor d] (openedDoor s d) u ∧
    ∃ alarm, s.doorOpenedStep d = (u.cutRun (bayOfDoor d)).setDoor d { u.door d with alarm := alarm } := by
  have hs' : g.fronts → Agreed (openedDoor s d) := fun hg => agreed_congr (s := s) rfl (hs hg)
  refine ⟨if (openedDoor s d).latchPosition d = .locked then (openedDoor s d).forcedDoor (bayOfDoor d) (sideOfDoor d)
    else (openedDoor s d).openedUnforced (bayOfDoor d) (sideOfDoor d), ?_, _, rfl⟩
  split
  · exact forcedDoor_course _ hs'
  · exact openedUnforced_course _

theorem relockTest_course {b : Nat} (own : bayOfDoor d = b) (hd : d < 96) : Course g [b] s (s.relockTest d) := by
  unfold State.relockTest
  split
  · exact requestLock_course s b own hd
  · exact Course.refl ..

/-- R136: a closing is a course of the door's bay, and the alarm ended; its front latch is returned at its end. -/
theorem doorClosedStep_course (hd : d < 96) (hg : ¬ g.fronts) : ∃ u : State, Course g [bayOfDoor d] (closedDoor s d) u ∧
    s.doorClosedStep d = u.setDoor d { u.door d with alarm := none } :=
  ⟨_, (closedOnBay_course (s := closedDoor s d) _ hg).trans (relockTest_course _ d rfl hd), rfl⟩

end

/-! ### Latches -/

section

variable {g : Rules} (s : State)

/-- R144: the record and the channel at the end of a pulse. -/
def endedPulse (c d : Nat) (p : LatchPosition) : State := (s.setChannel c none).setLatchPosition d p

theorem endUnlock_course (c d : Nat) : ∃ u : State, Course g [bayOfDoor d] (endedPulse s c d .unlocked) u ∧
    Aside u (s.endUnlock c d) :=
  ⟨_, unlockCompletion_course (s := endedPulse s c d .unlocked) _ rfl, resumeScanner_aside _⟩

/-- R145: a failed lock withdraws a waiting UNLOCK and completes it. -/
theorem lockFails_eq (d : Nat) : s.lockFails d =
    let u := ((s.setLatchPosition d .unlocked).setOpenAfterFailedLock d true).raiseBay (bayOfDoor d) (.lockFailed (sideOfDoor d))
    if (u.pendingFor d).any (·.action = .unlock) then (u.withdrawRequest d .unlock).unlockCompletion d else u := by
  unfold State.lockFails
  dsimp only
  generalize ((s.setLatchPosition d .unlocked).setOpenAfterFailedLock d true).raiseBay (bayOfDoor d)
    (.lockFailed (sideOfDoor d)) = u
  unfold State.withdrawRequest
  cases h : u.pendingFor d with
  | none => rfl
  | some r => cases ha : r.action <;> simp [ha]

/-- R145: the record and the channel at the end of a LOCK pulse. -/
def endedLock (c d : Nat) : State :=
  if (s.door d).closed then endedPulse s c d .locked else (endedPulse s c d .unlocked).setOpenAfterFailedLock d true

theorem endLock_course (c d : Nat) : ∃ u : State, Course g [bayOfDoor d] (endedLock s c d) u ∧ Aside u (s.endLock c d) := by
  unfold endedLock State.endLock
  have hdoor : (s.setChannel c none).door d = s.door d := rfl
  dsimp only
  rw [hdoor]
  split
  · exact ⟨_, Course.refl .., resumeScanner_aside _⟩
  · refine ⟨_, ?_, resumeScanner_aside _⟩
    rw [lockFails_eq]
    dsimp only
    have hnoted := raiseBay_course (g := g) ((endedPulse s c d .unlocked).setOpenAfterFailedLock d true) (bayOfDoor d)
      (.lockFailed (sideOfDoor d))
    split
    · exact hnoted.trans ((withdrawUnlock_course _ _ rfl).trans (unlockCompletion_course _ _ rfl))
    · exact hnoted

end

/-! ### Starts -/

section

variable {g : Rules} (s : State)

theorem relockSweep_course : Course g allBays s s.relockSweep := by
  suffices ∀ l : List Nat, (∀ d ∈ l, d < 96) → ∀ s : State,
      Course g allBays s (l.foldl (fun s d => if (s.door d).closed then s.requestLock d else s) s) from
    this _ (fun d hd => List.mem_range.mp hd) s
  intro l
  induction l with
  | nil => exact fun _ s => Course.refl ..
  | cons d l ih =>
    intro hl s
    have hd : d < 96 := hl d (List.mem_cons_self ..)
    refine Course.trans (t := if (s.door d).closed then s.requestLock d else s) ?_
      (ih (fun e he => hl e (List.mem_cons_of_mem _ he)) _)
    split
    · exact (requestLock_course s _ rfl hd).of_single (List.mem_range.mpr (by simp only [bayOfDoor]; omega))
    · exact Course.refl ..

theorem resolveAll_course (hg : ¬ g.fronts) : Course g allBays s s.resolveAll :=
  Course.forBays' _ fun _ _ _ => resolveBay_course hg

theorem takeAllReached_course (hs : g.fronts → Agreed s) : Course g allBays s s.takeAllReached :=
  Course.forBays _ (fun u => g.fronts → Agreed u) hs fun _ _ _ hu =>
    ⟨fun hg => (takeReached_course hu).agreed (hu hg), takeReached_course hu⟩

theorem resolveBay_latch (b : Nat) : (s.resolveBay b).latch = s.latch := by
  unfold State.resolveBay
  generalize hu : s.setBay b (s.bay b).retained = u
  have hlatch : u.latch = s.latch := by rw [← hu]; rfl
  dsimp only
  cases (u.bay b).state with
  | vacant | booked | withdrawn | outOfService | preheating | ready | holding => exact hlatch
  | loading =>
    dsimp only
    split
    · exact (enterWithdrawn_latch u b _).trans hlatch
    · exact (changeBay_latch u b _).trans hlatch
  | releasing => exact (changeBay_latch u b _).trans hlatch
  | collecting =>
    dsimp only
    split
    · exact (sendToVacant_latch _ b).trans hlatch
    · exact hlatch

theorem resolveAll_latch : s.resolveAll.latch = s.latch := by
  unfold State.resolveAll State.forBays
  suffices ∀ l : List Nat, ∀ s : State, (l.foldl State.resolveBay s).latch = s.latch from this _ s
  intro l
  induction l with
  | nil => exact fun _ => rfl
  | cons b l ih => exact fun s => (ih _).trans (resolveBay_latch s b)

/-- R207: what a start resolves the records from, and every block begun afresh. -/
def begunAfresh (cold : Bool) : State :=
  let s := if s.startsWarm cold then s.chooseConfiguration else s.chooseConfiguration.emptyRecords
  s.readSwitches.startBlocks

/-- R206, R207: a start's resolution is, when warm, the resolution of every bay. -/
theorem resolved_course (cold : Bool) (hg : ¬ g.fronts) : ∃ u : State, Course g allBays (begunAfresh s cold) u ∧
    u.latch = (begunAfresh s cold).latch ∧
    ∃ n, s.resolved cold = { u with bankNotices := n, retentionAgrees := true } := by
  have noted : ∀ (u : State) (n : BankNotices), ∃ n', { if s.configurationGood = true then { u with bankNotices := n }
      else State.raiseBank { u with bankNotices := n } .configDefaulted with retentionAgrees := true } =
        { u with bankNotices := n', retentionAgrees := true } := fun u n => by
    split
    · exact ⟨_, rfl⟩
    · exact ⟨_, rfl⟩
  unfold State.resolved begunAfresh
  cases s.startsWarm cold
  · simp only [Bool.false_eq_true, if_false]
    exact ⟨_, Course.refl .., rfl, noted _ _⟩
  · simp only [if_true]
    exact ⟨_, resolveAll_course _ hg, resolveAll_latch _, noted _ _⟩

end

end Sys2Proof.Acts
end

section

-- One proof at a time: the proofs here together ask for more threads than the memory limit leaves room for.
set_option Elab.async false

/-! Invariants of the bay records and the directory (R1, R4, R24, R25, R89, R105): what every step keeps of them. -/

namespace Sys2Proof.Acts

open Sys2Proof Sys2Proof.Machine Sys2Proof.Courses

/-! ### Frames of the larger acts -/

section

variable (s : State)

theorem loseWrite_frame : s.loseWrite = { s with store := s.loseWrite.store, freeCount := s.loseWrite.freeCount } := by
  unfold State.loseWrite
  split <;> rfl

theorem loseMains_frame : s.loseMains =
    { s with mains := s.loseMains.mains, heater := s.loseMains.heater, bankNotices := s.loseMains.bankNotices } := by
  unfold State.loseMains
  dsimp only
  split <;> rfl

/-- A state with another mark of a start in progress, its check failing where `written` is false. -/
def withMarks (starting : Option Bool) (written : Bool) : State :=
  { s with starting := starting, retentionAgrees := s.retentionAgrees && written }

@[simp] theorem withMarks_bays (x : Option Bool) (w : Bool) : (withMarks s x w).bays = s.bays := rfl
@[simp] theorem withMarks_directory (x : Option Bool) (w : Bool) : (withMarks s x w).directory = s.directory := rfl
@[simp] theorem withMarks_agrees (x : Option Bool) (w : Bool) : (withMarks s x w).retentionAgrees = (s.retentionAgrees && w) := rfl

/-- R205, R206: a part stopped, its records as they stand. -/
def stoppedAt (written : Bool) : State := withMarks s.loseWrite.startBlocks none written

theorem stopPart_of_resolved (cold : Bool) (h : s.starting = some cold) :
    s.stopPart .resolutionWritten = stoppedAt (s.resolved cold) true := by
  unfold State.stopPart stoppedAt
  rw [h]
  dsimp only
  generalize s.resolved cold = u
  rfl

theorem stopPart_of_not_resolved (m : StopMoment) (h : s.starting = none ∨ m ≠ .resolutionWritten) :
    s.stopPart m = stoppedAt s (m ≠ .withinStep) := by
  unfold State.stopPart stoppedAt
  cases hst : s.starting with
  | none => rfl
  | some cold =>
    cases m with
    | betweenSteps | withinStep => rfl
    | resolutionWritten =>
      rw [hst] at h
      exact absurd h (by simp)

@[simp] theorem chooseConfiguration_bays : s.chooseConfiguration.bays = s.bays := by simp only [State.chooseConfiguration]
@[simp] theorem chooseConfiguration_directory : s.chooseConfiguration.directory = s.directory := by
  simp only [State.chooseConfiguration]
@[simp] theorem readSwitches_bays : s.readSwitches.bays = s.bays := by simp only [State.readSwitches]
@[simp] theorem readSwitches_directory : s.readSwitches.directory = s.directory := by simp only [State.readSwitches]
@[simp] theorem startBlocks_bays : s.startBlocks.bays = s.bays := by simp only [State.startBlocks]
@[simp] theorem startBlocks_directory : s.startBlocks.directory = s.directory := by simp only [State.startBlocks]
@[simp] theorem startBlocks_agrees : s.startBlocks.retentionAgrees = s.retentionAgrees := by simp only [State.startBlocks]
@[simp] theorem loseWrite_bays : s.loseWrite.bays = s.bays := by rw [loseWrite_frame]
@[simp] theorem loseWrite_directory : s.loseWrite.directory = s.directory := by rw [loseWrite_frame]
@[simp] theorem loseWrite_agrees : s.loseWrite.retentionAgrees = s.retentionAgrees := by rw [loseWrite_frame]
@[simp] theorem stoppedAt_bays (w : Bool) : (stoppedAt s w).bays = s.bays := by simp [stoppedAt]
@[simp] theorem stoppedAt_directory (w : Bool) : (stoppedAt s w).directory = s.directory := by simp [stoppedAt]
@[simp] theorem stoppedAt_agrees (w : Bool) : (stoppedAt s w).retentionAgrees = (s.retentionAgrees && w) := by simp [stoppedAt]

theorem beginStart_bays (cold : Bool) : (s.beginStart cold).bays = s.bays := by simp [State.beginStart]
theorem beginStart_directory (cold : Bool) : (s.beginStart cold).directory = s.directory := by simp [State.beginStart]
theorem beginStart_agrees (cold : Bool) : (s.beginStart cold).retentionAgrees = s.retentionAgrees := by simp [State.beginStart]

theorem carryOut_agrees (c : Command) : (carryOut s c).state.retentionAgrees = s.retentionAgrees :=
  (carryOut_handling s c).keeps (P := fun u => u.retentionAgrees = s.retentionAgrees)
    (fun _ _ _ h hu => (h ⟨False, False⟩ (fun h => h.elim) (fun h => h.elim)).baysOnly.agrees.trans hu)
    (fun _ _ h _ hu => h.agrees.trans hu) rfl

end

/-! ### Invariants of records and directory -/

/-- A predicate of the bay records and the directory that the moves of a running part, the commands and a cold start keep. -/
structure BayInvariant (P : State → Prop) : Prop where
  congr : ∀ {u v : State}, v.bays = u.bays → v.directory = u.directory → P u → P v
  move : ∀ {b : Nat} {u v : State}, Move ⟨True, False⟩ b u v → P u → P v
  serve : ∀ (s : State) (c : Command), P s → P (carryOut s c).state
  empty : ∀ u : State, P u.emptyRecords

namespace BayInvariant

variable {P : State → Prop} (hP : BayInvariant P) {s t : State}
include hP

theorem course {bs : List Nat} (h : Course ⟨True, False⟩ bs s t) (hs : P s) : P t :=
  h.keeps (fun _ _ _ _ hm => hP.move hm) hs

theorem aside (h : Aside s t) (hs : P s) : P t := hP.congr h.bays h.directory hs

theorem begunAfresh (cold : Bool) (hs : s.retentionAgrees = true → P s) : P (Acts.begunAfresh s cold) := by
  have hafresh : ∀ u : State, P u → P u.readSwitches.startBlocks := fun u hu =>
    hP.congr (u := u) (by simp) (by simp) hu
  unfold Acts.begunAfresh
  dsimp only
  cases h : s.startsWarm cold
  · exact hafresh _ (hP.empty _)
  · have hagrees : s.retentionAgrees = true := by
      unfold State.startsWarm at h
      rw [Bool.and_eq_true] at h
      exact h.1
    exact hafresh _ (hP.congr (u := s) (by simp) (by simp) (hs hagrees))

theorem resolved (cold : Bool) (hs : s.retentionAgrees = true → P s) : P (s.resolved cold) := by
  obtain ⟨u, hu, -, n, hn⟩ := resolved_course (g := ⟨True, False⟩) s cold id
  rw [hn]
  exact hP.congr (u := u) rfl rfl (hP.course hu (hP.begunAfresh cold hs))

theorem endStart (cold : Bool) (hs : s.retentionAgrees = true → P s) : P (s.endStart cold) := by
  have hswept : P (s.resolved cold).relockSweep := hP.course (relockSweep_course _) (hP.resolved cold hs)
  have hended : ∀ u : State, P u → P { u with starting := none } := fun u hu => hP.congr (u := u) rfl rfl hu
  unfold State.endStart
  dsimp only
  split
  · exact hended _ (hP.course (takeAllReached_course _ fun h => h.elim) hswept)
  · exact hended _ hswept

theorem stopPart (m : StopMoment) (hs : s.retentionAgrees = true → P s) (ht : (s.stopPart m).retentionAgrees = true) :
    P (s.stopPart m) := by
  have hstopped : ∀ (u : State) (w : Bool), P u → P (stoppedAt u w) := fun u w hu => hP.congr (u := u) (by simp) (by simp) hu
  by_cases h : ∃ cold, s.starting = some cold ∧ m = .resolutionWritten
  · obtain ⟨cold, hst, rfl⟩ := h
    rw [stopPart_of_resolved s cold hst]
    exact hstopped _ _ (hP.resolved cold hs)
  · have hnot : s.starting = none ∨ m ≠ .resolutionWritten := by
      cases hst : s.starting with
      | none => exact .inl rfl
      | some cold => exact .inr fun hm => h ⟨cold, hst, hm⟩
    rw [stopPart_of_not_resolved s m hnot] at ht ⊢
    rw [stoppedAt_agrees, Bool.and_eq_true] at ht
    exact hstopped s _ (hs ht.1)

/-- Every act keeps it, while what Retention Memory holds has not been lost (log 13). -/
theorem act (h : Act s t) (hs : s.retentionAgrees = true → P s) (ht : t.retentionAgrees = true) : P t := by
  cases h with
  | aside h => exact hP.aside h (hs (h.agrees ▸ ht))
  | course h =>
    have hc := h ⟨True, False⟩ (fun h => h.elim)
    exact hP.course hc (hs (hc.baysOnly.agrees ▸ ht))
  | serve c => exact hP.serve s c (hs (carryOut_agrees s c ▸ ht))
  | window =>
    rw [Allocation.startWindow_frame] at ht ⊢
    exact hP.congr (u := s) rfl rfl (hs ht)
  | halfCycle | abandon | returned => exact hP.congr (u := s) rfl rfl (hs ht)
  | lost =>
    rw [loseMains_frame] at ht ⊢
    exact hP.congr (u := s) rfl rfl (hs ht)
  | opened d =>
    obtain ⟨u, hu, alarm, heq⟩ := doorOpenedStep_course (g := ⟨True, False⟩) s d fun h => h.elim
    rw [heq] at ht ⊢
    refine hP.congr (u := u) rfl rfl (hP.course hu (hP.congr (u := s) rfl rfl (hs ?_)))
    exact hu.baysOnly.agrees.symm.trans ht
  | closed d hd =>
    obtain ⟨u, hu, heq⟩ := doorClosedStep_course (g := ⟨True, False⟩) s d hd id
    rw [heq] at ht ⊢
    refine hP.congr (u := u) rfl rfl (hP.course hu (hP.congr (u := s) rfl rfl (hs ?_)))
    exact hu.baysOnly.agrees.symm.trans ht
  | granted r c =>
    have hmade : Aside (((s.setLatchQueue s.latch.queue.tail).setLatchPosition r.door r.action.moving).setChannel c
        (some { door := r.door, action := r.action, startedAt := s.clock, length := s.pulseLength })) (s.grantPulse r c) :=
      (dropConversion_aside _).trans (noteStarved_aside _)
    exact hP.aside hmade (hP.congr (u := s) rfl rfl (hs (hmade.agrees ▸ ht)))
  | unlocked p c =>
    obtain ⟨u, hu, hlast⟩ := endUnlock_course (g := ⟨True, False⟩) s c p.door
    refine hP.aside hlast (hP.course hu (hP.congr (u := s) rfl rfl (hs ?_)))
    exact hu.baysOnly.agrees.symm.trans (hlast.agrees ▸ ht)
  | locked p c =>
    obtain ⟨u, hu, hlast⟩ := endLock_course (g := ⟨True, False⟩) s c p.door
    have hended : (endedLock s c p.door).bays = s.bays ∧ (endedLock s c p.door).directory = s.directory ∧
        (endedLock s c p.door).retentionAgrees = s.retentionAgrees := by
      unfold endedLock
      split <;> exact ⟨rfl, rfl, rfl⟩
    refine hP.aside hlast (hP.course hu (hP.congr hended.1 hended.2.1 (hs ?_)))
    exact hended.2.2.symm.trans (hu.baysOnly.agrees.symm.trans (hlast.agrees ▸ ht))
  | begun pins cold =>
    rw [beginStart_agrees] at ht
    exact hP.congr (u := s) (beginStart_bays _ cold) (beginStart_directory _ cold) (hs ht)
  | ended cold => exact hP.endStart cold hs
  | stopped pins m => exact hP.stopPart m (fun h => hP.congr (u := s) rfl rfl (hs h)) ht
  | forgotten => cases ht

theorem step (h : step s = .next t) (hs : s.retentionAgrees = true → P s) (ht : t.retentionAgrees = true) : P t :=
  step_keeps s (P := fun u => u.retentionAgrees = true → P u) (fun _ _ ha hu hv => hP.act ha hu hv) h hs ht

end BayInvariant

/-! ### The figures of the records (R1, R4, R89, R105) -/

section

variable {g : Rules} {b : Nat} {s t : State}

theorem recordsInRange_congr (h : t.bays = s.bays) (hs : s.RecordsInRange) : t.RecordsInRange := fun b hb => by
  unfold State.bay
  rw [h]
  exact hs b hb

theorem setBay_recordsInRange (r : Bay) (range : KeepsRange (s.bay b) r) (hs : s.RecordsInRange) :
    (s.setBay b r).RecordsInRange := fun c hc => by
  by_cases hbc : b = c
  · subst hbc
    rw [State.setBay_bay_self _ _ _ hc]
    exact range (hs b hc)
  · rw [State.setBay_bay_ne _ _ _ _ hbc]
    exact hs c hc

theorem changeBay_recordsInRange (f : Bay → Bay) (range : KeepsRange (s.bay b) (changed (s.bay b) f)) (hs : s.RecordsInRange) :
    (s.changeBay b f).RecordsInRange :=
  recordsInRange_congr (s := s.setBay b (changed (s.bay b) f)) (by rw [State.changeBay_frame]; rfl)
    (setBay_recordsInRange _ range hs)

theorem leaveEntry_bay (c : Nat) : (s.leaveEntry b).bay c = s.bay c := by
  rw [State.leaveEntry_frame]
  rfl

theorem unlockCompletion_recordsInRange (d : Nat) (hs : s.RecordsInRange) : (s.unlockCompletion d).RecordsInRange := by
  have timed : ∀ timer, KeepsRange (s.bay (bayOfDoor d)) { s.bay (bayOfDoor d) with timer := timer } := fun _ =>
    keepsRange_of_same rfl rfl rfl rfl rfl
  unfold State.unlockCompletion
  cases sideOfDoor d
  · dsimp only
    split
    · exact setBay_recordsInRange _ (timed _) hs
    · exact hs
  · dsimp only
    split
    · exact setBay_recordsInRange _ (timed _) hs
    · split
      · exact setBay_recordsInRange _ (timed _) hs
      · exact hs

/-- R141: the records after a request are those of the state, or those after the completion of an UNLOCK. -/
theorem request_bays (d : Nat) (a : LatchAction) (c : RequestClass) :
    (s.request d a c).bays = s.bays ∨ (s.request d a c).bays = (s.unlockCompletion d).bays := by
  have satisfied_bays : ∀ l : LatchArbiter, ((withLatch s l).satisfied d a).bays = s.bays ∨
      ((withLatch s l).satisfied d a).bays = (s.unlockCompletion d).bays := by
    intro l
    cases a
    · exact .inl rfl
    · exact .inr (by rw [State.satisfied, unlockCompletion_withLatch]; rfl)
  unfold State.request
  split
  · split
    · split
      · exact .inl rfl
      · exact satisfied_bays s.latch
    · exact .inl rfl
  · split
    · dsimp only
      split
      · exact .inl rfl
      · exact satisfied_bays _
    · exact .inl rfl

theorem request_recordsInRange (d : Nat) (a : LatchAction) (c : RequestClass) (hs : s.RecordsInRange) :
    (s.request d a c).RecordsInRange :=
  (request_bays d a c).elim (fun h => recordsInRange_congr h hs) fun h =>
    recordsInRange_congr h (unlockCompletion_recordsInRange d hs)

theorem move_recordsInRange (h : Move g b s t) (hs : s.RecordsInRange) : t.RecordsInRange := by
  cases h with
  | write r _ _ range => exact setBay_recordsInRange r range hs
  | change f range => exact changeBay_recordsInRange f range hs
  | leave f range =>
    have hleft : (s.leaveEntry b).RecordsInRange := recordsInRange_congr (by rw [State.leaveEntry_frame]) hs
    exact changeBay_recordsInRange f (by rw [leaveEntry_bay]; exact range) hleft
  | notice | cut => exact hs
  | mark => exact recordsInRange_congr (by rw [State.markDiscard_frame]) hs
  | request d a c => exact request_recordsInRange d a c hs
  | withdraw d a => exact recordsInRange_congr (by rw [State.withdrawRequest_frame]) hs

theorem emptyRecords_bay (b : Nat) : s.emptyRecords.bay b = Bay.empty := by
  by_cases hb : b < 48
  · simp [State.bay, State.emptyRecords, Vector.getD, hb]
  · exact State.bay_of_le _ b (Nat.not_lt.mp hb)

theorem empty_inRange : Bay.empty.InRange :=
  ⟨Nat.zero_le 3, Nat.zero_le 16, fun _ => rfl, Nat.zero_le _, Nat.zero_le _, fun _ => ⟨rfl, rfl⟩⟩

theorem recordsInRange_invariant : BayInvariant State.RecordsInRange where
  congr h _ hs := recordsInRange_congr h hs
  move h hs := move_recordsInRange h hs
  serve s c hs := (carryOut_handling s c).keeps
    (fun _ _ _ h hu => (h ⟨False, False⟩ (fun h => h.elim) (fun h => h.elim)).keeps (fun _ _ _ _ hm => move_recordsInRange hm) hu)
    (fun _ _ h _ hu => recordsInRange_congr h.bays hu) hs
  empty u b _ := by
    rw [emptyRecords_bay]
    exact empty_inRange

/-- Settles O3: the figures are kept by every move of a course (`move_recordsInRange`), and a step is made of courses and of acts that
leave the records or empty them. -/
theorem recordInvariantKept : Obligations.RecordInvariantKept := fun _ _ hs h ht =>
  recordsInRange_invariant.step h hs ht

end

end Sys2Proof.Acts
end

section

-- One proof at a time: the proofs here together ask for more threads than the memory limit leaves room for.
set_option Elab.async false

/-! Courses touch their own bays only: the frame of a course, and what the shared operations write. -/

namespace Sys2Proof.Courses

open Sys2Proof Sys2Proof.Machine

/-! ### The frame of one change -/

theorem bayKept_refl (s : State) (b : Nat) : BayKept s s b := ⟨rfl, rfl, rfl, rfl, rfl, rfl⟩

theorem bayKept_trans {s t u : State} {b : Nat} (h : BayKept s t b) (h' : BayKept t u b) : BayKept s u b :=
  ⟨h'.record.trans h.record, h'.notices.trans h.notices, h'.round.trans h.round, h'.gate.trans h.gate, h'.run.trans h.run,
    h'.requests.trans h.requests⟩

theorem filter_insertRequest {p : LatchRequest → Bool} {r : LatchRequest} (q : List LatchRequest) (h : p r = false) :
    (insertRequest r q).filter p = q.filter p := by
  induction q with
  | nil => simp [insertRequest, h]
  | cons x xs ih =>
    unfold insertRequest
    split
    · rw [List.filter_cons_of_neg (by simp [h])]
    · rw [List.filter_cons, List.filter_cons, ih]

section
variable {s : State} {b c : Nat} (h : c ≠ b)
include h

theorem setBay_bayKept (r : Bay) : BayKept s (s.setBay b r) c :=
  ⟨s.setBay_bay_ne b c r h.symm, rfl, rfl, rfl, rfl, rfl⟩

theorem setNotices_bayKept (n : BayNotices) : BayKept s (s.setNotices b n) c :=
  ⟨rfl, s.setNotices_notices_ne b c n h.symm, rfl, rfl, rfl, rfl⟩

theorem discardRound_bayKept : BayKept s (s.discardRound b) c :=
  ⟨rfl, rfl, getD_setIfInBounds_ne _ _ _ _ _ h.symm, rfl, rfl, rfl⟩

theorem cutRun_bayKept : BayKept s (s.cutRun b) c where
  record := rfl
  notices := rfl
  round := rfl
  gate := getD_setIfInBounds_ne _ _ _ _ _ h.symm
  requests := rfl
  run := by
    have own : ∀ r : HeaterRun, (if r.bay = b then { r with cut := true } else r).bay = r.bay := fun r => by split <;> rfl
    simp only [State.cutRun, List.filter_map]
    have hsame : ((fun r : HeaterRun => decide (r.bay = c)) ∘ fun r => if r.bay = b then { r with cut := true } else r) =
        fun r => decide (r.bay = c) := by
      funext r
      simp only [Function.comp, own]
    rw [hsame]
    refine (List.map_congr_left fun r hr => ?_).trans (List.map_id _)
    have hc : r.bay = c := by simpa using (List.mem_filter.mp hr).2
    rw [if_neg (hc ▸ h), id]

theorem changeBay_bayKept (f : Bay → Bay) : BayKept s (s.changeBay b f) c := by
  unfold State.changeBay
  dsimp only
  have hset : BayKept s (s.setBay b { f (s.bay b) with demand := demandAfter (s.bay b).state (f (s.bay b)) }) c :=
    setBay_bayKept h _
  split
  · split
    · exact bayKept_trans hset (cutRun_bayKept h)
    · exact bayKept_trans (bayKept_trans hset (discardRound_bayKept h)) (cutRun_bayKept h)
  · split
    · exact hset
    · exact bayKept_trans hset (discardRound_bayKept h)

theorem leaveEntry_bayKept : BayKept s (s.leaveEntry b) c := by
  rw [State.leaveEntry_frame]
  exact ⟨rfl, rfl, rfl, rfl, rfl, rfl⟩

theorem markDiscard_bayKept : BayKept s (s.markDiscard b) c := by
  rw [State.markDiscard_frame]
  exact ⟨rfl, rfl, rfl, rfl, rfl, rfl⟩

theorem setLatchQueue_bayKept {q : List LatchRequest}
    (hq : (q.filter fun r => bayOfDoor r.door = c) = s.latch.queue.filter fun r => bayOfDoor r.door = c) :
    BayKept s (s.setLatchQueue q) c := ⟨rfl, rfl, rfl, rfl, rfl, hq⟩

variable {d : Nat} (own : bayOfDoor d = b)
include own

theorem filter_other_door (q : List LatchRequest) :
    ((q.filter fun r => r.door ≠ d).filter fun r => bayOfDoor r.door = c) = q.filter fun r => bayOfDoor r.door = c := by
  rw [List.filter_filter]
  refine List.filter_congr fun r _ => ?_
  by_cases hd : r.door = d
  · simp [hd, own, h.symm]
  · simp [hd]

theorem dropRequest_bayKept : BayKept s (s.dropRequest d) c := setLatchQueue_bayKept h (filter_other_door h own _)

theorem withdrawRequest_bayKept (a : LatchAction) : BayKept s (s.withdrawRequest d a) c := by
  unfold State.withdrawRequest
  split
  · split
    · exact dropRequest_bayKept h own
    · exact bayKept_refl s c
  · exact bayKept_refl s c

theorem unlockCompletion_bayKept : BayKept s (s.unlockCompletion d) c := by
  subst own
  unfold State.unlockCompletion
  cases sideOfDoor d
  · dsimp only
    split
    · exact setBay_bayKept h _
    · exact bayKept_refl s c
  · dsimp only
    split
    · exact setBay_bayKept h _
    · split
      · exact setBay_bayKept h _
      · exact bayKept_refl s c

theorem satisfied_bayKept (a : LatchAction) : BayKept s (s.satisfied d a) c := by
  cases a
  · exact bayKept_refl s c
  · exact unlockCompletion_bayKept h own

theorem request_bayKept (a : LatchAction) (k : RequestClass) : BayKept s (s.request d a k) c := by
  have hnew : ∀ r : LatchRequest, r.door = d → decide (bayOfDoor r.door = c) = false := fun r hr => by
    simp [hr, own, h.symm]
  have hdropped : BayKept s (s.dropRequest d) c := dropRequest_bayKept h own
  unfold State.request
  split
  · split
    · split
      · exact bayKept_refl s c
      · exact satisfied_bayKept h own a
    · exact ⟨rfl, rfl, rfl, rfl, rfl, filter_insertRequest _ (hnew _ rfl)⟩
  · next r hr =>
    have hd : r.door = d := (pendingFor_some hr).2
    split
    · dsimp only
      split
      · exact hdropped
      · exact bayKept_trans hdropped (satisfied_bayKept h own a)
    · refine ⟨rfl, rfl, rfl, rfl, rfl, (filter_insertRequest _ (hnew _ hd)).trans ?_⟩
      rw [hd]
      exact filter_other_door h own _

end

/-- The frame of a change of one bay: no other bay is touched. -/
theorem Move.bayKept {g : Rules} {b c : Nat} {s t : State} (h : Move g b s t) (hc : c ≠ b) : BayKept s t c := by
  cases h with
  | write r => exact setBay_bayKept hc r
  | change f => exact changeBay_bayKept hc f
  | leave f => exact bayKept_trans (leaveEntry_bayKept hc) (changeBay_bayKept hc f)
  | notice n => exact setNotices_bayKept hc _
  | mark => exact markDiscard_bayKept hc
  | cut => exact cutRun_bayKept hc
  | request d a k own => exact request_bayKept hc own a k
  | withdraw d a own => exact withdrawRequest_bayKept hc own a

theorem changeBay_discard (s : State) (b : Nat) (f : Bay → Bay) :
    (s.changeBay b f).scanner.discard = s.scanner.discard ∧ (s.changeBay b f).scanner.conversion = s.scanner.conversion := by
  rw [State.changeBay_frame]
  dsimp only
  split <;> exact ⟨rfl, rfl⟩

theorem markDiscard_of_other {s : State} {b : Nat} (h : ∀ c, s.scanner.conversion = some c → c.bay ≠ b) :
    s.markDiscard b = s := by
  unfold State.markDiscard
  rw [if_neg]
  cases hc : s.scanner.conversion with
  | none => simp
  | some c => simpa using h c hc

/-- R76: a change of one bay leaves the mark on the conversion of another. -/
theorem Move.discard {g : Rules} {b : Nat} {s t : State} (h : Move g b s t)
    (hc : ∀ c, s.scanner.conversion = some c → c.bay ≠ b) : t.scanner.discard = s.scanner.discard := by
  cases h with
  | write | notice | cut => rfl
  | change f => exact (changeBay_discard ..).1
  | leave f =>
    rw [(changeBay_discard ..).1, State.leaveEntry_frame]
  | mark => rw [markDiscard_of_other hc]
  | request d a k => rw [State.request_frame]
  | withdraw d a => rw [State.withdrawRequest_frame]

/-! ### The frame of a course -/

theorem onlyBays_refl (s : State) (bs : List Nat) : OnlyBays s s bs :=
  ⟨BaysOnly.refl s, fun b _ => bayKept_refl s b, fun _ => rfl⟩

theorem onlyBays_trans {s t u : State} {bs : List Nat} (h : OnlyBays s t bs) (h' : OnlyBays t u bs) : OnlyBays s u bs := by
  obtain ⟨hall, hkept, hmark⟩ := h
  obtain ⟨hall', hkept', hmark'⟩ := h'
  refine ⟨hall.trans hall', fun b hb => bayKept_trans (hkept b hb) (hkept' b hb), fun hc => ?_⟩
  exact (hmark' (hall.conversion ▸ hc)).trans (hmark hc)

theorem Move.onlyBays {g : Rules} {b : Nat} {bs : List Nat} {s t : State} (h : Move g b s t) (hb : b ∈ bs) : OnlyBays s t bs :=
  ⟨h.baysOnly, fun _ hc => h.bayKept fun heq => hc (heq ▸ hb), fun hc => h.discard fun c hcv heq => hc c hcv (heq ▸ hb)⟩

/-- A course over a list of bays touches those bays only. -/
theorem Course.onlyBays {g : Rules} {bs : List Nat} {s t : State} (h : Course g bs s t) : OnlyBays s t bs := by
  induction h with
  | refl => exact onlyBays_refl s bs
  | tail _ hm ih =>
    obtain ⟨b, hb, hm⟩ := hm
    exact onlyBays_trans ih (hm.onlyBays hb)

/-- The record of a bay outside a course. -/
theorem Course.bay_of_notMem {g : Rules} {bs : List Nat} {s t : State} (h : Course g bs s t) {c : Nat} (hc : c ∉ bs) :
    t.bay c = s.bay c := (h.onlyBays.2.1 c hc).record

/-! ### What the end of a bay's course writes (R7 to R9, R30) -/

section
variable {s : State} {b : Nat}

theorem changeBay_directory (f : Bay → Bay) : (s.changeBay b f).directory = s.directory := by rw [State.changeBay_frame]

theorem markDiscard_directory : (s.markDiscard b).directory = s.directory := by rw [State.markDiscard_frame]

theorem markDiscard_bay (c : Nat) : (s.markDiscard b).bay c = s.bay c := by
  rw [State.markDiscard_frame]
  rfl

theorem leaveEntry_directory : (s.leaveEntry b).directory = match (s.bay b).entry with
    | some code => s.directory.removeBay code b
    | none => s.directory := by
  unfold State.leaveEntry
  cases (s.bay b).entry <;> rfl

theorem enterVacant_bay_self (hb : b < 48) : (s.enterVacant b).bay b = (s.bay b).vacated := by
  unfold State.enterVacant
  rw [State.changeBay_bay_self _ _ _ hb, Acts.leaveEntry_bay]
  rfl

theorem enterOutOfService_bay_self (hb : b < 48) (why : OosReason) :
    (s.enterOutOfService b why).bay b = (s.bay b).outOfService why := by
  unfold State.enterOutOfService
  rw [markDiscard_bay, State.changeBay_bay_self _ _ _ hb, Acts.leaveEntry_bay]
  rfl

theorem enterOutOfService_directory (why : OosReason) : (s.enterOutOfService b why).directory = (s.leaveEntry b).directory := by
  unfold State.enterOutOfService
  rw [markDiscard_directory, changeBay_directory]

theorem enterVacant_directory : (s.enterVacant b).directory = (s.leaveEntry b).directory := changeBay_directory _

/-- R7: what the end of a bay's course writes. -/
theorem sendToVacant_retired (hb : b < 48) : Retired s (s.sendToVacant b) b := by
  unfold State.sendToVacant
  cases hd : (s.bay b).draining
  · cases hf : (s.bay b).sensorFault
    · simp only [Bool.false_eq_true, if_false]
      refine ⟨?_, enterVacant_directory.trans leaveEntry_directory⟩
      rw [enterVacant_bay_self hb]
      simp only [Bay.vacated, Bay.empty, hd, hf]
      rfl
    · simp only [Bool.false_eq_true, if_false, if_true]
      refine ⟨?_, (enterOutOfService_directory _).trans leaveEntry_directory⟩
      rw [enterOutOfService_bay_self hb]
      simp only [Bay.outOfService, Bay.vacated, Bay.empty, hd, hf]
      rfl
  · simp only [if_true]
    refine ⟨?_, (enterOutOfService_directory _).trans leaveEntry_directory⟩
    rw [enterOutOfService_bay_self hb]
    simp only [Bay.outOfService, Bay.vacated, Bay.empty, hd]
    rfl

/-! ### What entering WITHDRAWN writes (R171) -/

theorem changeBay_notices (f : Bay → Bay) (c : Nat) : (s.changeBay b f).notices c = s.notices c := by
  rw [State.changeBay_frame]
  rfl

/-- R6: the round of a bay that changes its scanning group is dropped. -/
theorem changeBay_round (f : Bay → Bay) (hb : b < 48) : (s.changeBay b f).scanner.rounds.getD b none =
    if (s.bay b).state.group = (f (s.bay b)).state.group then s.scanner.rounds.getD b none else none := by
  rw [State.changeBay_frame]
  dsimp only
  split
  · rfl
  · exact getD_setIfInBounds_self _ _ _ _ hb

/-- R130: a bay that leaves the heating states has its run cut. -/
theorem changeBay_heater (f : Bay → Bay) : (s.changeBay b f).heater =
    if (s.bay b).state.heating && !(f (s.bay b)).state.heating then (s.cutRun b).heater else s.heater := by
  rw [State.changeBay_frame]

/-- R171: what a bay of a profile group that enters WITHDRAWN leaves, its gate off and its runs cut as they are by a bay that was heated. -/
theorem enterWithdrawn_withdrawn (why : WithdrawReason) (hst : (s.bay b).state = .holding ∨ (s.bay b).state = .releasing) :
    Withdrawn s (s.enterWithdrawn b why) b why := by
  have hb : b < 48 := hst.elim (fun h => lt_of_state h) fun h => lt_of_state h
  have hheat : ((s.bay b).state.heating && !((s.bay b).withdrawnFor why).state.heating) = true := by
    obtain h | h := hst <;> rw [h] <;> rfl
  have hheater : (s.enterWithdrawn b why).heater = (s.cutRun b).heater := by
    have : (s.enterWithdrawn b why).heater = (s.changeBay b (·.withdrawnFor why)).heater := rfl
    rw [this, changeBay_heater, if_pos hheat]
  refine ⟨State.enterWithdrawn_bay_self _ _ _ hb, ?_, ?_, ?_, ?_, changeBay_directory _⟩
  · exact (State.setNotices_notices_self _ _ _ hb).trans (by rw [changeBay_notices]; rfl)
  · refine (changeBay_round _ hb).trans (if_neg ?_)
    obtain h | h := hst <;> simp [h, Bay.withdrawnFor, BayState.group]
  · rw [hheater]
    exact (s.cutRun_off b).1
  · rw [hheater]
    exact (s.cutRun_off b).2

end

end Sys2Proof.Courses
end

section

-- One proof at a time: the proofs here together ask for more threads than the memory limit leaves room for.
set_option Elab.async false

/-! The Code Directory (02): its changes keep it ordered (R24 to R33), and the step keeps it in agreement with the bay records. -/

namespace Sys2Proof.Entries

open Sys2Proof Sys2Proof.Machine Sys2Proof.Courses

/-! ### Entries of an ordered directory (R24) -/

section
variable {d : Directory} {e f : Entry}

/-- R24: a code names one entry. -/
theorem eq_of_code_eq (h : d.Ordered) (he : e ∈ d.entries) (hf : f ∈ d.entries) (hcode : e.code = f.code) : e = f :=
  List.inj_on_of_nodup_map (f := Entry.code) (List.pairwise_map.mpr (h.ascending.imp fun hlt => Nat.ne_of_lt hlt)) he hf hcode

/-- R24: an order reference names one entry. -/
theorem eq_of_orderRef_eq (h : d.Ordered) (he : e ∈ d.entries) (hf : f ∈ d.entries) (href : e.orderRef = f.orderRef) : e = f :=
  List.inj_on_of_nodup_map (f := Entry.orderRef) (List.pairwise_map.mpr h.references) he hf href

end

theorem findCode_some {s : State} {code : Nat} {e : Entry} (h : s.findCode code = some e) :
    e ∈ s.directory.entries ∧ e.code = code :=
  ⟨List.mem_of_find?_eq_some h, by simpa using List.find?_some h⟩

theorem findOrder_some {s : State} {ref : Nat} {e : Entry} (h : s.findOrder ref = some e) :
    e ∈ s.directory.entries ∧ e.orderRef = ref :=
  ⟨List.mem_of_find?_eq_some h, by simpa using List.find?_some h⟩

theorem findCode_none {s : State} {code : Nat} (h : s.findCode code = none) : ∀ e ∈ s.directory.entries, e.code ≠ code := by
  simpa [State.findCode] using h

theorem findOrder_none {s : State} {ref : Nat} (h : s.findOrder ref = none) : ∀ e ∈ s.directory.entries, e.orderRef ≠ ref := by
  simpa [State.findOrder] using h

/-! ### A bay leaves its entry (R30) -/

/-- R30: an entry once a bay has left the entry of a code. -/
def shortened (code b : Nat) (e : Entry) : Option Entry :=
  if e.code = code then
    if e.bays.filter (· ≠ b) = [] then none else some { e with bays := e.bays.filter (· ≠ b) }
  else some e

theorem removeBay_entries (d : Directory) (code b : Nat) : (d.removeBay code b).entries = d.entries.filterMap (shortened code b) := rfl

/-- R30: what a shortened entry keeps. -/
theorem shortened_kept {code b : Nat} {e f : Entry} (h : shortened code b e = some f) :
    f.code = e.code ∧ f.orderRef = e.orderRef ∧ f.bays.Sublist e.bays ∧ (e.bays ≠ [] → f.bays ≠ []) := by
  unfold shortened at h
  split at h
  · split at h
    · cases h
    · next hne =>
      cases h
      exact ⟨rfl, rfl, List.filter_sublist, fun _ => hne⟩
  · cases h
    exact ⟨rfl, rfl, List.Sublist.refl _, id⟩

/-- R30: the bays of a shortened entry. -/
theorem mem_shortened {code b c : Nat} {e f : Entry} (h : shortened code b e = some f) :
    c ∈ f.bays ↔ c ∈ e.bays ∧ (e.code = code → c ≠ b) := by
  unfold shortened at h
  split at h
  · next hcode =>
    split at h
    · cases h
    · cases h
      simp [hcode]
  · next hcode =>
    cases h
    simp [hcode]

theorem shortened_of_mem {code b c : Nat} {e : Entry} (hc : c ∈ e.bays) (hne : c ≠ b) : ∃ f, shortened code b e = some f := by
  unfold shortened
  split
  · rw [if_neg fun h => List.eq_nil_iff_forall_not_mem.mp h c (List.mem_filter.mpr ⟨hc, decide_eq_true hne⟩)]
    exact ⟨_, rfl⟩
  · exact ⟨_, rfl⟩

theorem removeBay_ordered {d : Directory} (h : d.Ordered) (code b : Nat) : (d.removeBay code b).Ordered := by
  have kept : ∀ f ∈ (d.removeBay code b).entries, ∃ e ∈ d.entries, shortened code b e = some f := fun f hf =>
    List.mem_filterMap.mp hf
  refine ⟨?_, ?_, fun f hf => ?_, fun f hf => ?_⟩
  · refine h.ascending.filterMap _ fun e e' hlt f hf f' hf' => ?_
    rw [(shortened_kept hf).1, (shortened_kept hf').1]
    exact hlt
  · refine h.references.filterMap _ fun e e' hne f hf f' hf' => ?_
    rw [(shortened_kept hf).2.1, (shortened_kept hf').2.1]
    exact hne
  · obtain ⟨e, he, hs⟩ := kept f hf
    obtain ⟨-, -, hsub, hsome⟩ := shortened_kept hs
    obtain ⟨hne, hlen, hasc, hlt⟩ := h.bays e he
    exact ⟨hsome hne, hsub.length_le.trans hlen, hasc.sublist hsub, fun c hc => hlt c (hsub.subset hc)⟩
  · obtain ⟨e, he, hs⟩ := kept f hf
    obtain ⟨hcode, href, -, -⟩ := shortened_kept hs
    rw [hcode, href]
    exact h.fields e he

/-- R30: the entries after a bay has left its own: every other entry, and its own shortened. -/
theorem mem_removeBay_iff {d : Directory} {e f : Entry} {b : Nat} (h : d.Ordered) (he : e ∈ d.entries) :
    f ∈ (d.removeBay e.code b).entries ↔ (f ∈ d.entries ∧ f ≠ e) ∨ shortened e.code b e = some f := by
  rw [removeBay_entries, List.mem_filterMap]
  constructor
  · rintro ⟨x, hx, hs⟩
    by_cases hxe : x = e
    · exact .inr (hxe ▸ hs)
    · have hcode : x.code ≠ e.code := fun hc => hxe (eq_of_code_eq h hx he hc)
      rw [shortened, if_neg hcode] at hs
      cases hs
      exact .inl ⟨hx, hxe⟩
  · rintro (⟨hf, hne⟩ | hs)
    · exact ⟨f, hf, if_neg fun hc => hne (eq_of_code_eq h hf he hc)⟩
    · exact ⟨e, he, hs⟩

/-- Bays in ascending order that are all the same are one. -/
theorem eq_singleton_of_all {l : List Nat} {b : Nat} (hb : b ∈ l) (hasc : l.Pairwise (· < ·)) (hall : ∀ c ∈ l, c = b) : l = [b] := by
  match l with
  | [] => cases hb
  | [c] => rw [hall c (List.mem_singleton_self c)]
  | c :: c' :: l =>
    have hlt : c < c' := (List.pairwise_cons.mp hasc).1 c' (List.mem_cons_self ..)
    rw [hall c (List.mem_cons_self ..), hall c' (List.mem_cons_of_mem _ (List.mem_cons_self ..))] at hlt
    exact absurd hlt (Nat.lt_irrefl b)

/-- Settles O15: the entries of the directory after `removeBay` by `mem_removeBay_iff`, the bay being the entry's last or not. -/
theorem bayLeavesItsEntry : Obligations.BayLeavesItsEntry := by
  intro d e b h he hb
  have hrest : e.bays.filter (· ≠ b) = [] ↔ e.bays = [b] := ⟨fun hnil => eq_singleton_of_all hb (h.bays e he).2.2.1 (by simpa using hnil),
    fun h' => by simp [h']⟩
  refine ⟨removeBay_ordered h _ _, rfl, fun hlast f => ?_, fun hmore f => ?_⟩
  · rw [mem_removeBay_iff h he, shortened, if_pos rfl, if_pos (hrest.mpr hlast)]
    simp
  · rw [mem_removeBay_iff h he, shortened, if_pos rfl, if_neg (mt hrest.mp hmore)]
    simp [eq_comm]

end Sys2Proof.Entries
end

section

-- One proof at a time: the proofs here together ask for more threads than the memory limit leaves room for.
set_option Elab.async false

/-! What a BOOK writes on its bays and in the directory (R42 to R45), AMEND NEW_CODE (R28) and the entry that CANCEL removes (R31). -/

namespace Sys2Proof.Entries

open Sys2Proof Sys2Proof.Machine Sys2Proof.Courses Sys2Proof.Acts

/-! ### An entry inserted (R24) -/

theorem mem_insertEntry {e f : Entry} {l : List Entry} : f ∈ insertEntry e l ↔ f = e ∨ f ∈ l := by
  induction l with
  | nil => simp [insertEntry]
  | cons x xs ih =>
    unfold insertEntry
    split
    · simp
    · simp only [List.mem_cons, ih]
      tauto

theorem insertEntry_pairwise {R : Entry → Entry → Prop} (hsymm : ∀ a b, R a b → R b a) {e : Entry} {l : List Entry}
    (hl : l.Pairwise R) (he : ∀ x ∈ l, R e x) : (insertEntry e l).Pairwise R := by
  induction l with
  | nil => simp [insertEntry]
  | cons y ys ih =>
    obtain ⟨hy, hys⟩ := List.pairwise_cons.mp hl
    unfold insertEntry
    split
    · exact List.pairwise_cons.mpr ⟨he, hl⟩
    · refine List.pairwise_cons.mpr ⟨fun x hx => ?_, ih hys fun x hx => he x (List.mem_cons_of_mem _ hx)⟩
      obtain rfl | hx := mem_insertEntry.mp hx
      · exact hsymm _ _ (he y (List.mem_cons_self ..))
      · exact hy x hx

theorem insertEntry_ascending {e : Entry} {l : List Entry} (hl : l.Pairwise fun a b => a.code < b.code)
    (he : ∀ x ∈ l, x.code ≠ e.code) : (insertEntry e l).Pairwise fun a b => a.code < b.code := by
  induction l with
  | nil => simp [insertEntry]
  | cons y ys ih =>
    obtain ⟨hy, hys⟩ := List.pairwise_cons.mp hl
    unfold insertEntry
    split
    · next hlt =>
      refine List.pairwise_cons.mpr ⟨fun x hx => ?_, hl⟩
      obtain rfl | hx := List.mem_cons.mp hx
      · exact hlt
      · exact hlt.trans (hy x hx)
    · next hge =>
      refine List.pairwise_cons.mpr ⟨fun x hx => ?_, ih hys fun x hx => he x (List.mem_cons_of_mem _ hx)⟩
      obtain rfl | hx := mem_insertEntry.mp hx
      · have := he y (List.mem_cons_self ..)
        omega
      · exact hy x hx

/-- R23, R24: the bays and the fields of an entry in their ranges. -/
structure EntryInRange (e : Entry) : Prop where
  bays : e.bays ≠ [] ∧ e.bays.length ≤ 4 ∧ e.bays.Pairwise (· < ·) ∧ ∀ b ∈ e.bays, b < 48
  fields : e.code ≤ 999999 ∧ 0 < e.orderRef

/-- R24: an entry with a new code and a new reference keeps the directory ordered. -/
theorem insertEntry_ordered {l : List Entry} {n m : Nat} (h : Directory.Ordered { entries := l, generation := n }) {e : Entry}
    (range : EntryInRange e) (code : ∀ x ∈ l, x.code ≠ e.code) (ref : ∀ x ∈ l, x.orderRef ≠ e.orderRef) :
    Directory.Ordered { entries := insertEntry e l, generation := m } where
  ascending := insertEntry_ascending h.ascending code
  references := insertEntry_pairwise (fun _ _ => Ne.symm) h.references fun x hx => (ref x hx).symm
  bays f hf := by
    obtain rfl | hf := mem_insertEntry.mp hf
    · exact range.bays
    · exact h.bays f hf
  fields f hf := by
    obtain rfl | hf := mem_insertEntry.mp hf
    · exact range.fields
    · exact h.fields f hf

theorem filter_ordered {d : Directory} (h : d.Ordered) (p : Entry → Bool) (n : Nat) :
    Directory.Ordered { entries := d.entries.filter p, generation := n } :=
  ⟨h.ascending.filter p, h.references.filter p, fun e he => h.bays e (List.mem_of_mem_filter he),
    fun e he => h.fields e (List.mem_of_mem_filter he)⟩

theorem entryInRange {d : Directory} (h : d.Ordered) {e : Entry} (he : e ∈ d.entries) : EntryInRange e :=
  ⟨h.bays e he, h.fields e he⟩

/-- R28: the entries once one has taken a new code. -/
theorem mem_rekey {d : Directory} (h : d.Ordered) {e f : Entry} (he : e ∈ d.entries) {code : Nat} :
    f ∈ (d.rekey e code).entries ↔ f = { e with code := code } ∨ (f ∈ d.entries ∧ f ≠ e) := by
  show f ∈ insertEntry _ _ ↔ _
  rw [mem_insertEntry, List.mem_filter, decide_eq_true_eq]
  exact or_congr_right (and_congr_right fun hf =>
    ⟨fun hne heq => hne (heq ▸ rfl), fun hne heq => hne (eq_of_code_eq h hf he heq)⟩)

theorem rekey_ordered {d : Directory} (h : d.Ordered) {e : Entry} (he : e ∈ d.entries) {code : Nat} (hcode : code ≤ 999999)
    (hfree : ∀ f ∈ d.entries, f.code ≠ code) : (d.rekey e code).Ordered := by
  have hold := entryInRange h he
  have href : ∀ x ∈ d.entries.filter (·.code ≠ e.code), x.orderRef ≠ e.orderRef := fun x hx heq => by
    obtain ⟨hx, hne⟩ := List.mem_filter.mp hx
    exact of_decide_eq_true hne (congrArg Entry.code (eq_of_orderRef_eq h hx he heq))
  exact insertEntry_ordered (n := 0) (filter_ordered h _ 0) ⟨hold.bays, hcode, hold.fields.2⟩
    (fun x hx => hfree x (List.mem_of_mem_filter hx)) href

/-! ### The bays of a BOOK bound (R43 to R45) -/

section
variable (s : State) (code offset : Nat)

/-- R43, R45: the record of a bay bound to a slot. -/
def boundRecord (r : Bay) (slot : Nat) : Bay :=
  let expected := s.expectedLoadFor offset
  let start := preheatStartFor expected (s.profile slot).lead
  { r with
      entry := some code, profile := some slot, expectedLoad := some expected, lapseAt := some (s.lapseAtFor expected)
      state := if start ≤ s.bankTime then .preheating else .booked
      preheatStart := if start ≤ s.bankTime then none else some start
      lastTemp := if start ≤ s.bankTime then none else r.lastTemp
      demand := if start ≤ s.bankTime then 16 else 0 }

theorem boundRecord_congr {u : State} (h : BaysOnly s u) (r : Bay) (slot : Nat) :
    boundRecord u code offset r slot = boundRecord s code offset r slot := by
  have hload : u.expectedLoadFor offset = s.expectedLoadFor offset := by
    unfold State.expectedLoadFor State.after
    rw [h.bankTime]
  have hlapse : u.lapseAtFor = s.lapseAtFor := by
    funext e
    unfold State.lapseAtFor
    rw [h.config]
  have hprofile : u.profile = s.profile := by
    funext n
    unfold State.profile State.slotRecord
    rw [h.store]
  unfold boundRecord
  rw [hload, hlapse, hprofile, h.bankTime]

theorem bindBay_bay_self {b : Nat} (slot : Nat) (h : b < 48) :
    (s.bindBay code offset b slot).bay b = boundRecord s code offset (s.bay b) slot := by
  unfold State.bindBay State.preheatIfReached
  dsimp only
  generalize hu : s.changeBay b (fun r => { r with
    state := .booked, entry := some code, profile := some slot, expectedLoad := some (s.expectedLoadFor offset)
    preheatStart := some (preheatStartFor (s.expectedLoadFor offset) (s.profile slot).lead)
    lapseAt := some (s.lapseAtFor (s.expectedLoadFor offset)) }) = u
  have hbay : u.bay b = { s.bay b with
      state := .booked, entry := some code, profile := some slot, expectedLoad := some (s.expectedLoadFor offset)
      preheatStart := some (preheatStartFor (s.expectedLoadFor offset) (s.profile slot).lead)
      lapseAt := some (s.lapseAtFor (s.expectedLoadFor offset)), demand := 0 } := by
    rw [← hu, State.changeBay_bay_self _ _ _ h]
    rfl
  have hnow : u.bankTime = s.bankTime := by rw [← hu, State.changeBay_frame]
  have hreached : u.reached (u.bay b).preheatStart =
      decide (preheatStartFor (s.expectedLoadFor offset) (s.profile slot).lead ≤ s.bankTime) := by
    rw [hbay, ← hnow]
    rfl
  rw [hreached]
  unfold boundRecord
  dsimp only
  by_cases hp : preheatStartFor (s.expectedLoadFor offset) (s.profile slot).lead ≤ s.bankTime
  · simp only [hp, decide_true, if_true, State.enterPreheating]
    rw [State.changeBay_bay_self _ _ _ h, hbay]
    rfl
  · simp only [hp, decide_false, Bool.false_eq_true, if_false]
    exact hbay

theorem bindBay_directory (b slot : Nat) : (s.bindBay code offset b slot).directory = s.directory := by
  unfold State.bindBay State.preheatIfReached
  dsimp only
  split
  · exact (changeBay_directory _).trans (changeBay_directory _)
  · exact changeBay_directory _

/-- Slots bound to bays, one after another. -/
def bindBays (bound : List (Nat × Nat)) : State := bound.foldl (fun s p => s.bindBay code offset p.1 p.2) s

theorem bindBays_directory (bound : List (Nat × Nat)) : (bindBays s code offset bound).directory = s.directory := by
  unfold bindBays
  induction bound generalizing s with
  | nil => rfl
  | cons p ps ih => exact (ih _).trans (bindBay_directory s code offset p.1 p.2)

theorem bindBays_bay_of_notMem {bound : List (Nat × Nat)} {c : Nat} (h : c ∉ bound.map Prod.fst) :
    (bindBays s code offset bound).bay c = s.bay c := by
  unfold bindBays
  induction bound generalizing s with
  | nil => rfl
  | cons p ps ih =>
    rw [List.map_cons, List.mem_cons, not_or] at h
    exact (ih _ h.2).trans (bindBay_bay_ne s code offset p.1 p.2 c (Ne.symm h.1))

theorem bindBay_baysOnly (b slot : Nat) : BaysOnly s (s.bindBay code offset b slot) := by
  unfold State.bindBay State.preheatIfReached
  dsimp only
  split
  · exact (s.changeBay_baysOnly b _).trans (State.changeBay_baysOnly _ b _)
  · exact s.changeBay_baysOnly b _

/-- R43: every chosen bay is bound to the slot at its place. -/
theorem bindBays_bay_of_mem {bound : List (Nat × Nat)} (hdistinct : (bound.map Prod.fst).Nodup) (hlt : ∀ p ∈ bound, p.1 < 48)
    {p : Nat × Nat} (hp : p ∈ bound) : (bindBays s code offset bound).bay p.1 = boundRecord s code offset (s.bay p.1) p.2 := by
  induction bound generalizing s with
  | nil => cases hp
  | cons q qs ih =>
    obtain ⟨hq, hqs⟩ := List.nodup_cons.mp hdistinct
    have hstep : bindBays s code offset (q :: qs) = bindBays (s.bindBay code offset q.1 q.2) code offset qs := rfl
    rw [hstep]
    obtain rfl | hp := List.mem_cons.mp hp
    · rw [bindBays_bay_of_notMem _ code offset hq]
      exact bindBay_bay_self s code offset p.2 (hlt p (List.mem_cons_self ..))
    · have hne : q.1 ≠ p.1 := fun h => hq (h ▸ List.mem_map_of_mem hp)
      rw [ih _ hqs (fun r hr => hlt r (List.mem_cons_of_mem _ hr)) hp, bindBay_bay_ne _ _ _ _ _ _ hne]
      exact boundRecord_congr s code offset (bindBay_baysOnly s code offset q.1 q.2) _ _

end

/-! ### A BOOK that passes (R39 to R45) -/

section
variable (s : State) (ref code : Nat) (slots : List Nat) (offset : Nat)

/-- R39, R40: the checks of a BOOK. -/
def bookChecks : Prop :=
  ¬ (ref = 0 ∨ 999999 < code ∨ slots.length = 0 ∨ 4 < slots.length ∨ slots.any (15 < ·) ∨ 7200 < offset) ∧
    s.findOrder ref = none ∧ s.findCode code = none ∧ (slots.findIdx? fun n => s.slotCondition n ≠ .inService) = none ∧
      slots.findIdx? s.slotBeingWritten = none

/-- R43 to R45: the state a BOOK leaves. -/
def bookedState : State :=
  let u := bindBays s code offset ((s.chooseBays slots.length).zip slots)
  { u with directory := u.directory.add { code := code, orderRef := ref, bays := s.chooseBays slots.length, created := s.bankTime } }

/-- R39 to R45: a BOOK is refused, or binds its bays. -/
theorem serveBook_cases : (serveBook s ref code slots offset).state = s ∨
    (bookChecks s ref code slots offset ∧ slots.length ≤ (s.chooseBays slots.length).length ∧
      (serveBook s ref code slots offset).state = bookedState s ref code slots offset) := by
  unfold serveBook
  split
  · exact .inl rfl
  next hvalues =>
  split
  · exact .inl rfl
  next hord =>
  split
  · exact .inl rfl
  next hcod =>
  split
  · exact .inl rfl
  next hin =>
  split
  · exact .inl rfl
  next hbusy =>
  dsimp only
  split
  · exact .inl rfl
  next hlen =>
  exact .inr ⟨⟨hvalues, by simpa using hord, by simpa using hcod, hin, hbusy⟩, by omega, rfl⟩

theorem chooseBays_ascending (k : Nat) : (s.chooseBays k).Pairwise (· < ·) :=
  List.Pairwise.sublist ((chooseBays_sublist s k).trans List.filter_sublist) List.pairwise_lt_range

theorem chooseBays_length_le (k : Nat) : (s.chooseBays k).length ≤ k := by
  unfold State.chooseBays
  split <;> exact List.length_take_le ..

theorem map_fst_zip_chooseBays (h : slots.length ≤ (s.chooseBays slots.length).length) :
    ((s.chooseBays slots.length).zip slots).map Prod.fst = s.chooseBays slots.length :=
  List.map_fst_zip (chooseBays_length_le s _)

variable {s ref code slots offset}

/-- R27: the entry of a BOOK that passes is in range. -/
theorem booked_entryInRange (h : bookChecks s ref code slots offset) (hlen : slots.length ≤ (s.chooseBays slots.length).length)
    (now : Nat) : EntryInRange { code := code, orderRef := ref, bays := s.chooseBays slots.length, created := now } := by
  obtain ⟨hvalues, -⟩ := h
  obtain ⟨href, hcode, hne, hle, -⟩ : ref ≠ 0 ∧ ¬ 999999 < code ∧ slots.length ≠ 0 ∧ ¬ 4 < slots.length ∧ _ := by
    simpa only [not_or] using hvalues
  have hlen' := chooseBays_length_le s slots.length
  refine ⟨⟨fun hnil => ?_, ?_, chooseBays_ascending s _, fun b hb => (vacant_of_mem_chooseBays s hb).1⟩,
    Nat.not_lt.mp hcode, Nat.pos_of_ne_zero href⟩
  · rw [show s.chooseBays slots.length = [] from hnil] at hlen
    exact hne (Nat.le_zero.mp hlen)
  · show (s.chooseBays slots.length).length ≤ 4
    omega

end

end Sys2Proof.Entries
end

section

-- One proof at a time: the proofs here together ask for more threads than the memory limit leaves room for.
set_option Elab.async false

/-! The directory in agreement with the bay records (R24, R25): every step keeps it. -/

namespace Sys2Proof.Entries

open Sys2Proof Sys2Proof.Machine Sys2Proof.Courses Sys2Proof.Acts

/-! ### Agreement but for the live bays of a list -/

/-- R25 but that a bay of `bs` may stand in a state of an entry without one: as CANCEL goes through the bays of its entry (R31). -/
structure AgreesBut (s : State) (bs : List Nat) : Prop where
  ordered : s.directory.Ordered
  members : ∀ b < 48, ∀ code, (s.bay b).entry = some code ↔ ∃ e ∈ s.directory.entries, e.code = code ∧ b ∈ e.bays
  resting : ∀ b < 48, (s.bay b).state.resting = true → (s.bay b).entry = none
  live : ∀ b < 48, b ∉ bs → (s.bay b).state.resting = false → (s.bay b).state ≠ .withdrawn → (s.bay b).entry ≠ none

theorem directoryAgrees_iff {s : State} : s.DirectoryAgrees ↔ AgreesBut s [] :=
  ⟨fun ⟨ho, hm, hr, hl⟩ => ⟨ho, hm, hr, fun b hb _ => hl b hb⟩,
    fun ⟨ho, hm, hr, hl⟩ => ⟨ho, hm, hr, fun b hb => hl b hb List.not_mem_nil⟩⟩

/-- What agreement reads of a bay record. -/
structure Stands (r r' : Bay) : Prop where
  entry : r'.entry = r.entry
  resting : r'.state.resting = r.state.resting
  withdrawn : r.state = .withdrawn → r'.state = .withdrawn

theorem Stands.refl (r : Bay) : Stands r r := ⟨rfl, rfl, id⟩

theorem Stands.trans {r r' r'' : Bay} (h : Stands r r') (h' : Stands r' r'') : Stands r r'' :=
  ⟨h'.entry.trans h.entry, h'.resting.trans h.resting, fun hw => h'.withdrawn (h.withdrawn hw)⟩

theorem Stands.of_state {r r' : Bay} (entry : r'.entry = r.entry) (state : r'.state = r.state) : Stands r r' :=
  ⟨entry, by rw [state], fun h => state.trans h⟩

section
variable {s t : State} {b : Nat} {bs : List Nat}

theorem agreesBut_of_stands (hd : t.directory = s.directory) (hb : ∀ c < 48, Stands (s.bay c) (t.bay c)) (hs : AgreesBut s bs) :
    AgreesBut t bs where
  ordered := hd ▸ hs.ordered
  members c hc code := by
    rw [hd, (hb c hc).entry]
    exact hs.members c hc code
  resting c hc h := by
    rw [(hb c hc).entry]
    exact hs.resting c hc ((hb c hc).resting ▸ h)
  live c hc hnot hlive hw := by
    rw [(hb c hc).entry]
    exact hs.live c hc hnot ((hb c hc).resting ▸ hlive) fun h => hw ((hb c hc).withdrawn h)

/-- R31: a bay without an entry ends its course. -/
theorem agreesBut_of_ended (hd : t.directory = s.directory) (hother : ∀ c, c ≠ b → t.bay c = s.bay c)
    (hnone : (s.bay b).entry = none ∧ (t.bay b).entry = none)
    (hend : (t.bay b).state.resting = true ∨ (t.bay b).state = .withdrawn) (hs : AgreesBut s (b :: bs)) : AgreesBut t bs where
  ordered := hd ▸ hs.ordered
  members c hc code := by
    rw [hd, ← hs.members c hc code]
    by_cases hcb : c = b
    · rw [hcb, hnone.1, hnone.2]
    · rw [hother c hcb]
  resting c hc h := by
    by_cases hcb : c = b
    · exact hcb ▸ hnone.2
    · rw [hother c hcb] at h ⊢
      exact hs.resting c hc h
  live c hc hnot hlive hw := by
    by_cases hcb : c = b
    · subst hcb
      exact absurd hend (by simp [hlive, hw])
    · rw [hother c hcb] at hlive hw ⊢
      exact hs.live c hc (by simp [hcb, hnot]) hlive hw

/-! ### The moves of a course -/

theorem setBay_stands (r : Bay) (h : Stands (s.bay b) r) : ∀ c < 48, Stands (s.bay c) ((s.setBay b r).bay c) := fun c hc => by
  by_cases hbc : b = c
  · subst hbc
    rw [State.setBay_bay_self _ _ _ hc]
    exact h
  · rw [State.setBay_bay_ne _ _ _ _ hbc]
    exact Stands.refl _

theorem unlockCompletion_stands (d : Nat) : ∀ c < 48, Stands (s.bay c) ((s.unlockCompletion d).bay c) := by
  have timed : ∀ timer, ∀ c < 48, Stands (s.bay c) ((s.setBay (bayOfDoor d) { s.bay (bayOfDoor d) with timer := timer }).bay c) :=
    fun _ => setBay_stands _ (Stands.of_state rfl rfl)
  have same : ∀ c < 48, Stands (s.bay c) (s.bay c) := fun _ _ => Stands.refl _
  unfold State.unlockCompletion
  cases sideOfDoor d
  · dsimp only
    split
    · exact timed _
    · exact same
  · dsimp only
    split
    · exact timed _
    · split
      · exact timed _
      · exact same

theorem request_stands (d : Nat) (a : LatchAction) (k : RequestClass) : ∀ c < 48, Stands (s.bay c) ((s.request d a k).bay c) := by
  intro c hc
  have read : ∀ u : State, u.bays = (s.request d a k).bays → (s.request d a k).bay c = u.bay c := fun u h => by
    unfold State.bay
    rw [h]
  obtain h | h := request_bays (s := s) d a k
  · rw [read s h.symm]
    exact Stands.refl _
  · rw [read (s.unlockCompletion d) h.symm]
    exact unlockCompletion_stands d c hc

/-- R30: a bay that leaves its entry and rests leaves the agreement. -/
theorem directoryAgrees_of_left (hd : t.directory = (s.leaveEntry b).directory) (hother : ∀ c, c ≠ b → t.bay c = s.bay c)
    (hbay : b < 48 → (t.bay b).entry = none ∧ (t.bay b).state.resting = true) (hs : s.DirectoryAgrees) : t.DirectoryAgrees := by
  have hresting : ∀ c < 48, (t.bay c).state.resting = true → (t.bay c).entry = none := fun c hc h => by
    by_cases hcb : c = b
    · exact hcb ▸ (hbay (hcb ▸ hc)).1
    · rw [hother c hcb] at h ⊢
      exact hs.resting c hc h
  have hlive : ∀ c < 48, (t.bay c).state.resting = false → (t.bay c).state ≠ .withdrawn → (t.bay c).entry ≠ none := fun c hc h hw => by
    by_cases hcb : c = b
    · rw [hcb, (hbay (hcb ▸ hc)).2] at h
      cases h
    · rw [hother c hcb] at h hw ⊢
      exact hs.live c hc h hw
  rw [leaveEntry_directory] at hd
  cases hentry : (s.bay b).entry with
  | none =>
    rw [hentry] at hd
    refine ⟨hd ▸ hs.ordered, fun c hc k => ?_, hresting, hlive⟩
    rw [hd, ← hs.members c hc k]
    by_cases hcb : c = b
    · rw [hcb, hentry, (hbay (hcb ▸ hc)).1]
    · rw [hother c hcb]
  | some code =>
    rw [hentry] at hd
    dsimp only at hd
    refine ⟨hd ▸ removeBay_ordered hs.ordered _ _, fun c hc k => ?_, hresting, hlive⟩
    rw [hd, removeBay_entries]
    by_cases hcb : c = b
    · subst hcb
      rw [(hbay hc).1]
      refine iff_of_false (fun h => nomatch h) ?_
      rintro ⟨f, hf, -, hmem⟩
      obtain ⟨e, he, hshort⟩ := List.mem_filterMap.mp hf
      obtain ⟨hin, hne⟩ := (mem_shortened hshort).mp hmem
      have hcode := (hs.members c hc e.code).mpr ⟨e, he, rfl, hin⟩
      rw [hentry] at hcode
      exact hne (Option.some.inj hcode).symm rfl
    · rw [hother c hcb, hs.members c hc k]
      constructor
      · rintro ⟨e, he, hk, hmem⟩
        obtain ⟨f, hf⟩ := shortened_of_mem (code := code) hmem hcb
        exact ⟨f, List.mem_filterMap.mpr ⟨e, he, hf⟩, (shortened_kept hf).1.trans hk, (mem_shortened hf).mpr ⟨hmem, fun _ => hcb⟩⟩
      · rintro ⟨f, hf, hk, hmem⟩
        obtain ⟨e, he, hshort⟩ := List.mem_filterMap.mp hf
        exact ⟨e, he, (shortened_kept hshort).1.symm.trans hk, ((mem_shortened hshort).mp hmem).1⟩

theorem directoryAgrees_of_stands (hd : t.directory = s.directory) (hb : ∀ c < 48, Stands (s.bay c) (t.bay c))
    (hs : s.DirectoryAgrees) : t.DirectoryAgrees :=
  directoryAgrees_iff.mpr (agreesBut_of_stands hd hb (directoryAgrees_iff.mp hs))

theorem directoryAgrees_congr (hb : t.bays = s.bays) (hd : t.directory = s.directory) (hs : s.DirectoryAgrees) : t.DirectoryAgrees :=
  directoryAgrees_of_stands hd (fun c _ => by
    have : t.bay c = s.bay c := by
      unfold State.bay
      rw [hb]
    rw [this]
    exact Stands.refl _) hs

theorem move_directoryAgrees {g : Rules} (hg : g.directory) (h : Move g b s t) (hs : s.DirectoryAgrees) : t.DirectoryAgrees := by
  cases h with
  | write r state entry => exact directoryAgrees_of_stands (s := s) rfl (setBay_stands r (.of_state (entry hg) state)) hs
  | change f _ entry =>
    obtain ⟨hentry, hrest, hw⟩ := entry hg
    refine directoryAgrees_of_stands (changeBay_directory f) (fun c hc => ?_) hs
    by_cases hbc : b = c
    · subst hbc
      rw [State.changeBay_bay_self _ _ _ hc]
      exact ⟨hentry, hrest, hw⟩
    · rw [State.changeBay_bay_ne _ _ _ _ hbc]
      exact Stands.refl _
  | leave f _ entry =>
    refine directoryAgrees_of_left (changeBay_directory f) (fun c hc => ?_) (fun hb => ?_) hs
    · rw [State.changeBay_bay_ne _ _ _ _ hc.symm, leaveEntry_bay]
    · rw [State.changeBay_bay_self _ _ _ hb, leaveEntry_bay]
      exact entry
  | notice | cut => exact directoryAgrees_congr (s := s) rfl rfl hs
  | mark => exact directoryAgrees_congr (by rw [State.markDiscard_frame]) markDiscard_directory hs
  | request d a c => exact directoryAgrees_of_stands (by rw [State.request_frame]) (request_stands d a c) hs
  | withdraw d a =>
    exact directoryAgrees_congr (by rw [State.withdrawRequest_frame]) (by rw [State.withdrawRequest_frame]) hs

end

/-! ### BOOK, NEW_CODE and CANCEL -/

section
variable {s : State}

/-- R27: the state a BOOK leaves. -/
theorem bookedState_agrees {ref code offset : Nat} {slots : List Nat} (h : bookChecks s ref code slots offset)
    (hlen : slots.length ≤ (s.chooseBays slots.length).length) (hs : s.DirectoryAgrees) :
    (bookedState s ref code slots offset).DirectoryAgrees := by
  have hrange := booked_entryInRange h hlen s.bankTime
  have hbays := map_fst_zip_chooseBays s slots hlen
  obtain ⟨-, hord, hcod, -, -⟩ := h
  have hentries : ∀ e, e ∈ (bookedState s ref code slots offset).directory.entries ↔
      e = { code := code, orderRef := ref, bays := s.chooseBays slots.length, created := s.bankTime } ∨ e ∈ s.directory.entries := by
    intro e
    show e ∈ insertEntry _ (bindBays s code offset _).directory.entries ↔ _
    rw [mem_insertEntry, bindBays_directory]
  have hout : ∀ c, c ∉ s.chooseBays slots.length → (bookedState s ref code slots offset).bay c = s.bay c := fun c hc =>
    bindBays_bay_of_notMem s code offset (hbays.symm ▸ hc)
  have hnodup : (((s.chooseBays slots.length).zip slots).map Prod.fst).Nodup := by
    rw [hbays]
    exact chooseBays_nodup s _
  have hlt : ∀ q ∈ (s.chooseBays slots.length).zip slots, q.1 < 48 := fun q hq =>
    (vacant_of_mem_chooseBays s (List.of_mem_zip hq).1).1
  have hin : ∀ c ∈ s.chooseBays slots.length, ((bookedState s ref code slots offset).bay c).entry = some code ∧
      ((bookedState s ref code slots offset).bay c).state.resting = false := by
    intro c hc
    rw [← hbays] at hc
    obtain ⟨p, hp, rfl⟩ := List.mem_map.mp hc
    have hrecord : (bookedState s ref code slots offset).bay p.1 = boundRecord s code offset (s.bay p.1) p.2 :=
      bindBays_bay_of_mem s code offset hnodup hlt hp
    rw [hrecord]
    refine ⟨rfl, ?_⟩
    unfold boundRecord
    dsimp only
    split <;> rfl
  refine ⟨?_, fun c hc k => ?_, fun c hc h => ?_, fun c hc hlive hw => ?_⟩
  · show Directory.Ordered { entries := insertEntry _ (bindBays s code offset _).directory.entries, generation := _ }
    rw [bindBays_directory]
    exact insertEntry_ordered hs.ordered hrange (findCode_none hcod) (findOrder_none hord)
  · by_cases hch : c ∈ s.chooseBays slots.length
    · rw [(hin c hch).1]
      constructor
      · intro hk
        exact ⟨_, (hentries _).mpr (.inl rfl), Option.some.inj hk, hch⟩
      · rintro ⟨e, he, hk, hmem⟩
        obtain rfl | he := (hentries e).mp he
        · exact congrArg some hk
        · have hnone := hs.resting c hc (by rw [(vacant_of_mem_chooseBays s hch).2]; rfl)
          rw [(hs.members c hc e.code).mpr ⟨e, he, rfl, hmem⟩] at hnone
          cases hnone
    · rw [hout c hch, hs.members c hc k]
      constructor
      · rintro ⟨e, he, h⟩
        exact ⟨e, (hentries e).mpr (.inr he), h⟩
      · rintro ⟨e, he, hk, hmem⟩
        obtain rfl | he := (hentries e).mp he
        · exact absurd hmem hch
        · exact ⟨e, he, hk, hmem⟩
  · by_cases hch : c ∈ s.chooseBays slots.length
    · rw [(hin c hch).2] at h
      cases h
    · rw [hout c hch] at h ⊢
      exact hs.resting c hc h
  · by_cases hch : c ∈ s.chooseBays slots.length
    · rw [(hin c hch).1]
      exact Option.some_ne_none code
    · rw [hout c hch] at hlive hw ⊢
      exact hs.live c hc hlive hw

/-- Records written with another entry, one after another. -/
theorem renamed_bay (bs : List Nat) (entry : Option Nat) (c : Nat) :
    (s.forBays bs fun s b => s.setBay b { s.bay b with entry := entry }).bay c =
      if c ∈ bs ∧ c < 48 then { s.bay c with entry := entry } else s.bay c := by
  unfold State.forBays
  induction bs generalizing s with
  | nil => simp
  | cons b bs ih =>
    rw [List.foldl_cons, ih]
    by_cases hc : c < 48
    · by_cases hbc : b = c
      · subst hbc
        rw [State.setBay_bay_self _ _ _ hc]
        simp [hc]
      · rw [State.setBay_bay_ne _ _ _ _ hbc]
        simp [Ne.symm hbc]
    · simp [hc, State.bay_of_le _ c (Nat.not_lt.mp hc)]

theorem renamed_directory (bs : List Nat) (entry : Option Nat) :
    (s.forBays bs fun s b => s.setBay b { s.bay b with entry := entry }).directory = s.directory := by
  unfold State.forBays
  induction bs generalizing s with
  | nil => rfl
  | cons b bs ih => exact ih

/-- R28: the state NEW_CODE leaves. -/
theorem serveNewCode_agrees {e : Entry} {code : Nat} (he : e ∈ s.directory.entries) (hcode : code ≤ 999999)
    (hs : s.DirectoryAgrees) : (serveNewCode s e code).state.DirectoryAgrees := by
  unfold serveNewCode
  split
  · exact hs
  next hfree =>
  have hfree : ∀ f ∈ s.directory.entries, f.code ≠ code := findCode_none (by simpa using hfree)
  dsimp only
  generalize hu : ({ s with directory := s.directory.rekey e code } : State) = u
  have hentries : ∀ f, f ∈ u.directory.entries ↔ f = { e with code := code } ∨ (f ∈ s.directory.entries ∧ f ≠ e) := by
    intro f
    rw [← hu]
    exact mem_rekey hs.ordered he
  have hbay : ∀ c, u.bay c = s.bay c := fun c => by rw [← hu]; rfl
  have hrecord : ∀ c < 48, ((u.forBays e.bays fun s b => s.setBay b { s.bay b with entry := some code }).bay c).state =
      (s.bay c).state ∧ ((u.forBays e.bays fun s b => s.setBay b { s.bay b with entry := some code }).bay c).entry =
        if c ∈ e.bays then some code else (s.bay c).entry := fun c hc => by
    rw [renamed_bay, hbay]
    by_cases hmem : c ∈ e.bays <;> simp [hmem, hc]
  have hin : ∀ c < 48, c ∈ e.bays → (s.bay c).entry = some e.code := fun c hc hmem => (hs.members c hc e.code).mpr ⟨e, he, rfl, hmem⟩
  refine ⟨?_, fun c hc k => ?_, fun c hc h => ?_, fun c hc hlive hw => ?_⟩
  · rw [renamed_directory, ← hu]
    exact rekey_ordered hs.ordered he hcode hfree
  · rw [(hrecord c hc).2, renamed_directory]
    by_cases hmem : c ∈ e.bays
    · rw [if_pos hmem]
      constructor
      · intro hk
        exact ⟨_, (hentries _).mpr (.inl rfl), Option.some.inj hk, hmem⟩
      · rintro ⟨f, hf, hk, hcf⟩
        obtain rfl | ⟨hf, hne⟩ := (hentries f).mp hf
        · exact congrArg some hk
        · have := (hs.members c hc f.code).mpr ⟨f, hf, rfl, hcf⟩
          rw [hin c hc hmem] at this
          exact absurd (eq_of_code_eq hs.ordered hf he (Option.some.inj this).symm) hne
    · rw [if_neg hmem, hs.members c hc k]
      constructor
      · rintro ⟨f, hf, hk, hcf⟩
        exact ⟨f, (hentries f).mpr (.inr ⟨hf, fun heq => hmem (heq ▸ hcf)⟩), hk, hcf⟩
      · rintro ⟨f, hf, hk, hcf⟩
        obtain rfl | ⟨hf, -⟩ := (hentries f).mp hf
        · exact absurd hcf hmem
        · exact ⟨f, hf, hk, hcf⟩
  · rw [(hrecord c hc).1] at h
    rw [(hrecord c hc).2, if_neg fun hmem => ?_]
    · exact hs.resting c hc h
    · have := hs.resting c hc h
      rw [hin c hc hmem] at this
      cases this
  · rw [(hrecord c hc).1] at hlive hw
    rw [(hrecord c hc).2]
    split
    · exact Option.some_ne_none code
    · exact hs.live c hc hlive hw

/-- R31: the entry removed. -/
theorem removeEntry_agreesBut {e : Entry} (he : e ∈ s.directory.entries) (hs : s.DirectoryAgrees) :
    AgreesBut (s.removeEntry e) e.bays := by
  unfold State.removeEntry
  dsimp only
  generalize hu : ({ s with directory := s.directory.remove e.code } : State) = u
  have hentries : ∀ f, f ∈ u.directory.entries ↔ f ∈ s.directory.entries ∧ f ≠ e := by
    intro f
    rw [← hu]
    show f ∈ List.filter _ _ ↔ _
    rw [List.mem_filter, decide_eq_true_eq]
    exact and_congr_right fun hf => ⟨fun h heq => h (heq ▸ rfl), fun h heq => h (eq_of_code_eq hs.ordered hf he heq)⟩
  have hbay : ∀ c, u.bay c = s.bay c := fun c => by rw [← hu]; rfl
  have hrecord : ∀ c < 48, ((u.forBays e.bays fun s b => s.setBay b { s.bay b with entry := none }).bay c).state =
      (s.bay c).state ∧ ((u.forBays e.bays fun s b => s.setBay b { s.bay b with entry := none }).bay c).entry =
        if c ∈ e.bays then none else (s.bay c).entry := fun c hc => by
    rw [renamed_bay, hbay]
    by_cases hmem : c ∈ e.bays <;> simp [hmem, hc]
  refine ⟨?_, fun c hc k => ?_, fun c hc h => ?_, fun c hc hout hlive hw => ?_⟩
  · rw [renamed_directory, ← hu]
    exact filter_ordered hs.ordered _ _
  · rw [(hrecord c hc).2, renamed_directory]
    by_cases hmem : c ∈ e.bays
    · rw [if_pos hmem]
      refine iff_of_false (fun h => nomatch h) ?_
      rintro ⟨f, hf, -, hcf⟩
      obtain ⟨hf, hne⟩ := (hentries f).mp hf
      have hk := (hs.members c hc f.code).mpr ⟨f, hf, rfl, hcf⟩
      rw [(hs.members c hc e.code).mpr ⟨e, he, rfl, hmem⟩] at hk
      exact hne (eq_of_code_eq hs.ordered hf he (Option.some.inj hk).symm)
    · rw [if_neg hmem, hs.members c hc k]
      constructor
      · rintro ⟨f, hf, hk, hcf⟩
        exact ⟨f, (hentries f).mpr ⟨hf, fun heq => hmem (heq ▸ hcf)⟩, hk, hcf⟩
      · rintro ⟨f, hf, h⟩
        exact ⟨f, ((hentries f).mp hf).1, h⟩
  · rw [(hrecord c hc).1] at h
    rw [(hrecord c hc).2]
    split
    · rfl
    · exact hs.resting c hc h
  · rw [(hrecord c hc).1] at hlive hw
    rw [(hrecord c hc).2, if_neg hout]
    exact hs.live c hc hlive hw

theorem returnRearLatch_directory (b : Nat) : (s.returnRearLatch b).directory = s.directory := by
  have hwithdrawn : (s.withdrawRequest (doorOf b .rear) .unlock).directory = s.directory := by rw [State.withdrawRequest_frame]
  unfold State.returnRearLatch
  dsimp only
  split
  · rw [State.requestLock_frame]
    exact hwithdrawn
  · exact hwithdrawn

theorem retired_resting {t : State} {b : Nat} (h : Retired s t b) : (t.bay b).entry = none ∧ (t.bay b).state.resting = true := by
  rw [h.record]
  refine ⟨rfl, ?_⟩
  dsimp only
  split <;> rfl

/-- R175: a bay of a cancelled order that has left its entry ends its course or is withdrawn. -/
theorem cancelBay_ended {b : Nat} (hb : b < 48) (hnone : (s.bay b).entry = none)
    (hst : (s.bay b).state ≠ .releasing ∧ (s.bay b).state ≠ .collecting) :
    (s.cancelBay b).directory = s.directory ∧ ((s.cancelBay b).bay b).entry = none ∧
      (((s.cancelBay b).bay b).state.resting = true ∨ ((s.cancelBay b).bay b).state = .withdrawn) := by
  have retired : ∀ u : State, u.directory = s.directory → u.bay b = s.bay b →
      (u.sendToVacant b).directory = s.directory ∧ ((u.sendToVacant b).bay b).entry = none ∧
        (((u.sendToVacant b).bay b).state.resting = true ∨ ((u.sendToVacant b).bay b).state = .withdrawn) := by
    intro u hd hbay
    have h := sendToVacant_retired (s := u) hb
    refine ⟨h.directory.trans ?_, (retired_resting h).1, .inl (retired_resting h).2⟩
    rw [hbay, hnone]
    exact hd
  have withdrawn : (s.enterWithdrawn b .cancelled).bay b = { (s.bay b).withdrawnFor .cancelled with demand := 0 } :=
    s.enterWithdrawn_bay_self b _ hb
  unfold State.cancelBay
  cases h : (s.bay b).state with
  | booked | preheating | ready => exact retired s rfl rfl
  | loading =>
    unfold State.cancelLoading
    dsimp only
    split
    · generalize hu : (s.enterWithdrawn b .cancelled).setBay b { (s.enterWithdrawn b .cancelled).bay b with clearing := true } = u
      have hbay : (u.bay b).entry = none ∧ (u.bay b).state = .withdrawn := by
        rw [← hu, State.setBay_bay_self _ _ _ hb, withdrawn]
        exact ⟨hnone, rfl⟩
      have hstands := request_stands (s := u) (doorOf b .rear) .unlock .service b hb
      refine ⟨?_, hstands.entry.trans hbay.1, .inr (hstands.withdrawn hbay.2)⟩
      rw [State.request_frame, ← hu]
      exact changeBay_directory _
    · exact retired _ (returnRearLatch_directory b) (returnRearLatch_bay b)
  | holding =>
    dsimp only
    rw [withdrawn]
    exact ⟨changeBay_directory _, hnone, .inr rfl⟩
  | vacant | outOfService => exact ⟨rfl, hnone, .inl (by rw [h]; rfl)⟩
  | withdrawn => exact ⟨rfl, hnone, .inr h⟩
  | releasing => exact absurd h hst.1
  | collecting => exact absurd h hst.2

/-- R175: the bays of a cancelled order, one after another. -/
theorem cancelBays_agrees (bs : List Nat) (hdistinct : bs.Nodup) (hbays : ∀ b ∈ bs, b < 48 ∧ (s.bay b).entry = none ∧
    (s.bay b).state ≠ .releasing ∧ (s.bay b).state ≠ .collecting) (hs : AgreesBut s bs) :
    (s.forBays bs State.cancelBay).DirectoryAgrees := by
  unfold State.forBays
  induction bs generalizing s with
  | nil => exact directoryAgrees_iff.mpr hs
  | cons b bs ih =>
    obtain ⟨hb, hnone, hst⟩ := hbays b (List.mem_cons_self ..)
    obtain ⟨hnot, hrest⟩ := List.nodup_cons.mp hdistinct
    have hother : ∀ c, c ≠ b → (s.cancelBay b).bay c = s.bay c := fun c hc =>
      (cancelBay_course (g := ⟨False, False⟩)).bay_of_notMem (by simpa using hc)
    obtain ⟨hd, hentry, hend⟩ := cancelBay_ended hb hnone hst
    refine ih hrest (fun c hc => ?_) (agreesBut_of_ended hd hother ⟨hnone, hentry⟩ hend hs)
    rw [hother c fun h => hnot (h ▸ hc)]
    exact hbays c (List.mem_cons_of_mem _ hc)

/-- R174 to R176: a CANCEL is refused, or removes the entry of the order and goes through its bays. -/
theorem serveCancel_cases (ref : Nat) : (serveCancel s ref).state = s ∨ ∃ e, s.findOrder ref = some e ∧
    (∀ b ∈ e.bays, (s.bay b).state ≠ .releasing ∧ (s.bay b).state ≠ .collecting) ∧
    (serveCancel s ref).state = (s.removeEntry e).forBays e.bays State.cancelBay := by
  unfold serveCancel
  split
  · exact .inl rfl
  · split
    · exact .inl rfl
    · next e he =>
      split
      · exact .inl rfl
      · next hfind => exact .inr ⟨e, he, by simpa using hfind, rfl⟩

theorem serveCancel_agrees (ref : Nat) (hs : s.DirectoryAgrees) : (serveCancel s ref).state.DirectoryAgrees := by
  obtain h | ⟨e, he, hst, h⟩ := serveCancel_cases (s := s) ref
  · rw [h]
    exact hs
  · rw [h]
    have hmem := (findOrder_some he).1
    obtain ⟨-, -, hasc, hlt⟩ := hs.ordered.bays e hmem
    refine cancelBays_agrees e.bays (hasc.imp fun hlt => Nat.ne_of_lt hlt) (fun b hb => ?_) (removeEntry_agreesBut hmem hs)
    have hrecord : (s.removeEntry e).bay b = { s.bay b with entry := none } :=
      (renamed_bay (s := { s with directory := s.directory.remove e.code }) e.bays none b).trans (if_pos ⟨hb, hlt b hb⟩)
    rw [hrecord]
    exact ⟨hlt b hb, rfl, hst b hb⟩

/-- Every command keeps the agreement. -/
theorem carryOut_agrees (c : Command) (hs : s.DirectoryAgrees) : (carryOut s c).state.DirectoryAgrees := by
  have regular : ¬ Rebooks c → (carryOut s c).state.DirectoryAgrees := fun hc => (carryOut_handling s c).keeps
    (fun _ _ _ h hu => (h ⟨True, False⟩ (fun h => h.elim) fun _ => hc).keeps
      (fun _ _ _ _ hm => move_directoryAgrees trivial hm) hu)
    (fun _ _ h hd hu => directoryAgrees_congr h.bays (hd hc) hu) hs
  cases c with
  | book ref code slots offset =>
    obtain h | ⟨hchecks, hlen, h⟩ := serveBook_cases s ref code slots offset
    · exact h.symm ▸ hs
    · exact h.symm ▸ bookedState_agrees hchecks hlen hs
  | cancel ref => exact serveCancel_agrees ref hs
  | amend ref form value =>
    by_cases hform : form = amendFormNewCode
    · show (serveAmend s ref form value).state.DirectoryAgrees
      unfold serveAmend
      split
      · exact hs
      next hvalues =>
      split
      · exact hs
      next e he =>
      subst hform
      refine serveNewCode_agrees (findOrder_some he).1 ?_ hs
      have hfits : amendValueFits amendFormNewCode value = true := by simpa using fun h => hvalues (.inr (.inr h))
      simpa [amendValueFits] using hfits
    · exact regular hform
  | load | clear | openOrder | lockout | restore | query | scan | status | configure | profileWrite | profileRead | restart | unknown
  | badLength | tooLong => exact regular id

theorem empty_directoryAgrees (u : State) : u.emptyRecords.DirectoryAgrees where
  ordered := ⟨.nil, .nil, List.forall_mem_nil _, List.forall_mem_nil _⟩
  members b _ code := by
    rw [emptyRecords_bay]
    exact iff_of_false (fun h => nomatch h) fun ⟨_, h, _⟩ => List.not_mem_nil h
  resting b _ _ := by rw [emptyRecords_bay]; rfl
  live b _ h _ := by rw [emptyRecords_bay] at h; cases h

theorem directoryAgrees_invariant : BayInvariant State.DirectoryAgrees where
  congr := directoryAgrees_congr
  move := move_directoryAgrees trivial
  serve _ c hs := carryOut_agrees c hs
  empty := empty_directoryAgrees

/-- Settles O4: the moves of a course keep the agreement (`move_directoryAgrees`), and so do BOOK, NEW_CODE and CANCEL, which change
entries themselves. -/
theorem directoryInvariantKept : Obligations.DirectoryInvariantKept := fun _ _ hs h ht =>
  directoryAgrees_invariant.step h hs ht

end

end Sys2Proof.Entries
end

section

-- One proof at a time: the proofs here together ask for more threads than the memory limit leaves room for.
set_option Elab.async false

/-! Invariants of doors, latches and heaters: what an act does to them, so that an invariant is one case for each kind of change. -/

namespace Sys2Proof.Acts

open Sys2Proof Sys2Proof.Machine Sys2Proof.Courses

/-- Bay records, doors, latches and heaters the same. -/
structure SameDrives (s t : State) : Prop where
  bays : t.bays = s.bays := by rfl
  closed : ∀ d, (t.door d).closed = (s.door d).closed := by exact fun _ => rfl
  records : t.latch.records = s.latch.records := by rfl
  queue : t.latch.queue = s.latch.queue := by rfl
  nextArrival : t.latch.nextArrival = s.latch.nextArrival := by rfl
  channels : t.latch.channels = s.latch.channels := by rfl
  budget : t.heater.budget = s.heater.budget := by rfl
  schedule : t.heater.schedule = s.heater.schedule := by rfl
  gates : t.heater.gates = s.heater.gates := by rfl
  present : t.mains.present = s.mains.present := by rfl

theorem Still.sameDrives {s t : State} (h : Still s t) : SameDrives s t :=
  ⟨h.bays, h.closed, h.records, h.queue, h.nextArrival, h.channels, h.budget, h.schedule, h.gates, h.present⟩

/-- R134, R151: latches and heaters as a start begins them. -/
structure Fresh (s : State) : Prop where
  records : ∀ d < 96, s.latchPosition d = .unlocked
  queue : s.latch.queue = []
  channels : s.latch.channels = Vector.replicate 4 none
  budget : ∃ c, s.heater.budget = budgetOf c
  schedule : s.heater.schedule = []
  gates : s.heater.gates = Vector.replicate 48 false

section
variable (s : State)

theorem startBlocks_latch : s.startBlocks.latch =
    { LatchArbiter.start with records := Vector.ofFn fun d : Fin 96 => s.latchAtStart d } := by simp only [State.startBlocks]

theorem startBlocks_heater : s.startBlocks.heater = HeaterAllocator.start (budgetOf s.config) := by simp only [State.startBlocks]

theorem startBlocks_record {d : Nat} (h : d < 96) : s.startBlocks.latchRecord d = s.latchAtStart d := by
  unfold State.latchRecord
  rw [startBlocks_latch]
  simp [Vector.getD, h]

theorem startBlocks_fresh : Fresh s.startBlocks where
  records d hd := by
    unfold State.latchPosition
    rw [startBlocks_record s hd]
    rfl
  queue := by rw [startBlocks_latch]; rfl
  channels := by rw [startBlocks_latch]; rfl
  budget := ⟨s.config, by rw [startBlocks_heater]; rfl⟩
  schedule := by rw [startBlocks_heater]; rfl
  gates := by rw [startBlocks_heater]; rfl

theorem Fresh.congr {s t : State} (hl : t.latch = s.latch) (hh : t.heater = s.heater) (h : Fresh s) : Fresh t where
  records d hd := by
    rw [latchPosition_congr hl]
    exact h.records d hd
  queue := hl ▸ h.queue
  channels := hl ▸ h.channels
  budget := hh ▸ h.budget
  schedule := hh ▸ h.schedule
  gates := hh ▸ h.gates

theorem withMarks_fresh (x : Option Bool) (w : Bool) (h : Fresh s) : Fresh (withMarks s x w) := Fresh.congr (s := s) rfl rfl h

theorem stoppedAt_fresh (w : Bool) : Fresh (stoppedAt s w) := withMarks_fresh _ _ _ (startBlocks_fresh _)

theorem stopPart_fresh (m : StopMoment) : Fresh (s.stopPart m) := by
  by_cases h : ∃ cold, s.starting = some cold ∧ m = .resolutionWritten
  · obtain ⟨cold, hst, rfl⟩ := h
    rw [stopPart_of_resolved s cold hst]
    exact stoppedAt_fresh _ _
  · rw [stopPart_of_not_resolved s m (by cases hst : s.starting with
      | none => exact .inl rfl
      | some cold => exact .inr fun hm => h ⟨cold, hst, hm⟩)]
    exact stoppedAt_fresh _ _

theorem beginStart_fresh (cold : Bool) : Fresh (s.beginStart cold) :=
  have begun : ∀ u : State, Fresh u → Fresh { u with starting := some cold } := fun u hu => Fresh.congr (s := u) rfl rfl hu
  begun _ (startBlocks_fresh _)

theorem begunAfresh_fresh (cold : Bool) : Fresh (begunAfresh s cold) := startBlocks_fresh _

end

/-- R143: the record, the queue and the channel of a grant. -/
def grantedPulse (s : State) (r : LatchRequest) (c : Nat) : State :=
  ((s.setLatchQueue s.latch.queue.tail).setLatchPosition r.door r.action.moving).setChannel c
    (some { door := r.door, action := r.action, startedAt := s.clock, length := s.pulseLength })

theorem grantPulse_aside (s : State) (r : LatchRequest) (c : Nat) : Aside (grantedPulse s r c) (s.grantPulse r c) :=
  (dropConversion_aside _).trans (noteStarved_aside _)

theorem endLock_agrees (s : State) (c d : Nat) : (s.endLock c d).retentionAgrees = s.retentionAgrees := by
  obtain ⟨u, hu, hlast⟩ := endLock_course (g := ⟨False, False⟩) s c d
  have hended : (endedLock s c d).retentionAgrees = s.retentionAgrees := by
    unfold endedLock
    split <;> rfl
  exact hlast.agrees.trans (hu.baysOnly.agrees.trans hended)

/-- R145: what moves and changes elsewhere keep is kept by the end of a LOCK pulse, once its record and its channel are written. -/
theorem endLock_keeps {P : State → Prop} (congr : ∀ {s t : State}, SameDrives s t → P s → P t)
    (move : ∀ {b : Nat} {s t : State}, Move ⟨False, False⟩ b s t → P s → P t) {s : State} {c d : Nat} (h : P (endedLock s c d)) :
    P (s.endLock c d) := by
  obtain ⟨u, hu, hlast⟩ := endLock_course (g := ⟨False, False⟩) s c d
  exact congr hlast.toStill.sameDrives (hu.keeps (fun _ _ _ _ hm => move hm) h)

/-- A predicate of doors, latches and heaters that the moves of courses and the acts keep, and that a start begins with. -/
structure DriveInvariant (P : State → Prop) : Prop where
  congr : ∀ {s t : State}, SameDrives s t → P s → P t
  move : ∀ {b : Nat} {s t : State}, Move ⟨False, False⟩ b s t → P s → P t
  window : ∀ {s : State}, s.mains.present = true → P s → P s.startWindow
  halfCycle : ∀ {s : State} {h : Nat}, h < 16 → s.mains.present = true → P s → P (s.beginHalfCycle h)
  abandon : ∀ {s : State}, P s → P s.abandonWindow
  returned : ∀ {s : State} (settle : Nat), P s → P { s with mains := { s.mains with settle := settle, present := true } }
  lost : ∀ {s : State}, P s → P s.loseMains
  opened : ∀ {s : State} {d : Nat}, d < 96 → P s → P (s.doorOpenedStep d)
  closed : ∀ {s : State} {d : Nat}, d < 96 → P s → P (closedDoor s d)
  granted : ∀ {s : State} {r : LatchRequest} {c : Nat}, s.latch.queue.head? = some r → s.freeChannel = some c →
    s.mayGrant r.door = true → P s → P (grantedPulse s r c)
  unlocked : ∀ {s : State} {p : Pulse} {c : Nat}, c < 4 → s.pulseOver c .unlock = some p → P s → P (endedPulse s c p.door .unlocked)
  locked : ∀ {s : State} {p : Pulse} {c : Nat}, c < 4 → s.pulseOver c .lock = some p → P s → P (s.endLock c p.door)
  fresh : ∀ {s : State}, Fresh s → P s

namespace DriveInvariant

variable {P : State → Prop} (hP : DriveInvariant P) {s t : State}
include hP

theorem course {bs : List Nat} (h : Course ⟨False, False⟩ bs s t) (hs : P s) : P t := h.keeps (fun _ _ _ _ hm => hP.move hm) hs

theorem still (h : Still s t) (hs : P s) : P t := hP.congr h.sameDrives hs

theorem resolved (cold : Bool) : P (s.resolved cold) := by
  obtain ⟨u, hu, -, n, hn⟩ := resolved_course (g := ⟨False, False⟩) s cold id
  rw [hn]
  have noted : ∀ {v : State}, P v → P { v with bankNotices := n, retentionAgrees := true } := fun hv => hP.congr {} hv
  exact noted (hP.course hu (hP.fresh (begunAfresh_fresh s cold)))

theorem swept (cold : Bool) : P (s.resolved cold).relockSweep := hP.course (relockSweep_course _) (hP.resolved cold)

theorem endStart (cold : Bool) : P (s.endStart cold) := by
  have ended : ∀ {u : State}, P u → P { u with starting := none } := fun hu => hP.congr {} hu
  unfold State.endStart
  dsimp only
  split
  · exact ended (hP.course (takeAllReached_course _ fun h => h.elim) (hP.swept cold))
  · exact ended (hP.swept cold)

/-- Every act keeps it: where `lost` says so, once what Retention Memory holds has been lost too. -/
theorem act {lost : Prop} (h : Act s t) (hs : s.retentionAgrees = true ∨ lost → P s) (hlost : lost → P s → P s.loseRetention)
    (ht : t.retentionAgrees = true ∨ lost) : P t := by
  have before : t.retentionAgrees = s.retentionAgrees → P s := fun h => hs (h ▸ ht)
  cases h with
  | aside h => exact hP.still h.toStill (before h.agrees)
  | course h =>
    have hc := h ⟨False, False⟩ fun h => h.elim
    exact hP.course hc (before hc.baysOnly.agrees)
  | serve c =>
    exact (carryOut_handling s c).keeps (fun _ _ _ h hu => hP.course (h ⟨False, False⟩ (fun h => h.elim) fun h => h.elim) hu)
      (fun _ _ h _ hu => hP.still h hu) (before (carryOut_agrees s c))
  | window present => exact hP.window present (before (by rw [Allocation.startWindow_frame]))
  | halfCycle h next present => exact hP.halfCycle next present (before rfl)
  | abandon => exact hP.abandon (before rfl)
  | returned settle => exact hP.returned settle (before rfl)
  | lost => exact hP.lost (before (by rw [loseMains_frame]))
  | opened d hd =>
    obtain ⟨u, hu, alarm, heq⟩ := doorOpenedStep_course (g := ⟨False, False⟩) s d fun h => h.elim
    refine hP.opened hd (before ?_)
    rw [heq]
    exact hu.baysOnly.agrees
  | closed d hd =>
    obtain ⟨u, hu, heq⟩ := doorClosedStep_course (g := ⟨False, False⟩) s d hd id
    have hend : SameDrives u (u.setDoor d { u.door d with alarm := none }) := { closed := fun e => closed_setDoor u d e _ rfl hd }
    have hagrees : (s.doorClosedStep d).retentionAgrees = s.retentionAgrees := by
      rw [heq]
      exact hu.baysOnly.agrees
    rw [heq] at ht ⊢
    exact hP.congr hend (hP.course hu (hP.closed hd (before hagrees)))
  | granted r c head free may =>
    exact hP.still (grantPulse_aside s r c).toStill (hP.granted head free may (before (grantPulse_aside s r c).agrees))
  | unlocked p c hc ends =>
    obtain ⟨u, hu, hlast⟩ := endUnlock_course (g := ⟨False, False⟩) s c p.door
    exact hP.still hlast.toStill (hP.course hu (hP.unlocked hc ends (before (hlast.agrees.trans hu.baysOnly.agrees))))
  | locked p c hc ends => exact hP.locked hc ends (before (endLock_agrees s c p.door))
  | begun pins cold => exact hP.fresh (beginStart_fresh _ cold)
  | ended cold => exact hP.endStart cold
  | stopped pins m => exact hP.fresh (stopPart_fresh _ m)
  | forgotten => exact ht.elim (fun h => nomatch h) fun h => hlost h (hs (.inr h))

/-- Every step keeps it. -/
theorem step (hlost : ∀ u : State, P u → P u.loseRetention) (h : step s = .next t) (hs : P s) : P t :=
  step_keeps s (fun _ _ ha hu => hP.act (lost := True) ha (fun _ => hu) (fun _ => hlost _) (.inr trivial)) h hs

/-- Every step keeps it, while what Retention Memory holds has not been lost (log 13). -/
theorem step_of_agrees (h : Machine.step s = .next t) (hs : s.retentionAgrees = true → P s) (ht : t.retentionAgrees = true) : P t :=
  step_keeps s (P := fun u => u.retentionAgrees = true → P u)
    (fun _ _ ha hu hv => hP.act (lost := False) ha (fun h => hu (h.resolve_right id)) (fun h => h.elim) (.inl hv)) h hs ht

end DriveInvariant

end Sys2Proof.Acts
end

section

-- One proof at a time: the proofs here together ask for more threads than the memory limit leaves room for.
set_option Elab.async false

/-! Lit gates and pulses within the power budget (R122, R123, R127, R143). -/

namespace Sys2Proof.Budgets

open Sys2Proof Sys2Proof.Machine Sys2Proof.Courses Sys2Proof.Acts

/-! ### Heaters through a course -/

section
variable {s t : State} {b : Nat}

theorem changeBay_heater_cases (f : Bay → Bay) : (s.changeBay b f).heater = s.heater ∨ (s.changeBay b f).heater = (s.cutRun b).heater := by
  rw [changeBay_heater]
  split
  · exact .inr rfl
  · exact .inl rfl

/-- R130: a move leaves the Heater Allocator, or cuts the run of its bay. -/
theorem Move.heater_cases {g : Rules} (h : Move g b s t) : t.heater = s.heater ∨ t.heater = (s.cutRun b).heater := by
  cases h with
  | write | notice => exact .inl rfl
  | change f => exact changeBay_heater_cases f
  | leave f =>
    have hleft : (s.leaveEntry b).heater = s.heater := by rw [State.leaveEntry_frame]
    have hcut : ((s.leaveEntry b).cutRun b).heater = (s.cutRun b).heater := by
      rw [State.leaveEntry_frame]
      rfl
    rw [← hleft, ← hcut]
    exact changeBay_heater_cases f
  | mark => exact .inl (by rw [State.markDiscard_frame])
  | cut => exact .inr rfl
  | request d a c => exact .inl (by rw [State.request_frame])
  | withdraw d a => exact .inl (by rw [State.withdrawRequest_frame])

/-- No more gates lit, and none more in any half-cycle. -/
structure NoMoreLit (s t : State) : Prop where
  gates : ∀ c, t.heater.gates.getD c false = true → s.heater.gates.getD c false = true
  schedule : ∀ h c, litIn t.heater.schedule h c = true → litIn s.heater.schedule h c = true

theorem noMoreLit_of_heater (h : t.heater = s.heater) : NoMoreLit s t := by
  constructor <;> rw [h] <;> simp

theorem cutRun_noMoreLit (s : State) (b : Nat) : NoMoreLit s (s.cutRun b) where
  gates c h := by
    by_cases hbc : b = c
    · rw [← hbc, (s.cutRun_off b).1] at h
      cases h
    · rwa [(cutRun_bayKept (Ne.symm hbc)).gate] at h
  schedule n c h := by
    simp only [litIn, List.any_eq_true, Bool.and_eq_true, decide_eq_true_eq, Bool.not_eq_true'] at h ⊢
    obtain ⟨r, hr, ⟨hbay, hcut⟩, hcovers⟩ := h
    obtain ⟨q, hq, rfl⟩ := List.mem_map.mp hr
    split at hbay
    · next hown =>
      rw [if_pos hown] at hcut
      cases hcut
    · next hother =>
      rw [if_neg hother] at hcut hcovers
      exact ⟨q, hq, ⟨hbay, hcut⟩, hcovers⟩

theorem Move.noMoreLit {g : Rules} (h : Move g b s t) : NoMoreLit s t := by
  obtain h | h := Move.heater_cases h
  · exact noMoreLit_of_heater h
  · have hcut := cutRun_noMoreLit s b
    exact ⟨h ▸ hcut.gates, h ▸ hcut.schedule⟩

/-! ### Gates and channels counted -/

theorem toList_eq_map_getD {α : Type} {n : Nat} (v : Vector α n) (x : α) : v.toList = (List.range n).map (v.getD · x) := by
  refine List.ext_getElem (by simp) fun i hi _ => ?_
  have hi : i < n := by simpa using hi
  simp [Vector.getD, hi]

theorem litGates_eq (s : State) : s.litGates = allBays.countP (s.heater.gates.getD · false) := by
  unfold State.litGates allBays
  rw [toList_eq_map_getD _ false, List.countP_map]
  rfl

theorem litGates_le (h : NoMoreLit s t) : t.litGates ≤ s.litGates := by
  rw [litGates_eq, litGates_eq]
  exact List.countP_mono_left fun c _ => h.gates c

theorem litIn_le (h : NoMoreLit s t) (n : Nat) : t.litIn n ≤ s.litIn n := List.countP_mono_left fun c _ => h.schedule n c

/-- R143: a channel energised adds one pulse at most. -/
theorem energised_setChannel_le (c : Nat) (p : Option Pulse) :
    (s.setChannel c p).energised ≤ s.energised + (if p.isSome then 1 else 0) := by
  by_cases hc : c < 4
  · simp only [State.energised, State.setChannel_latch, Vector.toList_setIfInBounds]
    rw [List.countP_set (by simpa using hc)]
    omega
  · have hsame : s.latch.channels.setIfInBounds c p = s.latch.channels := by
      refine Vector.ext fun i hi => ?_
      rw [Vector.getElem_setIfInBounds_ne _ (by omega)]
    simp only [State.energised, State.setChannel_latch, hsame]
    omega

/-! ### The schedule of a window within H (R126, R127) -/

/-- The positions below `n` that fall in half-cycle `h`. -/
def positionsIn (h n : Nat) : Nat := (n + 15 - h) / 16

theorem positionsIn_window {h : Nat} (hh : h < 16) (units : Nat) : positionsIn h (16 * units) = units := by
  unfold positionsIn
  omega

/-- R127: the runs laid end to end from a position that cover a half-cycle take one of its positions each. -/
theorem countP_covers_layRuns {h : Nat} (hh : h < 16) (bs : List Nat) (left n : Nat) :
    (s.layRuns bs left n).countP (·.covers h) + positionsIn h n ≤ positionsIn h (n + left) := by
  induction bs generalizing left n with
  | nil =>
    simp only [State.layRuns, List.countP_nil, positionsIn]
    omega
  | cons b bs ih =>
    rw [Allocation.layRuns_cons, List.countP_append]
    generalize hg : min (s.bay b).demand left = g
    have hle : g ≤ left := hg ▸ Nat.min_le_right ..
    have hrest := ih (left - g) (n + g)
    rw [show n + g + (left - g) = n + left by omega] at hrest
    have hfirst : (Allocation.runOf b n g).countP (·.covers h) + positionsIn h n ≤ positionsIn h (n + g) := by
      unfold Allocation.runOf
      split
      · simp only [List.countP_nil, positionsIn]
        omega
      · rw [List.countP_singleton]
        split
        · next hcovers =>
          obtain ⟨m, hfirst, hlast, hm⟩ := (Allocation.covers_iff hh).mp hcovers
          dsimp only at hfirst hlast
          unfold positionsIn
          omega
        · unfold positionsIn
          omega
    omega

/-- The bays lit in a half-cycle are no more than the runs that cover it. -/
theorem countP_litIn_le (schedule : List HeaterRun) (h : Nat) :
    allBays.countP (Machine.litIn schedule h) ≤ schedule.countP (·.covers h) := by
  rw [List.countP_eq_length_filter, List.countP_eq_length_filter, ← List.length_map (f := HeaterRun.bay)]
  refine List.Subperm.length_le (List.Nodup.subperm (List.nodup_range.filter _) fun c hc => ?_)
  have hlit := (List.mem_filter.mp hc).2
  simp only [Machine.litIn, List.any_eq_true, Bool.and_eq_true, decide_eq_true_eq] at hlit
  obtain ⟨r, hr, ⟨hbay, -⟩, hcovers⟩ := hlit
  exact List.mem_map.mpr ⟨r, List.mem_filter.mpr ⟨hr, hcovers⟩, hbay⟩

theorem startWindow_litIn_le {h : Nat} (hh : h < 16) : s.startWindow.litIn h ≤ s.startWindow.heater.budget.h := by
  refine (countP_litIn_le _ h).trans ?_
  rw [Allocation.startWindow_schedule]
  have hcount := countP_covers_layRuns (s := s) hh s.allocationOrder (16 * s.startWindow.heater.budget.h) 0
  rw [Nat.zero_add, positionsIn_window hh] at hcount
  omega

theorem beginHalfCycle_litGates (h : Nat) : (s.beginHalfCycle h).litGates = s.litIn h := by
  rw [litGates_eq]
  refine List.countP_congr fun c hc => ?_
  have hc : c < 48 := List.mem_range.mp hc
  simp [State.beginHalfCycle, Vector.getD, hc]

/-! ### The invariant -/

theorem budgetOf_shares (c : BankConfig) : (budgetOf c).lmaxEff + (budgetOf c).h ≤ (budgetOf c).b := by
  simp only [budgetOf]
  omega

theorem withinBudget_of_noMore (budget : t.heater.budget = s.heater.budget) (pulses : t.energised ≤ s.energised) (h : NoMoreLit s t)
    (hs : s.WithinBudget) : t.WithinBudget where
  shares := budget ▸ hs.shares
  pulses := budget ▸ pulses.trans hs.pulses
  schedule n hn := budget ▸ (litIn_le h n).trans (hs.schedule n hn)
  gates := budget ▸ (litGates_le h).trans hs.gates

theorem noMoreLit_of_off (schedule : t.heater.schedule = []) (gates : t.heater.gates = Vector.replicate 48 false) : NoMoreLit s t where
  gates c h := by
    by_cases hc : c < 48 <;> simp [gates, Vector.getD, hc] at h
  schedule n c h := by simp [litIn, schedule] at h

theorem startWindow_withinBudget (hs : s.WithinBudget) : s.startWindow.WithinBudget := by
  have henergised : s.startWindow.energised = s.energised := by
    rw [Allocation.startWindow_frame]
    rfl
  refine ⟨?_, ?_, fun h hh => startWindow_litIn_le hh, ?_⟩
  · rw [Allocation.startWindow_budget]
    split
    · exact budgetOf_shares _
    · exact hs.shares
  · rw [henergised, Allocation.startWindow_budget]
    split
    · assumption
    · exact hs.pulses
  · have hfirst : s.startWindow.litGates = s.startWindow.litIn 0 := beginHalfCycle_litGates 0
    rw [hfirst]
    exact startWindow_litIn_le (by decide)

theorem energised_congr (h : t.latch.channels = s.latch.channels) : t.energised = s.energised := by
  unfold State.energised
  rw [h]

theorem fresh_withinBudget (h : Fresh s) : s.WithinBudget := by
  obtain ⟨c, hbudget⟩ := h.budget
  have hlit : ∀ n x, litIn s.heater.schedule n x = false := fun n x => by simp [litIn, h.schedule]
  refine ⟨hbudget ▸ budgetOf_shares c, ?_, fun n _ => ?_, ?_⟩
  · simp [State.energised, h.channels]
  · exact (List.countP_eq_zero.mpr fun x _ => by simp [hlit]).le.trans (Nat.zero_le _)
  · simp [State.litGates, h.gates]

/-- What leaves the Heater Allocator and adds no pulse. -/
theorem withinBudget_of_heater (h : t.heater = s.heater) (pulses : t.energised ≤ s.energised) (hs : s.WithinBudget) : t.WithinBudget :=
  withinBudget_of_noMore (by rw [h]) pulses (noMoreLit_of_heater h) hs

theorem abandonWindow_withinBudget (hs : s.WithinBudget) : s.abandonWindow.WithinBudget :=
  withinBudget_of_noMore (s := s) rfl (Nat.le_refl _) (noMoreLit_of_off rfl rfl) hs

theorem loseMains_withinBudget (hs : s.WithinBudget) : s.loseMains.WithinBudget := by
  have hlost : ∀ m : MainsMonitor, ({ s with mains := m } : State).WithinBudget := fun _ =>
    withinBudget_of_heater (s := s) rfl (Nat.le_refl _) hs
  have hraised : ∀ {u : State}, u.WithinBudget → (u.raiseBank .mainsLost).WithinBudget := fun {u} hu =>
    withinBudget_of_heater (s := u) rfl (Nat.le_refl _) hu
  unfold State.loseMains
  dsimp only
  split
  · exact hraised (abandonWindow_withinBudget (hlost _))
  · exact hlost _

theorem move_withinBudget {g : Rules} (h : Move g b s t) (hs : s.WithinBudget) : t.WithinBudget :=
  withinBudget_of_noMore h.baysOnly.budget h.baysOnly.energised.le (Move.noMoreLit h) hs

theorem doorOpenedStep_withinBudget (d : Nat) (hs : s.WithinBudget) : (s.doorOpenedStep d).WithinBudget := by
  obtain ⟨u, hu, alarm, heq⟩ := doorOpenedStep_course (g := ⟨False, False⟩) s d fun h => h.elim
  have hopened : (openedDoor s d).WithinBudget := withinBudget_of_heater (s := s) rfl (Nat.le_refl _) hs
  have hcourse : u.WithinBudget := hu.keeps (fun _ _ _ _ hm => move_withinBudget hm) hopened
  have hcut : (u.cutRun (bayOfDoor d)).WithinBudget :=
    withinBudget_of_noMore (s := u) rfl (Nat.le_refl _) (cutRun_noMoreLit u (bayOfDoor d)) hcourse
  have hset : ∀ {v : State} (r : Door), v.WithinBudget → (v.setDoor d r).WithinBudget := fun {v} _ hv =>
    withinBudget_of_heater (s := v) rfl (Nat.le_refl _) hv
  rw [heq]
  exact hset _ hcut

theorem grantedPulse_withinBudget {r : LatchRequest} {c : Nat} (may : s.mayGrant r.door = true) (hs : s.WithinBudget) :
    (grantedPulse s r c).WithinBudget := by
  have hless : s.energised < s.heater.budget.lmaxEff := by
    simp only [State.mayGrant, Bool.and_eq_true, decide_eq_true_eq] at may
    exact may.1.1
  have hlit : NoMoreLit s (grantedPulse s r c) := noMoreLit_of_heater rfl
  have hpulses : (grantedPulse s r c).energised ≤ s.energised + 1 :=
    energised_setChannel_le (s := (s.setLatchQueue s.latch.queue.tail).setLatchPosition r.door r.action.moving) c _
  exact ⟨hs.shares, hpulses.trans hless, fun n hn => (litIn_le hlit n).trans (hs.schedule n hn), (litGates_le hlit).trans hs.gates⟩

theorem endedPulse_withinBudget (c d : Nat) (pos : LatchPosition) (hs : s.WithinBudget) : (endedPulse s c d pos).WithinBudget :=
  withinBudget_of_heater (s := s) rfl (energised_setChannel_le c none) hs

theorem endedLock_withinBudget (c d : Nat) (hs : s.WithinBudget) : (endedLock s c d).WithinBudget := by
  have hmarked : ∀ {u : State}, u.WithinBudget → (u.setOpenAfterFailedLock d true).WithinBudget := fun {u} hu =>
    withinBudget_of_heater (s := u) rfl (Nat.le_refl _) hu
  unfold endedLock
  split
  · exact endedPulse_withinBudget c d .locked hs
  · exact hmarked (endedPulse_withinBudget c d .unlocked hs)

theorem withinBudget_congr (h : SameDrives s t) (hs : s.WithinBudget) : t.WithinBudget :=
  withinBudget_of_noMore h.budget (energised_congr h.channels).le
    ⟨fun c => by rw [h.gates]; exact id, fun n c => by rw [h.schedule]; exact id⟩ hs

theorem beginHalfCycle_withinBudget {h : Nat} (hh : h < 16) (hs : s.WithinBudget) : (s.beginHalfCycle h).WithinBudget := by
  have hbudget : (s.beginHalfCycle h).heater.budget = s.heater.budget := by simp only [State.beginHalfCycle]
  have hpulses : (s.beginHalfCycle h).energised = s.energised := by simp only [State.energised, State.beginHalfCycle]
  have hschedule : ∀ n, (s.beginHalfCycle h).litIn n = s.litIn n := fun _ => by simp only [State.litIn, State.beginHalfCycle]
  constructor
  · rw [hbudget]
    exact hs.shares
  · rw [hbudget, hpulses]
    exact hs.pulses
  · intro n hn
    rw [hbudget, hschedule]
    exact hs.schedule n hn
  · rw [hbudget, beginHalfCycle_litGates]
    exact hs.schedule h hh

theorem closedDoor_withinBudget (d : Nat) (hs : s.WithinBudget) : (closedDoor s d).WithinBudget :=
  withinBudget_of_heater (s := s) rfl (Nat.le_refl _) hs

theorem mains_withinBudget (m : MainsMonitor) (hs : s.WithinBudget) : ({ s with mains := m } : State).WithinBudget :=
  withinBudget_of_heater (s := s) rfl (Nat.le_refl _) hs

theorem withinBudget_invariant : DriveInvariant State.WithinBudget := by
  constructor
  · exact fun h => withinBudget_congr h
  · exact fun h => move_withinBudget h
  · exact fun _ => startWindow_withinBudget
  · exact fun hh _ => beginHalfCycle_withinBudget hh
  · exact abandonWindow_withinBudget
  · exact fun _ => mains_withinBudget _
  · exact loseMains_withinBudget
  · exact fun _ => doorOpenedStep_withinBudget _
  · exact fun _ => closedDoor_withinBudget _
  · exact fun _ _ => grantedPulse_withinBudget
  · exact fun _ _ => endedPulse_withinBudget _ _ _
  · exact fun _ _ hs => endLock_keeps withinBudget_congr move_withinBudget (endedLock_withinBudget _ _ hs)
  · exact fresh_withinBudget

/-- Settles O5: what only puts out gates or ends pulses keeps within the budget, a window start lays its schedule within H
(`countP_covers_layRuns`), and a grant finds fewer pulses than its share. -/
theorem budgetInvariantKept : Obligations.BudgetInvariantKept := by
  intro s t hs h
  have ht : t.WithinBudget := withinBudget_invariant.step
    (fun u hu => withinBudget_of_noMore (s := u) rfl (Nat.le_refl _) (noMoreLit_of_heater rfl) hu) h hs
  have hshares := ht.shares
  have hpulses := ht.pulses
  have hgates := ht.gates
  exact ⟨ht, by omega⟩

end

end Sys2Proof.Budgets
end

section

-- One proof at a time: the proofs here together ask for more threads than the memory limit leaves room for.
set_option Elab.async false

/-! Heater gates off where no heat may flow (R129 to R131). -/

namespace Sys2Proof.Gates

open Sys2Proof Sys2Proof.Machine Sys2Proof.Courses Sys2Proof.Acts Sys2Proof.Budgets

section
variable {s t : State} {b : Nat}

/-! ### Requests leave a bay's state -/

theorem request_bay_state (d : Nat) (a : LatchAction) (k : RequestClass) (c : Nat) :
    ((s.request d a k).bay c).state = (s.bay c).state := by
  have timed : ∀ timer, ((s.setBay (bayOfDoor d) { s.bay (bayOfDoor d) with timer := timer }).bay c).state = (s.bay c).state := by
    intro timer
    by_cases hc : c < 48
    · by_cases hbc : bayOfDoor d = c
      · rw [hbc, State.setBay_bay_self _ _ _ hc]
      · rw [State.setBay_bay_ne _ _ _ _ hbc]
    · rw [State.bay_of_le _ c (Nat.not_lt.mp hc), State.bay_of_le _ c (Nat.not_lt.mp hc)]
  have completed : ((s.unlockCompletion d).bay c).state = (s.bay c).state := by
    unfold State.unlockCompletion
    cases sideOfDoor d
    · dsimp only
      split
      · exact timed _
      · rfl
    · dsimp only
      split
      · exact timed _
      · split
        · exact timed _
        · rfl
  obtain h | h := request_bays (s := s) d a k
  · unfold State.bay
    rw [h]
  · rw [← completed]
    unfold State.bay
    rw [h]

/-- R130: a move leaves the Heater Allocator and no heating state, or cuts the run of its bay. -/
theorem Move.heats {g : Rules} (h : Move g b s t) :
    (t.heater = s.heater ∧ ((s.bay b).state.heating = true → (t.bay b).state.heating = true)) ∨ t.heater = (s.cutRun b).heater := by
  have kept : t.heater = s.heater → (t.bay b).state = (s.bay b).state →
      (t.heater = s.heater ∧ ((s.bay b).state.heating = true → (t.bay b).state.heating = true)) ∨ t.heater = (s.cutRun b).heater :=
    fun hheater hstate => .inl ⟨hheater, fun hheats => by rw [hstate]; exact hheats⟩
  have changed : ∀ (u : State) (f : Bay → Bay), u.heater = s.heater → u.bay b = s.bay b →
      ((u.changeBay b f).heater = s.heater ∧ ((s.bay b).state.heating = true → ((u.changeBay b f).bay b).state.heating = true)) ∨
        (u.changeBay b f).heater = (s.cutRun b).heater := by
    intro u f hheater hbay
    rw [changeBay_heater, hbay]
    split
    · exact .inr (by simp only [State.cutRun, hheater])
    · next hnot =>
      refine .inl ⟨hheater, fun hheats => ?_⟩
      have hb : b < 48 := lt_of_state_ne fun hv => by rw [hv] at hheats; cases hheats
      rw [changeBay_state f hb, hbay]
      simpa [hheats] using hnot
  cases h with
  | write r state =>
    by_cases hb : b < 48
    · exact kept rfl (by rw [State.setBay_bay_self _ _ _ hb, state])
    · exact kept rfl (by rw [State.bay_of_le _ b (Nat.not_lt.mp hb), State.bay_of_le _ b (Nat.not_lt.mp hb)])
  | change f => exact changed s f rfl rfl
  | leave f => exact changed (s.leaveEntry b) f (by rw [State.leaveEntry_frame]) (leaveEntry_bay b)
  | notice => exact kept rfl rfl
  | mark => exact kept (by rw [State.markDiscard_frame]) (by rw [markDiscard_bay])
  | cut => exact .inr rfl
  | request d a k => exact kept (by rw [State.request_frame]) (request_bay_state d a k b)
  | withdraw d a => exact kept (by rw [State.withdrawRequest_frame]) (by rw [withdrawRequest_bay])

/-! ### Gates and runs put out -/

/-- R130: what is left of a schedule whose bay's run has been cut. -/
theorem cutRun_run {r : HeaterRun} (h : r ∈ (s.cutRun b).heater.schedule) (hcut : r.cut = false) :
    r ∈ s.heater.schedule ∧ r.bay ≠ b := by
  obtain ⟨q, hq, rfl⟩ := List.mem_map.mp h
  split at hcut
  · cases hcut
  · next hne =>
    rw [if_neg hne]
    exact ⟨hq, hne⟩

theorem cutRun_gate {c : Nat} (h : (s.cutRun b).heater.gates.getD c false = true) : s.heater.gates.getD c false = true ∧ c ≠ b := by
  refine ⟨(cutRun_noMoreLit s b).gates c h, fun hcb => ?_⟩
  rw [hcb, (s.cutRun_off b).1] at h
  cases h

/-- Nothing lit or waiting in the schedule that was not, and only where heat may still flow. -/
theorem gatesSafe_of_fewer (present : t.mains.present = s.mains.present)
    (gates : ∀ c, t.heater.gates.getD c false = true → s.heater.gates.getD c false = true ∧ (s.mayHeat c = true → t.mayHeat c = true))
    (runs : ∀ r ∈ t.heater.schedule, r.cut = false → r ∈ s.heater.schedule ∧ (s.mayHeat r.bay = true → t.mayHeat r.bay = true))
    (none : s.heater.schedule = [] → t.heater.schedule = []) (hs : s.GatesSafe) : t.GatesSafe where
  gates c hc h := by
    obtain ⟨hlit, hheat⟩ := gates c h
    obtain ⟨hmay, hpresent⟩ := hs.gates c hc hlit
    exact ⟨hheat hmay, present.trans hpresent⟩
  runs r hr hcut := by
    obtain ⟨hmem, hheat⟩ := runs r hr hcut
    exact hheat (hs.runs r hmem hcut)
  absent h := none (hs.absent (present ▸ h))

theorem gatesSafe_of_off (schedule : t.heater.schedule = []) (gates : t.heater.gates = Vector.replicate 48 false) : t.GatesSafe where
  gates c hc h := by simp [gates, Vector.getD, hc] at h
  runs r hr := by simp [schedule] at hr
  absent _ := schedule

/-- What leaves heaters, and takes no bay out of heat. -/
theorem gatesSafe_of_heater (heater : t.heater = s.heater) (present : t.mains.present = s.mains.present)
    (heat : ∀ c, s.mayHeat c = true → t.mayHeat c = true) (hs : s.GatesSafe) : t.GatesSafe := by
  refine gatesSafe_of_fewer present (fun c h => ⟨heater ▸ h, heat c⟩) (fun r hr _ => ⟨heater ▸ hr, heat r.bay⟩) (fun h => ?_) hs
  rw [heater]
  exact h

theorem mayHeat_iff {c : Nat} : s.mayHeat c = true ↔
    (s.bay c).state.heating = true ∧ (s.door (2 * c)).closed = true ∧ (s.door (2 * c + 1)).closed = true := by
  simp only [State.mayHeat, State.doorsClosed, Bool.and_eq_true]
  rfl

theorem mayHeat_of {c : Nat} (state : (t.bay c).state = (s.bay c).state)
    (front : (s.door (2 * c)).closed = true → (t.door (2 * c)).closed = true)
    (rear : (s.door (2 * c + 1)).closed = true → (t.door (2 * c + 1)).closed = true) (h : s.mayHeat c = true) : t.mayHeat c = true := by
  obtain ⟨hstate, hfront, hrear⟩ := mayHeat_iff.mp h
  exact mayHeat_iff.mpr ⟨state ▸ hstate, front hfront, rear hrear⟩

theorem move_mayHeat {g : Rules} (h : Move g b s t) {c : Nat} (hc : c ≠ b) (hm : s.mayHeat c = true) : t.mayHeat c = true :=
  mayHeat_of (by rw [(h.bayKept hc).record]) (by rw [h.baysOnly.door]; exact id) (by rw [h.baysOnly.door]; exact id) hm

theorem move_gatesSafe {g : Rules} (h : Move g b s t) (hs : s.GatesSafe) : t.GatesSafe := by
  have hpresent : t.mains.present = s.mains.present := by rw [h.baysOnly.mains]
  obtain ⟨hheater, hheats⟩ | hheater := Move.heats h
  · refine gatesSafe_of_heater hheater hpresent (fun c hm => ?_) hs
    by_cases hc : c = b
    · subst hc
      obtain ⟨hstate, hfront, hrear⟩ := mayHeat_iff.mp hm
      exact mayHeat_iff.mpr ⟨hheats hstate, (h.baysOnly.door _).symm ▸ hfront, (h.baysOnly.door _).symm ▸ hrear⟩
    · exact move_mayHeat h hc hm
  · refine gatesSafe_of_fewer hpresent (fun c hlit => ?_) (fun r hr hcut => ?_) (fun hnone => ?_) hs
    · obtain ⟨hlit, hc⟩ := cutRun_gate (hheater ▸ hlit)
      exact ⟨hlit, move_mayHeat h hc⟩
    · obtain ⟨hr, hc⟩ := cutRun_run (hheater ▸ hr) hcut
      exact ⟨hr, move_mayHeat h hc⟩
    · rw [hheater]
      simp [State.cutRun, hnone]

/-! ### Doors -/

/-- R130: an opening cuts the run of the door's bay. -/
theorem doorOpenedStep_gatesSafe {d : Nat} (hd : d < 96) (hs : s.GatesSafe) : (s.doorOpenedStep d).GatesSafe := by
  obtain ⟨u, hu, alarm, heq⟩ := doorOpenedStep_course (g := ⟨False, False⟩) s d fun h => h.elim
  have other : ∀ {e : Nat}, bayOfDoor e ≠ bayOfDoor d → (s.doorOpenedStep d).door e = s.door e := by
    intro e he
    have hde : d ≠ e := fun h => he (h ▸ rfl)
    rw [heq, State.setDoor_door_ne _ _ _ _ hde]
    exact (hu.baysOnly.door e).trans (s.setDoor_door_ne d e _ hde)
  have hheat : ∀ {c : Nat}, c ≠ bayOfDoor d → s.mayHeat c = true → (s.doorOpenedStep d).mayHeat c = true := by
    intro c hc
    refine mayHeat_of ?_ ?_ ?_
    · rw [heq]
      exact congrArg Bay.state (hu.bay_of_notMem (by simpa using hc))
    · rw [other (e := 2 * c) fun h => hc ((bayOfDoor_front c).symm.trans h)]
      exact id
    · rw [other (e := 2 * c + 1) fun h => hc ((bayOfDoor_rear c).symm.trans h)]
      exact id
  have hkept : ∀ {c : Nat}, c ≠ bayOfDoor d → BayKept (openedDoor s d) u c := fun hc => hu.onlyBays.2.1 _ (by simpa using hc)
  have hheater : (s.doorOpenedStep d).heater = (u.cutRun (bayOfDoor d)).heater := by
    rw [heq]
    rfl
  refine gatesSafe_of_fewer ?_ (fun c h => ?_) (fun r hr hcut => ?_) (fun hnone => ?_) hs
  · rw [heq]
    exact congrArg MainsMonitor.present hu.baysOnly.mains
  · obtain ⟨hlit, hc⟩ := cutRun_gate (hheater ▸ h)
    exact ⟨(hkept hc).gate ▸ hlit, hheat hc⟩
  · obtain ⟨hr, hc⟩ := cutRun_run (hheater ▸ hr) hcut
    have hmem : r ∈ u.heater.schedule.filter fun q => q.bay = r.bay := List.mem_filter.mpr ⟨hr, by simp⟩
    rw [(hkept hc).run] at hmem
    exact ⟨List.mem_of_mem_filter hmem, hheat hc⟩
  · have hempty : u.heater.schedule = [] := hu.keeps (P := fun v => v.heater.schedule = []) (fun _ _ v w hm hv => by
      obtain h | h := Move.heater_cases hm
      · rw [h]
        exact hv
      · rw [h]
        simp [State.cutRun, hv]) hnone
    rw [hheater]
    simp [State.cutRun, hempty]

theorem closedDoor_closed {d e : Nat} (hd : d < 96) (h : (s.door e).closed = true) : ((closedDoor s d).door e).closed = true := by
  have hsame : (closedDoor s d).door e = (s.setDoor d { s.door d with closed := true, candidate := none }).door e := rfl
  rw [hsame]
  by_cases hde : d = e
  · rw [hde, State.setDoor_door_self _ _ _ (hde ▸ hd)]
  · rwa [State.setDoor_door_ne _ _ _ _ hde]

theorem closedDoor_gatesSafe {d : Nat} (hd : d < 96) (hs : s.GatesSafe) : (closedDoor s d).GatesSafe :=
  gatesSafe_of_heater (s := s) rfl rfl (fun _ => mayHeat_of (s := s) (t := closedDoor s d) rfl (closedDoor_closed hd) (closedDoor_closed hd)) hs

/-! ### Windows (R124, R129, R131) -/

/-- R129: gates lit by a schedule whose runs are for bays that may be heated. -/
theorem litIn_mayHeat {schedule : List HeaterRun} (h : ∀ r ∈ schedule, r.cut = false → s.mayHeat r.bay = true) {n c : Nat}
    (hlit : litIn schedule n c = true) : s.mayHeat c = true := by
  simp only [litIn, List.any_eq_true, Bool.and_eq_true, decide_eq_true_eq, Bool.not_eq_true'] at hlit
  obtain ⟨r, hr, ⟨hbay, hcut⟩, -⟩ := hlit
  exact hbay ▸ h r hr hcut

theorem beginHalfCycle_gatesSafe (h : Nat) (present : s.mains.present = true) (runs : ∀ r ∈ s.heater.schedule, r.cut = false → s.mayHeat r.bay = true) :
    (s.beginHalfCycle h).GatesSafe := by
  have hheat : ∀ c, (s.beginHalfCycle h).mayHeat c = s.mayHeat c := fun c => by
    simp only [State.mayHeat, State.beginHalfCycle]
    rfl
  have hschedule : (s.beginHalfCycle h).heater.schedule = s.heater.schedule := by simp only [State.beginHalfCycle]
  have hpresent : (s.beginHalfCycle h).mains.present = true := by simp only [State.beginHalfCycle, present]
  refine ⟨fun c hc hlit => ⟨?_, hpresent⟩, fun r hr hcut => ?_, fun habsent => ?_⟩
  · have hlit : litIn s.heater.schedule h c = true := by simpa [State.beginHalfCycle, Vector.getD, hc] using hlit
    rw [hheat]
    exact litIn_mayHeat runs hlit
  · rw [hheat]
    exact runs r (hschedule ▸ hr) hcut
  · rw [hpresent] at habsent
    cases habsent

theorem layRuns_mayHeat {u : State} {left n : Nat} {r : HeaterRun} (h : r ∈ u.layRuns s.allocationOrder left n) : s.mayHeat r.bay = true := by
  have hbay := Allocation.bay_mem_of_mem_layRuns u h
  simp only [State.allocationOrder, List.mem_append, State.classOrder, List.mem_filter, Bool.and_eq_true] at hbay
  have heligible : s.eligible r.bay = true := by tauto
  exact heligible

theorem startWindow_gatesSafe (present : s.mains.present = true) : s.startWindow.GatesSafe := by
  unfold State.startWindow
  dsimp only
  have hadopt := Allocation.adoptBudget_frame s
  refine beginHalfCycle_gatesSafe 0 ?_ fun r hr _ => ?_
  · rw [hadopt]
    exact present
  · have hlaid : s.adoptBudget.mayHeat r.bay = true := layRuns_mayHeat hr
    exact hlaid

theorem abandonWindow_gatesSafe : s.abandonWindow.GatesSafe := gatesSafe_of_off rfl rfl

theorem loseMains_gatesSafe (hs : s.GatesSafe) : s.loseMains.GatesSafe := by
  unfold State.loseMains
  dsimp only
  split
  · exact gatesSafe_of_off rfl rfl
  · next habsent =>
    have habsent : s.mains.present = false := by simpa using habsent
    exact gatesSafe_of_heater (s := s) rfl habsent.symm (fun _ => id) hs

theorem fresh_gatesSafe (h : Fresh s) : s.GatesSafe := gatesSafe_of_off h.schedule h.gates

theorem endedLock_gatesSafe (c d : Nat) (hs : s.GatesSafe) : (endedLock s c d).GatesSafe := by
  unfold endedLock
  split
  · exact gatesSafe_of_heater (s := s) rfl rfl (fun _ => id) hs
  · exact gatesSafe_of_heater (s := s) rfl rfl (fun _ => id) hs

theorem sameDrives_gatesSafe (h : SameDrives s t) (hs : s.GatesSafe) : t.GatesSafe := by
  refine gatesSafe_of_fewer h.present (fun c hlit => ⟨h.gates ▸ hlit, ?_⟩) (fun r hr _ => ⟨h.schedule ▸ hr, ?_⟩)
    (fun hnone => h.schedule.trans hnone) hs
  all_goals
    refine mayHeat_of ?_ ?_ ?_
    · unfold State.bay
      rw [h.bays]
    · rw [h.closed]
      exact id
    · rw [h.closed]
      exact id

theorem gatesSafe_invariant : DriveInvariant State.GatesSafe := by
  constructor
  case congr => exact fun h => sameDrives_gatesSafe h
  case move => exact fun h => move_gatesSafe h
  case window => exact fun present _ => startWindow_gatesSafe present
  case halfCycle => exact fun _ present hs => beginHalfCycle_gatesSafe _ present hs.runs
  case abandon => exact fun _ => abandonWindow_gatesSafe
  case returned =>
    intro s settle hs
    exact ⟨fun c hc h => ⟨(hs.gates c hc h).1, rfl⟩, hs.runs, fun h => nomatch h⟩
  case lost => exact loseMains_gatesSafe
  case opened => exact fun hd => doorOpenedStep_gatesSafe hd
  case closed => exact fun hd => closedDoor_gatesSafe hd
  case granted =>
    intro s r c _ _ _ hs
    exact gatesSafe_of_heater (s := s) rfl rfl (fun _ => id) hs
  case unlocked =>
    intro s p c _ _ hs
    exact gatesSafe_of_heater (s := s) rfl rfl (fun _ => id) hs
  case locked => exact fun _ _ hs => endLock_keeps sameDrives_gatesSafe move_gatesSafe (endedLock_gatesSafe _ _ hs)
  case fresh => exact fresh_gatesSafe

/-- Settles O6: a move that takes its bay out of the heating states cuts its run, an opening does, and the gates of a window are lit for
bays of the allocation order. -/
theorem gateInvariantKept : Obligations.GateInvariantKept := fun _ _ hs h ht => gatesSafe_invariant.step_of_agrees h hs ht

end

end Sys2Proof.Gates
end

section

-- One proof at a time: the proofs here together ask for more threads than the memory limit leaves room for.
set_option Elab.async false

/-! The Latch Arbiter through a step (R139 to R145): the queue stays ordered, and records, pulses and requests agree. -/

namespace Sys2Proof.Latches

open Sys2Proof Sys2Proof.Machine Sys2Proof.Courses Sys2Proof.Acts

section
variable {s t : State}

/-! ### Records and channels written -/

theorem setLatchPosition_record_self {d : Nat} (p : LatchPosition) (hd : d < 96) :
    (s.setLatchPosition d p).latchRecord d = { s.latchRecord d with position := p } := s.setLatchRecord_self d _ hd

theorem setLatchPosition_record_ne {d e : Nat} (p : LatchPosition) (h : d ≠ e) :
    (s.setLatchPosition d p).latchRecord e = s.latchRecord e := s.setLatchRecord_ne d e _ h

theorem setChannel_getD {c c' : Nat} (p : Option Pulse) (hc : c < 4) :
    (s.setChannel c p).latch.channels.getD c' none = if c' = c then p else s.latch.channels.getD c' none := by
  by_cases h : c = c'
  · subst h
    rw [if_pos rfl]
    exact getD_setIfInBounds_self _ _ _ _ hc
  · rw [if_neg (Ne.symm h)]
    exact getD_setIfInBounds_ne _ _ _ _ _ h

theorem pulseOver_some {c : Nat} {a : LatchAction} {p : Pulse} (h : s.pulseOver c a = some p) :
    s.latch.channels.getD c none = some p ∧ p.action = a ∧ s.elapsed p.startedAt p.length = true := by
  unfold State.pulseOver at h
  split at h
  · next q hq =>
    split at h
    · next hover =>
      cases h
      exact ⟨hq, hover.1, hover.2⟩
    · cases h
  · cases h

theorem freeChannel_some {c : Nat} (h : s.freeChannel = some c) : c < 4 ∧ s.latch.channels.getD c none = none := by
  refine ⟨List.mem_range.mp (List.mem_of_find?_eq_some h), ?_⟩
  simpa using List.find?_some h

theorem pulseRuns_iff {d : Nat} : s.pulseRuns d = true ↔ ∃ c < 4, ∃ p, s.latch.channels.getD c none = some p ∧ p.door = d := by
  unfold State.pulseRuns
  rw [Budgets.toList_eq_map_getD _ none, List.any_map, List.any_eq_true]
  constructor
  · rintro ⟨c, hc, hp⟩
    cases hget : s.latch.channels.getD c none with
    | none => simp [hget] at hp
    | some p => exact ⟨c, List.mem_range.mp hc, p, hget, by simpa [hget] using hp⟩
  · rintro ⟨c, hc, p, hget, hd⟩
    exact ⟨c, List.mem_range.mpr hc, by simp [hget, hd]⟩

/-- R145: what the end of a LOCK pulse on an open door leaves of the Latch Arbiter: a waiting UNLOCK is withdrawn. -/
theorem lockFails_latch (d : Nat) : (s.lockFails d).latch =
    (((s.setLatchPosition d .unlocked).setOpenAfterFailedLock d true).withdrawRequest d .unlock).latch := by
  rw [lockFails_eq]
  dsimp only
  generalize hu : (s.setLatchPosition d .unlocked).setOpenAfterFailedLock d true = u
  have hraised : (u.raiseBay (bayOfDoor d) (.lockFailed (sideOfDoor d))).latch = u.latch := rfl
  rw [← withdrawRequest_latch_congr hraised]
  generalize u.raiseBay (bayOfDoor d) (.lockFailed (sideOfDoor d)) = v
  split
  · rw [State.unlockCompletion_frame]
  · next hnone =>
    unfold State.withdrawRequest
    split
    · next r hr =>
      rw [if_neg fun ha => hnone (by simp [hr, ha])]
    · rfl

/-! ### The queue in its order -/

theorem queueOrdered_of_latch (h : t.latch = s.latch) (hs : s.QueueOrdered) : t.QueueOrdered :=
  queueOrdered_congr (by rw [h]) (by rw [h]) hs

theorem fresh_queueOrdered (h : Fresh s) : s.QueueOrdered := by
  rw [queueOrdered_iff, h.queue]
  exact ⟨.nil, .nil, .nil, List.forall_mem_nil _⟩

theorem startWindow_latch : s.startWindow.latch = s.latch := by rw [Allocation.startWindow_frame]

theorem loseMains_latch : s.loseMains.latch = s.latch := by rw [loseMains_frame]

theorem doorOpenedStep_keeps {P : State → Prop} (congr : ∀ {s t : State}, t.latch = s.latch → P s → P t)
    (move : ∀ {b : Nat} {s t : State}, Move ⟨False, False⟩ b s t → P s → P t) {d : Nat} (hs : P s) : P (s.doorOpenedStep d) := by
  obtain ⟨u, hu, alarm, heq⟩ := doorOpenedStep_course (g := ⟨False, False⟩) s d fun h => h.elim
  have hopened : P (openedDoor s d) := congr (s := s) rfl hs
  rw [heq]
  exact congr (s := u) rfl (hu.keeps (fun _ _ _ _ hm => move hm) hopened)

theorem queueOrdered_invariant : DriveInvariant State.QueueOrdered := by
  have sameQueue : ∀ {u v : State}, v.latch.queue = u.latch.queue → v.latch.nextArrival = u.latch.nextArrival → u.QueueOrdered →
    v.QueueOrdered := queueOrdered_congr
  constructor
  case congr => exact fun h => sameQueue h.queue h.nextArrival
  case move => exact fun h => h.queueOrdered
  case window => exact fun _ => queueOrdered_of_latch startWindow_latch
  case halfCycle => exact fun {s} _ _ _ => queueOrdered_of_latch (s := s) (by simp only [State.beginHalfCycle])
  case abandon => exact fun {s} => queueOrdered_of_latch (s := s) rfl
  case returned => exact fun {s} _ => queueOrdered_of_latch (s := s) rfl
  case lost => exact queueOrdered_of_latch loseMains_latch
  case opened => exact fun {s} _ _ => doorOpenedStep_keeps queueOrdered_of_latch fun hm => hm.queueOrdered
  case closed => exact fun {s} _ _ => sameQueue (u := s) rfl rfl
  case granted => exact fun {s r c} _ _ _ => queueOrdered_of_sublist (s := s) (List.tail_sublist _) rfl
  case unlocked => exact fun {s} _ _ _ _ => sameQueue (u := s) rfl rfl
  case locked =>
    intro s p c _ _ hs
    refine endLock_keeps (P := State.QueueOrdered) (fun h => sameQueue h.queue h.nextArrival) (fun hm => hm.queueOrdered) ?_
    unfold endedLock
    split
    · exact sameQueue (u := s) rfl rfl hs
    · exact sameQueue (u := s) rfl rfl hs
  case fresh => exact fresh_queueOrdered

theorem loseRetention_latch : s.loseRetention.latch = s.latch := rfl

theorem step_queueOrdered (h : step s = .next t) (hs : s.QueueOrdered) : t.QueueOrdered :=
  queueOrdered_invariant.step (fun _ => queueOrdered_of_latch loseRetention_latch) h hs

/-! ### Records, pulses and requests in agreement -/

theorem moving_iff (a : LatchAction) : (a.moving = .locking ↔ a = .lock) ∧ (a.moving = .unlocking ↔ a = .unlock) := by
  cases a <;> simp [LatchAction.moving]

/-- R139: while a pulse runs for a door its record is on the side it drives to. -/
theorem side_of_drives (hl : s.LatchesAgree) {d : Nat} {a : LatchAction} (hd : d < 96) (h : s.Drives d a) : (s.latchPosition d).side = a := by
  obtain ⟨hlock, hunlock⟩ := hl.moving d hd
  cases a
  · rw [hlock.mpr h]
    rfl
  · rw [hunlock.mpr h]
    rfl

theorem latchesAgree_of_position (records : ∀ d, t.latchPosition d = s.latchPosition d) (queue : t.latch.queue = s.latch.queue)
    (channels : t.latch.channels = s.latch.channels) (hs : s.LatchesAgree) : t.LatchesAgree := by
  have hdrives : ∀ d a, t.Drives d a ↔ s.Drives d a := fun d a => by simp only [State.Drives, channels]
  refine ⟨fun d hd => ?_, ?_, fun r hr => ?_, ?_⟩
  · rw [records, hdrives, hdrives]
    exact hs.moving d hd
  · rw [channels]
    exact hs.single
  · rw [records]
    exact hs.opposite r (queue ▸ hr)
  · rw [queue, channels]
    exact hs.doors

/-- R143: a grant. -/
theorem grantedPulse_latchesAgree {r : LatchRequest} {c : Nat} (head : s.latch.queue.head? = some r) (free : s.freeChannel = some c)
    (may : s.mayGrant r.door = true) (hq : s.QueueOrdered) (hl : s.LatchesAgree) : (grantedPulse s r c).LatchesAgree := by
  obtain ⟨hc, hfree⟩ := freeChannel_some free
  obtain ⟨rest, hqueue⟩ := List.head?_eq_some_iff.mp head
  have hrd : r.door < 96 := hl.doors.1 r (hqueue ▸ List.mem_cons_self ..)
  have hquiet : ¬ s.pulseRuns r.door = true := by
    simp only [State.mayGrant, Bool.and_eq_true, Bool.not_eq_true'] at may
    simp [may.2]
  have hnone : ∀ c' < 4, ∀ p, s.latch.channels.getD c' none = some p → p.door ≠ r.door := fun c' hc' p hp hd =>
    hquiet (pulseRuns_iff.mpr ⟨c', hc', p, hp, hd⟩)
  have hposition : ∀ e, (grantedPulse s r c).latchPosition e = if e = r.door then r.action.moving else s.latchPosition e := by
    intro e
    by_cases he : e = r.door
    · subst he
      rw [if_pos rfl]
      exact congrArg LatchRecord.position (setLatchPosition_record_self (s := s.setLatchQueue s.latch.queue.tail) _ hrd)
    · rw [if_neg he]
      exact congrArg LatchRecord.position (setLatchPosition_record_ne (s := s.setLatchQueue s.latch.queue.tail) _ (Ne.symm he))
  have hchannels : ∀ c', (grantedPulse s r c).latch.channels.getD c' none =
      if c' = c then some { door := r.door, action := r.action, startedAt := s.clock, length := s.pulseLength }
      else s.latch.channels.getD c' none := fun c' =>
    setChannel_getD (s := (s.setLatchQueue s.latch.queue.tail).setLatchPosition r.door r.action.moving) _ hc
  have htail : (grantedPulse s r c).latch.queue = rest := by
    show s.latch.queue.tail = rest
    rw [hqueue]
    rfl
  have hdrives : ∀ e a, (grantedPulse s r c).Drives e a ↔ if e = r.door then r.action = a else s.Drives e a := by
    intro e a
    by_cases he : e = r.door
    · subst he
      rw [if_pos rfl]
      constructor
      · rintro ⟨c', hc', p, hp, hd, ha⟩
        rw [hchannels] at hp
        split at hp
        · cases hp
          exact ha
        · exact absurd hd (hnone c' hc' p hp)
      · intro ha
        exact ⟨c, hc, _, by rw [hchannels, if_pos rfl], rfl, ha⟩
    · rw [if_neg he]
      constructor
      · rintro ⟨c', hc', p, hp, hd, ha⟩
        rw [hchannels] at hp
        split at hp
        · cases hp
          exact absurd hd.symm he
        · exact ⟨c', hc', p, hp, hd, ha⟩
      · rintro ⟨c', hc', p, hp, h⟩
        refine ⟨c', hc', p, ?_, h⟩
        rw [hchannels, if_neg fun h => ?_, hp]
        rw [h, hfree] at hp
        cases hp
  refine ⟨fun e he => ?_, fun c₁ hc₁ c₂ hc₂ p₁ p₂ hp₁ hp₂ hdoor => ?_, fun x hx => ?_, fun x hx => ?_, fun c' hc' p hp => ?_⟩
  · rw [hposition, hdrives, hdrives]
    split
    · exact moving_iff r.action
    · exact hl.moving e he
  · rw [hchannels] at hp₁ hp₂
    split at hp₁ <;> split at hp₂
    · omega
    · cases hp₁
      exact absurd hdoor.symm (hnone c₂ hc₂ p₂ hp₂)
    · cases hp₂
      exact absurd hdoor (hnone c₁ hc₁ p₁ hp₁)
    · exact hl.single c₁ hc₁ c₂ hc₂ p₁ p₂ hp₁ hp₂ hdoor
  · have hin : x ∈ s.latch.queue := hqueue ▸ List.mem_cons_of_mem _ (htail ▸ hx)
    have hne : r.door ≠ x.door := (List.pairwise_cons.mp (hqueue ▸ hq.doors)).1 x (htail ▸ hx)
    rw [hposition, if_neg (Ne.symm hne)]
    exact hl.opposite x hin
  · exact hl.doors.1 x (hqueue ▸ List.mem_cons_of_mem _ (htail ▸ hx))
  · rw [hchannels] at hp
    split at hp
    · cases hp
      exact hrd
    · exact hl.doors.2 c' hc' p hp

/-- R144, R145: the end of a pulse: its record no longer moves, its channel is free, and the requests left for its door want the other
side. -/
theorem latchesAgree_of_ended {c d : Nat} {p : Pulse} {pos : LatchPosition} (hc : c < 4) (hp : s.latch.channels.getD c none = some p)
    (hd : p.door = d) (hstill : pos ≠ .locking ∧ pos ≠ .unlocking)
    (position : ∀ e, t.latchPosition e = if e = d then pos else s.latchPosition e)
    (channels : t.latch.channels = (s.setChannel c none).latch.channels)
    (queue : ∀ r ∈ t.latch.queue, r ∈ s.latch.queue ∧ (r.door = d → r.action ≠ pos.side)) (hl : s.LatchesAgree) : t.LatchesAgree := by
  have hchannels : ∀ c', t.latch.channels.getD c' none = if c' = c then none else s.latch.channels.getD c' none := fun c' => by
    rw [channels]
    exact setChannel_getD none hc
  have hkept : ∀ c' q, t.latch.channels.getD c' none = some q → c' ≠ c ∧ s.latch.channels.getD c' none = some q := by
    intro c' q hq
    rw [hchannels] at hq
    split at hq
    · cases hq
    · exact ⟨‹_›, hq⟩
  refine ⟨fun e he => ?_, fun c₁ hc₁ c₂ hc₂ p₁ p₂ hp₁ hp₂ hdoor => ?_, fun r hr => ?_, fun r hr => ?_, fun c' hc' q hq => ?_⟩
  · rw [position]
    by_cases hed : e = d
    · have hidle : ∀ a, ¬ t.Drives e a := by
        rintro a ⟨c', hc', q, hq, hqd, -⟩
        obtain ⟨hne, hq⟩ := hkept c' q hq
        exact hne (hl.single c' hc' c hc q p hq hp (hqd.trans (hed.trans hd.symm)))
      rw [if_pos hed]
      exact ⟨iff_of_false hstill.1 (hidle _), iff_of_false hstill.2 (hidle _)⟩
    · have hdrives : ∀ a, t.Drives e a ↔ s.Drives e a := by
        intro a
        constructor
        · rintro ⟨c', hc', q, hq, h⟩
          exact ⟨c', hc', q, (hkept c' q hq).2, h⟩
        · rintro ⟨c', hc', q, hq, hqd, ha⟩
          refine ⟨c', hc', q, ?_, hqd, ha⟩
          rw [hchannels, if_neg fun hcc => ?_, hq]
          rw [hcc, hp] at hq
          cases hq
          exact hed (hqd.symm.trans hd)
      rw [if_neg hed, hdrives, hdrives]
      exact hl.moving e he
  · exact hl.single c₁ hc₁ c₂ hc₂ p₁ p₂ (hkept c₁ p₁ hp₁).2 (hkept c₂ p₂ hp₂).2 hdoor
  · rw [position]
    obtain ⟨hin, hown⟩ := queue r hr
    split
    · exact hown ‹_›
    · exact hl.opposite r hin
  · exact hl.doors.1 r (queue r hr).1
  · exact hl.doors.2 c' hc' q (hkept c' q hq).2

/-- The requests for a door whose pulse runs want the side opposite the one it drives to. -/
theorem action_of_pulse (hl : s.LatchesAgree) {c : Nat} {p : Pulse} (hc : c < 4) (hp : s.latch.channels.getD c none = some p) :
    ∀ r ∈ s.latch.queue, r.door = p.door → r.action ≠ p.action := by
  intro r hr hd
  have hside : (s.latchPosition p.door).side = p.action := side_of_drives hl (hl.doors.2 c hc p hp) ⟨c, hc, p, hp, rfl, rfl⟩
  rw [← hside, ← hd]
  exact hl.opposite r hr

theorem endedPulse_position (c : Nat) {d : Nat} (pos : LatchPosition) (hd : d < 96) (e : Nat) :
    (endedPulse s c d pos).latchPosition e = if e = d then pos else s.latchPosition e := by
  by_cases he : e = d
  · subst he
    rw [if_pos rfl]
    exact congrArg LatchRecord.position (setLatchPosition_record_self (s := s.setChannel c none) pos hd)
  · rw [if_neg he]
    exact congrArg LatchRecord.position (setLatchPosition_record_ne (s := s.setChannel c none) pos (Ne.symm he))

theorem endedPulse_latchesAgree {c : Nat} {p : Pulse} {pos : LatchPosition} (hc : c < 4) (hp : s.latch.channels.getD c none = some p)
    (hstill : pos ≠ .locking ∧ pos ≠ .unlocking) (hside : pos.side = p.action) (hl : s.LatchesAgree) :
    (endedPulse s c p.door pos).LatchesAgree :=
  latchesAgree_of_ended hc hp rfl hstill (endedPulse_position c pos (hl.doors.2 c hc p hp)) rfl
    (fun r hr => ⟨hr, hside ▸ action_of_pulse hl hc hp r hr⟩) hl

theorem setOpenAfterFailedLock_position (d e : Nat) (v : Bool) (hd : d < 96) :
    (s.setOpenAfterFailedLock d v).latchPosition e = s.latchPosition e := by
  unfold State.latchPosition State.setOpenAfterFailedLock
  by_cases hde : d = e
  · subst hde
    rw [State.setLatchRecord_self _ _ _ hd]
  · rw [State.setLatchRecord_ne _ _ _ _ hde]

/-- R145: the end of a LOCK pulse. -/
theorem endLock_agreed {c : Nat} {p : Pulse} (hc : c < 4) (hp : s.latch.channels.getD c none = some p) (ha : p.action = .lock)
    (hs : Agreed s) : (s.endLock c p.door).LatchesAgree := by
  have hd : p.door < 96 := hs.latches.doors.2 c hc p hp
  have resumed : ∀ {u : State}, u.LatchesAgree → u.resumeScanner.LatchesAgree := fun {u} hu =>
    have h := resumeScanner_aside u
    latchesAgree_of_queue h.records h.channels (fun r hr => .inl ⟨r, h.queue ▸ hr, rfl, rfl⟩) hu
  unfold State.endLock
  dsimp only
  split
  · exact resumed (endedPulse_latchesAgree hc hp (by simp) (by rw [ha]; rfl) hs.latches)
  · have hfailed := lockFails_latch (s := s.setChannel c none) p.door
    have hordered : ((((s.setChannel c none).setLatchPosition p.door .unlocked).setOpenAfterFailedLock p.door true)).QueueOrdered :=
      queueOrdered_congr (s := s) rfl rfl hs.queue
    have hposition : ∀ e, (((s.setChannel c none).setLatchPosition p.door .unlocked).setOpenAfterFailedLock p.door true).latchPosition e =
        if e = p.door then .unlocked else s.latchPosition e := fun e =>
      (setOpenAfterFailedLock_position _ _ _ hd).trans (endedPulse_position c .unlocked hd e)
    have hchannels : (((s.setChannel c none).setLatchPosition p.door .unlocked).setOpenAfterFailedLock p.door true).latch.channels =
        (s.setChannel c none).latch.channels := rfl
    have hqueue : (((s.setChannel c none).setLatchPosition p.door .unlocked).setOpenAfterFailedLock p.door true).latch.queue =
        s.latch.queue := rfl
    generalize ((s.setChannel c none).setLatchPosition p.door .unlocked).setOpenAfterFailedLock p.door true = u
      at hfailed hordered hposition hchannels hqueue
    refine resumed (latchesAgree_of_ended (pos := .unlocked) hc hp rfl (by simp) (fun e => ?_) ?_ (fun r hr => ?_) hs.latches)
    · rw [latchPosition_congr hfailed, withdrawRequest_position, hposition]
    · rw [hfailed, State.withdrawRequest_frame]
      exact hchannels
    · rw [hfailed] at hr
      exact ⟨hqueue ▸ (withdrawRequest_sublist _ _).subset hr, not_mem_withdrawRequest hordered .unlock r hr⟩

theorem fresh_latchesAgree (h : Fresh s) : s.LatchesAgree := by
  have hchannels : ∀ c, s.latch.channels.getD c none = none := fun c => by
    rw [h.channels]
    by_cases hc : c < 4 <;> simp [Vector.getD, hc]
  have hidle : ∀ d a, ¬ s.Drives d a := by
    rintro d a ⟨c, -, p, hp, -⟩
    rw [hchannels] at hp
    cases hp
  refine ⟨fun d hd => ?_, fun c _ c' _ p p' hp => ?_, fun r hr => ?_, fun r hr => ?_, fun c _ p hp => ?_⟩
  · rw [h.records d hd]
    exact ⟨iff_of_false (fun h => nomatch h) (hidle d _), iff_of_false (fun h => nomatch h) (hidle d _)⟩
  · rw [hchannels] at hp
    cases hp
  · rw [h.queue] at hr
    cases hr
  · rw [h.queue] at hr
    cases hr
  · rw [hchannels] at hp
    cases hp

theorem closedDoor_agreed {d : Nat} (hd : d < 96) (hs : Agreed s) : Agreed (closedDoor s d) :=
  ⟨queueOrdered_congr (s := s) rfl rfl hs.queue,
    latchesAgree_of_position (s := s) (fun e => setOpenAfterFailedLock_position _ _ _ hd) rfl rfl hs.latches⟩

theorem agreed_invariant : DriveInvariant Agreed := by
  constructor
  case congr =>
    intro s t h hs
    exact ⟨queueOrdered_invariant.congr h hs.queue,
      latchesAgree_of_queue h.records h.channels (fun r hr => .inl ⟨r, h.queue ▸ hr, rfl, rfl⟩) hs.latches⟩
  case move => exact fun h hs => ⟨h.queueOrdered hs.queue, h.latchesAgree hs.latches⟩
  case window => exact fun _ => agreed_congr startWindow_latch
  case halfCycle => exact fun {s} _ _ _ => agreed_congr (s := s) (by simp only [State.beginHalfCycle])
  case abandon => exact fun {s} => agreed_congr (s := s) rfl
  case returned => exact fun {s} _ => agreed_congr (s := s) rfl
  case lost => exact agreed_congr loseMains_latch
  case opened => exact fun {s} _ _ => doorOpenedStep_keeps agreed_congr fun h hs => ⟨h.queueOrdered hs.queue, h.latchesAgree hs.latches⟩
  case closed => exact fun hd => closedDoor_agreed hd
  case granted =>
    exact fun {s r c} head free may hs => ⟨queueOrdered_invariant.granted head free may hs.queue,
      grantedPulse_latchesAgree head free may hs.queue hs.latches⟩
  case unlocked =>
    intro s p c hc ends hs
    obtain ⟨hp, ha, -⟩ := pulseOver_some ends
    exact ⟨queueOrdered_invariant.unlocked hc ends hs.queue, endedPulse_latchesAgree hc hp (by simp) (by rw [ha]; rfl) hs.latches⟩
  case locked =>
    intro s p c hc ends hs
    obtain ⟨hp, ha, -⟩ := pulseOver_some ends
    exact ⟨queueOrdered_invariant.locked hc ends hs.queue, endLock_agreed hc hp ha hs⟩
  case fresh => exact fun h => ⟨fresh_queueOrdered h, fresh_latchesAgree h⟩

theorem step_agreed (h : step s = .next t) (hs : Agreed s) : Agreed t :=
  agreed_invariant.step (fun _ => agreed_congr loseRetention_latch) h hs

end

end Sys2Proof.Latches
end

section

-- One proof at a time: the proofs here together ask for more threads than the memory limit leaves room for.
set_option Elab.async false

/-! Front latches returned (R139, R146, R152, R168). -/

namespace Sys2Proof.Latches

open Sys2Proof Sys2Proof.Machine Sys2Proof.Courses Sys2Proof.Acts

/-! ### The relock sweep of a start (R152) -/

/-- The LOCK requests of a list of doors, in the order they came from an arrival on. -/
def lockRequests : (arrival : Nat) → List Nat → List LatchRequest
  | _, [] => []
  | n, d :: ds => { door := d, action := .lock, cls := .lock, arrival := n } :: lockRequests (n + 1) ds

theorem lockRequests_doors (n : Nat) (ds : List Nat) : (lockRequests n ds).map LatchRequest.door = ds := by
  induction ds generalizing n with
  | nil => rfl
  | cons d ds ih => rw [lockRequests, List.map_cons, ih]

theorem mem_lockRequests {n : Nat} {ds : List Nat} {r : LatchRequest} (h : r ∈ lockRequests n ds) :
    r.door ∈ ds ∧ r.action = .lock ∧ r.cls = .lock := by
  induction ds generalizing n with
  | nil => cases h
  | cons d ds ih =>
    obtain rfl | h := List.mem_cons.mp h
    · exact ⟨List.mem_cons_self .., rfl, rfl⟩
    · exact ⟨List.mem_cons_of_mem _ (ih h).1, (ih h).2⟩

theorem lockRequest_of_mem {ds : List Nat} {d : Nat} (n : Nat) (h : d ∈ ds) :
    ∃ r ∈ lockRequests n ds, r.door = d ∧ r.action = .lock := by
  rw [← lockRequests_doors n ds] at h
  obtain ⟨r, hr, hd⟩ := List.mem_map.mp h
  exact ⟨r, hr, hd, (mem_lockRequests hr).2.1⟩

/-- R140: a LOCK that comes last stands last behind LOCKs. -/
theorem insertRequest_last {r : LatchRequest} {q : List LatchRequest}
    (h : ∀ x ∈ q, x.cls = .lock ∧ x.arrival < r.arrival) (hr : r.cls = .lock) : insertRequest r q = q ++ [r] := by
  induction q with
  | nil => rfl
  | cons x xs ih =>
    obtain ⟨hcls, harrival⟩ := h x (List.mem_cons_self ..)
    have hnot : ¬ r.precedes x = true := by
      rw [precedes_iff, hcls, hr]
      omega
    rw [insertRequest, if_neg hnot, ih fun y hy => h y (List.mem_cons_of_mem _ hy), List.cons_append]

/-- R152: what the sweep leaves of the Latch Arbiter of a start: a LOCK request for each closed door, in order. -/
theorem relockSweep_latch {s : State} (records : ∀ d < 96, s.latchPosition d = .unlocked) (queue : s.latch.queue = []) :
    s.relockSweep.latch = { s.latch with
      queue := lockRequests s.latch.nextArrival ((List.range 96).filter fun d => (s.door d).closed)
      nextArrival := s.latch.nextArrival + ((List.range 96).filter fun d => (s.door d).closed).length } := by
  suffices ∀ (l : List Nat) (u : State), l.Nodup → (∀ d ∈ l, d < 96) → (∀ d < 96, u.latchPosition d = .unlocked) →
      (∀ r ∈ u.latch.queue, r.cls = .lock ∧ r.arrival < u.latch.nextArrival ∧ r.door ∉ l) →
      (l.foldl (fun s d => if (s.door d).closed then s.requestLock d else s) u).latch = { u.latch with
        queue := u.latch.queue ++ lockRequests u.latch.nextArrival (l.filter fun d => (u.door d).closed)
        nextArrival := u.latch.nextArrival + (l.filter fun d => (u.door d).closed).length } by
    have h := this (List.range 96) s List.nodup_range (fun d hd => List.mem_range.mp hd) records (by simp [queue])
    rwa [queue, List.nil_append] at h
  intro l
  induction l with
  | nil =>
    intro u _ _ _ _
    simp [lockRequests]
  | cons d l ih =>
    intro u hnodup hlt hrecords hqueue
    obtain ⟨hd, hl⟩ := List.nodup_cons.mp hnodup
    rw [List.foldl_cons]
    have hlt' : ∀ e ∈ l, e < 96 := fun e he => hlt e (List.mem_cons_of_mem _ he)
    cases hclosed : (u.door d).closed
    · rw [if_neg (by simp), List.filter_cons_of_neg (by simp [hclosed])]
      exact ih u hl hlt' hrecords fun r hr =>
        ⟨(hqueue r hr).1, (hqueue r hr).2.1, fun h => (hqueue r hr).2.2 (List.mem_cons_of_mem _ h)⟩
    · rw [if_pos rfl, List.filter_cons_of_pos (by simp [hclosed])]
      have hfree : u.pendingFor d = none := by
        simp only [State.pendingFor, List.find?_eq_none, decide_eq_true_eq]
        exact fun r hr h => (hqueue r hr).2.2 (h ▸ List.mem_cons_self ..)
      have hside : LatchAction.lock ≠ (u.latchPosition d).side := by
        rw [hrecords d (hlt d (List.mem_cons_self ..))]
        decide
      have hjoined : (u.requestLock d).latch = { u.latch with
          queue := u.latch.queue ++ [{ door := d, action := .lock, cls := .lock, arrival := u.latch.nextArrival }]
          nextArrival := u.latch.nextArrival + 1 } := by
        unfold State.requestLock
        rw [request_of_free _ hside hfree]
        unfold State.enqueue
        dsimp only
        rw [insertRequest_last (fun x hx => ⟨(hqueue x hx).1, (hqueue x hx).2.1⟩) rfl]
      have hdoors : ∀ e, (u.requestLock d).door e = u.door e := fun e => by rw [State.requestLock_frame]; rfl
      rw [ih (u.requestLock d) hl hlt' (fun e he => (requestLock_position e).trans (hrecords e he))]
      · simp only [hdoors, hjoined, lockRequests, List.append_assoc, List.singleton_append, List.length_cons]
        congr 1
        omega
      · intro r hr
        rw [hjoined] at hr ⊢
        obtain hr | hr := List.mem_append.mp hr
        · obtain ⟨hcls, harr, hout⟩ := hqueue r hr
          exact ⟨hcls, Nat.lt_succ_of_lt harr, fun h => hout (List.mem_cons_of_mem _ h)⟩
        · obtain rfl := List.mem_singleton.mp hr
          exact ⟨rfl, Nat.lt_succ_self _, hd⟩

section
variable {s t : State} {b : Nat}

/-! ### Fronts through a course -/

/-- R139: every front latch is handed out or returned, and a door open after a failed lock is open. -/
structure Fronts (s : State) : Prop where
  settled : ∀ b < 48, Handed (s.bay b).state ∨ FrontSettled s b
  failed : ∀ d < 96, (s.latchRecord d).openAfterFailedLock = true → (s.door d).closed = false

theorem fronts_iff : s.FrontsReturned ↔ Fronts s := by
  constructor
  · intro h
    refine ⟨fun b hb => ?_, h.failed⟩
    by_cases hh : Handed (s.bay b).state
    · exact .inl hh
    · refine .inr ⟨fun hu => ?_, fun r hr hd ha => hh (h.waiting b hb r hr hd ha)⟩
      obtain hst | hst | hrest := h.unlocked b hb hu
      · exact absurd (.inl hst) hh
      · exact absurd (.inr hst) hh
      · exact hrest
  · intro h
    refine ⟨fun b hb hu => ?_, fun b hb r hr hd ha => ?_, h.failed⟩
    · obtain hst | hset := h.settled b hb
      · exact hst.elim .inl fun hc => .inr (.inl hc)
      · exact .inr (.inr (hset.unlocked hu))
    · obtain hst | hset := h.settled b hb
      · exact hst
      · exact absurd ha (hset.waiting r hr hd)

/-- The front latch of a bay whose record stands and whose requests stand. -/
theorem frontSettled_of {c : Nat} (record : t.latchRecord (2 * c) = s.latchRecord (2 * c))
    (locks : ∀ r ∈ s.latch.queue, r.door = 2 * c → r.action = .lock → ∃ r' ∈ t.latch.queue, r'.door = 2 * c ∧ r'.action = .lock)
    (unlocks : ∀ r ∈ t.latch.queue, r.door = 2 * c → r.action = .unlock → ∃ r' ∈ s.latch.queue, r'.door = 2 * c ∧ r'.action = .unlock)
    (h : FrontSettled s c) : FrontSettled t c where
  unlocked hu := by
    have hpos : t.latchPosition (2 * c) = s.latchPosition (2 * c) := congrArg LatchRecord.position record
    rw [record]
    refine (h.unlocked (hpos ▸ hu)).imp_left ?_
    rintro ⟨r, hr, hd, ha⟩
    exact locks r hr hd ha
  waiting r hr hd ha := by
    obtain ⟨r', hr', hd', ha'⟩ := unlocks r hr hd ha
    exact h.waiting r' hr' hd' ha'

/-- A bay that is left alone keeps its front latch. -/
theorem frontSettled_of_kept {c : Nat} (hall : BaysOnly s t) (h : BayKept s t c) (hs : FrontSettled s c) : FrontSettled t c := by
  have hmem : ∀ r : LatchRequest, r.door = 2 * c → (r ∈ t.latch.queue ↔ r ∈ s.latch.queue) := fun r hd => by
    have hown : bayOfDoor r.door = c := by rw [hd]; exact bayOfDoor_front c
    have hq := congrArg (r ∈ ·) h.requests
    simpa [List.mem_filter, hown] using hq
  exact frontSettled_of (hall.latchRecord _) (fun r hr hd ha => ⟨r, (hmem r hd).mpr hr, hd, ha⟩)
    (fun r hr hd ha => ⟨r, (hmem r hd).mp hr, hd, ha⟩) hs

/-- R142: a withdrawal of an action leaves the requests for the other. -/
theorem mem_withdrawRequest {d : Nat} {a : LatchAction} (hq : s.QueueOrdered) {r : LatchRequest} (hr : r ∈ s.latch.queue)
    (h : r.door ≠ d ∨ r.action ≠ a) : r ∈ (s.withdrawRequest d a).latch.queue := by
  unfold State.withdrawRequest
  split
  · next p hp =>
    split
    · next ha =>
      refine List.mem_filter.mpr ⟨hr, decide_eq_true fun hd => ?_⟩
      have hpr : p = r := Option.some.inj (hp.symm.trans (pendingFor_eq_some hq hr hd))
      exact h.elim (fun hne => hne hd) fun hne => hne (hpr ▸ ha)
    · exact hr
  · exact hr

theorem withdrawUnlock_frontSettled {d c : Nat} (hq : s.QueueOrdered) (h : FrontSettled s c) :
    FrontSettled (s.withdrawRequest d .unlock) c :=
  frontSettled_of (withdrawRequest_record _ _)
    (fun r hr hd ha => ⟨r, mem_withdrawRequest hq hr (.inr (by rw [ha]; decide)), hd, ha⟩)
    (fun r hr hd ha => ⟨r, (withdrawRequest_sublist _ _).subset hr, hd, ha⟩) h

/-- R141: a request leaves the requests for other doors. -/
theorem mem_request_of_ne {d : Nat} (a : LatchAction) (k : RequestClass) {r : LatchRequest} (hne : r.door ≠ d) :
    r ∈ (s.request d a k).latch.queue ↔ r ∈ s.latch.queue := by
  by_cases hside : a = (s.latchPosition d).side
  · rw [request_queue_here k hside]
    simp [hne]
  · cases hp : s.pendingFor d with
    | none =>
      rw [request_of_free k hside hp]
      refine mem_insertRequest.trans (or_iff_right fun h => hne ?_)
      rw [h]
    | some p =>
      rw [request_of_pending k hside hp]
      have hpd := (pendingFor_some hp).2
      refine mem_insertRequest.trans ?_
      rw [or_iff_right fun h => hne ?_]
      · exact List.mem_filter.trans (and_iff_left (by simp [hpd, hne]))
      · rw [h]
        exact hpd

theorem Move.fronts {g : Rules} (hg : g.fronts) (h : Move g b s t) (hb : b < 48) (hs : Agreed s) (hf : Fronts s) : Fronts t := by
  refine ⟨fun c hc => ?_, fun d hd => ?_⟩
  swap
  · rw [h.baysOnly.latchRecord, h.baysOnly.door]
    exact hf.failed d hd
  by_cases hcb : c ≠ b
  · rw [(h.bayKept hcb).record]
    exact (hf.settled c hc).imp_right (frontSettled_of_kept h.baysOnly (h.bayKept hcb))
  · rw [not_not] at hcb
    subst hcb
    have still : t.latch = s.latch → (t.bay c).state = (s.bay c).state → Handed (t.bay c).state ∨ FrontSettled t c := fun hl hst => by
      rw [hst]
      exact (hf.settled c hc).imp_right (frontSettled_congr hl)
    have moved : t.latch = s.latch → FrontKept s c (t.bay c).state → Handed (t.bay c).state ∨ FrontSettled t c := fun hl hkept => by
      by_cases hh : Handed (t.bay c).state
      · exact .inl hh
      · refine .inr (frontSettled_congr hl ?_)
        exact (hf.settled c hc).elim (fun hold => hkept hold hh) id
    cases h with
    | write r state => exact still rfl (by rw [State.setBay_bay_self _ _ _ hc, state])
    | change f _ _ front => exact moved (changeBay_latch ..) (by rw [changeBay_state f hc]; exact front hg)
    | leave f _ _ front =>
      refine moved ((changeBay_latch ..).trans leaveEntry_latch) ?_
      rw [changeBay_state f hc, leaveEntry_bay]
      exact front hg
    | notice | cut => exact still rfl rfl
    | mark => exact still markDiscard_latch (by rw [markDiscard_bay])
    | request d a k own exists' lock front =>
      rw [Gates.request_bay_state]
      by_cases hd : d = 2 * c
      · subst hd
        cases a with
        | lock =>
          rw [lock rfl]
          exact .inr (requestLock_settles hs.queue hs.latches)
        | unlock => exact .inl (front hg rfl rfl)
      · refine (hf.settled c hc).imp_right (frontSettled_of (request_record a k _) (fun r hr hrd ha => ?_) fun r hr hrd ha => ?_)
        · exact ⟨r, (mem_request_of_ne a k (by rw [hrd]; exact Ne.symm hd)).mpr hr, hrd, ha⟩
        · exact ⟨r, (mem_request_of_ne a k (by rw [hrd]; exact Ne.symm hd)).mp hr, hrd, ha⟩
    | withdraw d a own front =>
      rw [withdrawRequest_bay]
      cases a with
      | unlock => exact (hf.settled c hc).imp_right (withdrawUnlock_frontSettled hs.queue)
      | lock =>
        by_cases hd : d = 2 * c
        · exact .inl (front hg hd rfl)
        · refine (hf.settled c hc).imp_right (frontSettled_of (withdrawRequest_record _ _) (fun r hr hrd ha => ?_)
            fun r hr hrd ha => ?_)
          · exact ⟨r, mem_withdrawRequest hs.queue hr (.inl (by rw [hrd]; exact Ne.symm hd)), hrd, ha⟩
          · exact ⟨r, (withdrawRequest_sublist _ _).subset hr, hrd, ha⟩

/-- A bay outside the part stands for no door of the part; its moves change nothing a front latch depends on. -/
theorem Course.fronts {g : Rules} (hg : g.fronts) {bs : List Nat} (h : Course g bs s t) (hs : Agreed s) (hf : Fronts s) : Fronts t := by
  have hboth : Agreed t ∧ Fronts t := by
    refine h.keeps (P := fun u => Agreed u ∧ Fronts u) (fun b _ u v hm hu => ?_) ⟨hs, hf⟩
    refine ⟨⟨hm.queueOrdered hu.1.queue, hm.latchesAgree hu.1.latches⟩, ?_⟩
    by_cases hb : b < 48
    · exact Move.fronts hg hm hb hu.1 hu.2
    · refine ⟨fun c hc => ?_, fun d hd => ?_⟩
      · have hcb : c ≠ b := fun h => hb (h ▸ hc)
        rw [(hm.bayKept hcb).record]
        exact (hu.2.settled c hc).imp_right (frontSettled_of_kept hm.baysOnly (hm.bayKept hcb))
      · rw [hm.baysOnly.latchRecord, hm.baysOnly.door]
        exact hu.2.failed d hd
  exact hboth.2

/-- Bay states and doors the same, records the same, and requests: the LOCKs kept and no UNLOCK new. -/
theorem fronts_of {s t : State} (bays : ∀ c, (t.bay c).state = (s.bay c).state) (closed : ∀ d, (t.door d).closed = (s.door d).closed)
    (record : ∀ d, t.latchRecord d = s.latchRecord d)
    (locks : ∀ r ∈ s.latch.queue, r.action = .lock → r ∈ t.latch.queue) (queue : ∀ r ∈ t.latch.queue, r ∈ s.latch.queue)
    (h : Fronts s) : Fronts t where
  settled c hc := by
    rw [bays]
    exact (h.settled c hc).imp_right (frontSettled_of (record _) (fun r hr hd ha => ⟨r, locks r hr ha, hd, ha⟩)
      fun r hr hd ha => ⟨r, queue r hr, hd, ha⟩)
  failed d hd := by
    rw [record, closed]
    exact h.failed d hd

theorem fronts_congr (bays : t.bays = s.bays) (closed : ∀ d, (t.door d).closed = (s.door d).closed)
    (records : t.latch.records = s.latch.records) (queue : t.latch.queue = s.latch.queue) (h : Fronts s) : Fronts t :=
  fronts_of (fun c => by unfold State.bay; rw [bays]) closed (fun d => by unfold State.latchRecord; rw [records])
    (fun r hr _ => queue ▸ hr) (fun r hr => queue ▸ hr) h

end

end Sys2Proof.Latches
end

section

-- One proof at a time: the proofs here together ask for more threads than the memory limit leaves room for.
set_option Elab.async false

/-! Front latches returned, act by act, and the latch invariants of a step (R139 to R146, R152). -/

namespace Sys2Proof.Latches

open Sys2Proof Sys2Proof.Machine Sys2Proof.Courses Sys2Proof.Acts

section
variable {s t : State}

/-! ### Doors -/

theorem openedDoor_fronts {d : Nat} (hd : d < 96) (h : Fronts s) : Fronts (openedDoor s d) := by
  have hdoor : ∀ e, (s.door e).closed = false → ((openedDoor s d).door e).closed = false := fun e he => by
    by_cases hde : d = e
    · subst hde
      exact congrArg Door.closed (s.setDoor_door_self d _ hd)
    · exact (congrArg Door.closed (s.setDoor_door_ne d e _ hde)).trans he
  have hsettled : ∀ c, FrontSettled s c → FrontSettled (openedDoor s d) c := fun _ hc => ⟨hc.unlocked, hc.waiting⟩
  exact ⟨fun c hc => (h.settled c hc).imp_right (hsettled c), fun e he hf => hdoor e (h.failed e he hf)⟩

theorem doorOpenedStep_fronts {d : Nat} (hd : d < 96) (hs : Agreed s) (h : Fronts s) : Fronts (s.doorOpenedStep d) := by
  obtain ⟨u, hu, alarm, heq⟩ := doorOpenedStep_course (g := ⟨False, True⟩) s d fun _ => hs
  have hagreed : Agreed (openedDoor s d) := agreed_congr (s := s) rfl hs
  have hcourse : Fronts u := Course.fronts trivial hu hagreed (openedDoor_fronts hd h)
  rw [heq]
  exact fronts_congr (s := u) rfl (fun e => closed_setDoor (u.cutRun (bayOfDoor d)) d e _ rfl hd) rfl rfl hcourse

/-- R146: the relock test of a front door whose bay is not RELEASING returns its latch. -/
theorem relockTest_settles {b : Nat} (hs : Agreed s) (hst : (s.bay b).state ≠ .releasing)
    (hlocked : (s.latchPosition (2 * b)).side = .lock → FrontSettled s b) : FrontSettled (s.relockTest (2 * b)) b := by
  have hfront : sideOfDoor (2 * b) = .front := by simp [sideOfDoor]
  have hown : bayOfDoor (2 * b) = b := bayOfDoor_front b
  have hkeeps : s.keepsUnlocked (bayOfDoor (2 * b)) (sideOfDoor (2 * b)) = false := by
    rw [hfront, hown]
    exact decide_eq_false hst
  unfold State.relockTest
  cases hside : (s.latchPosition (2 * b)).side
  · rw [if_neg (by simp)]
    exact hlocked hside
  · rw [if_pos ⟨rfl, hkeeps⟩]
    exact requestLock_settles hs.queue hs.latches

theorem relockTest_bay (d c : Nat) : (s.relockTest d).bay c = s.bay c := by
  unfold State.relockTest
  split
  · rw [requestLock_bay]
  · rfl

theorem closedDoor_record {d e : Nat} (hd : d < 96) : (closedDoor s d).latchRecord e =
    if e = d then { s.latchRecord d with openAfterFailedLock := false } else s.latchRecord e := by
  by_cases hde : d = e
  · subst hde
    rw [if_pos rfl]
    exact State.setLatchRecord_self _ d _ hd
  · rw [if_neg (Ne.symm hde)]
    exact State.setLatchRecord_ne _ d e _ hde

theorem closedDoor_failed {d : Nat} (hd : d < 96) (h : Fronts s) :
    ∀ e < 96, ((closedDoor s d).latchRecord e).openAfterFailedLock = true → ((closedDoor s d).door e).closed = false := by
  intro e he hf
  rw [closedDoor_record hd] at hf
  split at hf
  · cases hf
  · next hne => exact (congrArg Door.closed (s.setDoor_door_ne d e _ (Ne.symm hne))).trans (h.failed e he hf)

/-- R136: a closing of another door leaves a front latch. -/
theorem closedDoor_settled {d c : Nat} (hd : d < 96) (hne : 2 * c ≠ d) (h : FrontSettled s c) : FrontSettled (closedDoor s d) c :=
  frontSettled_of (s := s) (by rw [closedDoor_record hd, if_neg hne]) (fun r hr hrd ha => ⟨r, hr, hrd, ha⟩) (fun r hr hrd ha => ⟨r, hr, hrd, ha⟩) h

/-- R166, R146: the closing of a front door. -/
theorem closedFront_settled {b : Nat} (hb : b < 48) (hs : Agreed s) (h : Fronts s) :
    Handed ((((closedDoor s (2 * b)).closedOnBay b .front).relockTest (2 * b)).bay b).state ∨
      FrontSettled (((closedDoor s (2 * b)).closedOnBay b .front).relockTest (2 * b)) b := by
  have hd : 2 * b < 96 := by omega
  have hclosed : Agreed (closedDoor s (2 * b)) := closedDoor_agreed hd hs
  rw [relockTest_bay]
  unfold State.closedOnBay
  dsimp only
  split
  · have hcourse : Course ⟨False, False⟩ [b] (closedDoor s (2 * b)) ((closedDoor s (2 * b)).endCollection b) :=
      endCollection_course (s := closedDoor s (2 * b)) id
    have hended := hcourse.agreed hclosed
    refine .inr (relockTest_settles hended ?_ fun hside => ?_)
    · have hretired := sendToVacant_retired (s := (closedDoor s (2 * b)).raiseBay b .collected) hb
      unfold State.endCollection
      rw [withdrawRequest_bay, hretired.record]
      dsimp only
      split <;> decide
    · have hbefore : Agreed (((closedDoor s (2 * b)).raiseBay b .collected).sendToVacant b) :=
        agreed_congr (sendToVacant_latch _ b) (agreed_congr (s := closedDoor s (2 * b)) rfl hclosed)
      unfold State.endCollection at hside ⊢
      rw [withdrawRequest_position] at hside
      exact withdrawUnlock_settles hbefore.queue hside
  · next hnot =>
    by_cases hst : ((closedDoor s (2 * b)).bay b).state = .releasing
    · exact .inl (.inl hst)
    · have hbay : (closedDoor s (2 * b)).bay b = s.bay b := rfl
      have hsettled : FrontSettled s b := (h.settled b hb).resolve_left fun hh => hh.elim (hbay ▸ hst) (hbay ▸ hnot)
      exact .inr (relockTest_settles hclosed hst fun hside => ⟨fun hu => absurd (hside.symm.trans hu) (by decide), hsettled.waiting⟩)

theorem doorClosedStep_fronts {d : Nat} (hd : d < 96) (hs : Agreed s) (h : Fronts s) : Fronts (s.doorClosedStep d) := by
  have hclosed : Agreed (closedDoor s d) := closedDoor_agreed hd hs
  have hlast : ∀ u : State, Fronts u → Fronts (u.setDoor d { u.door d with alarm := none }) := fun u hu =>
    fronts_congr (s := u) rfl (fun e => closed_setDoor u d e _ rfl hd) rfl rfl hu
  refine hlast (((closedDoor s d).closedOnBay (bayOfDoor d) (sideOfDoor d)).relockTest d) ?_
  obtain hside | hside : sideOfDoor d = .rear ∨ sideOfDoor d = .front := by cases sideOfDoor d <;> simp
  · have hodd : ∀ c, 2 * c ≠ d := fun c hc => by simp [sideOfDoor, ← hc] at hside
    have hbefore : Fronts (closedDoor s d) :=
      ⟨fun c hc => (h.settled c hc).imp_right (closedDoor_settled hd (hodd c)), closedDoor_failed hd h⟩
    rw [hside]
    exact Course.fronts (g := ⟨False, True⟩) trivial
      ((closedOnBay_rear_course (s := closedDoor s d)).trans (relockTest_course _ d rfl hd)) hclosed hbefore
  · obtain ⟨b, rfl⟩ : ∃ b, d = 2 * b := ⟨d / 2, by
      unfold sideOfDoor at hside
      split at hside
      · omega
      · cases hside⟩
    have hb : b < 48 := by omega
    rw [hside, show bayOfDoor (2 * b) = b from bayOfDoor_front b]
    have hcourse : Course ⟨False, False⟩ [b] (closedDoor s (2 * b)) (((closedDoor s (2 * b)).closedOnBay b .front).relockTest (2 * b)) :=
      (closedOnBay_course (s := closedDoor s (2 * b)) .front id).trans (relockTest_course _ (2 * b) (bayOfDoor_front b) hd)
    refine ⟨fun c hc => ?_, fun e he => ?_⟩
    · by_cases hcb : c = b
      · rw [hcb]
        exact closedFront_settled hb hs h
      · have hkept := hcourse.onlyBays.2.1 c (by simpa using hcb)
        rw [hkept.record]
        exact (h.settled c hc).imp_right fun hset =>
          frontSettled_of_kept hcourse.baysOnly hkept (closedDoor_settled hd (by omega) hset)
    · rw [hcourse.baysOnly.latchRecord, hcourse.baysOnly.door]
      exact closedDoor_failed hd h e he

/-! ### Grants and pulses -/

theorem grantedPulse_fronts {r : LatchRequest} {c : Nat} (head : s.latch.queue.head? = some r) (hs : Agreed s) (h : Fronts s) :
    Fronts (grantedPulse s r c) := by
  obtain ⟨rest, hqueue⟩ := List.head?_eq_some_iff.mp head
  have hrd : r.door < 96 := hs.latches.doors.1 r (hqueue ▸ List.mem_cons_self ..)
  have hrest : (grantedPulse s r c).latch.queue = rest := by
    show s.latch.queue.tail = rest
    rw [hqueue]
    rfl
  have hrecord : ∀ e, (grantedPulse s r c).latchRecord e =
      if e = r.door then { s.latchRecord e with position := r.action.moving } else s.latchRecord e := fun e => by
    by_cases he : e = r.door
    · subst he
      rw [if_pos rfl]
      exact setLatchPosition_record_self (s := s.setLatchQueue s.latch.queue.tail) _ hrd
    · rw [if_neg he]
      exact setLatchPosition_record_ne (s := s.setLatchQueue s.latch.queue.tail) _ (Ne.symm he)
  have hfree : ∀ x ∈ rest, r.door ≠ x.door := (List.pairwise_cons.mp (hqueue ▸ hs.queue.doors)).1
  refine ⟨fun b hb => ?_, fun e he hf => ?_⟩
  · have hbay : (grantedPulse s r c).bay b = s.bay b := rfl
    rw [hbay]
    refine or_iff_not_imp_left.mpr fun hnot => ?_
    have hset := (h.settled b hb).resolve_left hnot
    by_cases hd : r.door = 2 * b
    · have hlock : r.action = .lock := by
        have hwait := hset.waiting r (hqueue ▸ List.mem_cons_self ..) hd
        cases ha : r.action
        · rfl
        · exact absurd ha hwait
      refine ⟨fun hu => ?_, fun x hx hxd => absurd (hd.trans hxd.symm) (hfree x (hrest ▸ hx))⟩
      have hposition : (grantedPulse s r c).latchPosition (2 * b) = .locking := by
        unfold State.latchPosition
        rw [hrecord, if_pos hd.symm, hlock]
        rfl
      rw [hposition] at hu
      cases hu
    · refine frontSettled_of (by rw [hrecord, if_neg (Ne.symm hd)]) (fun x hx hxd ha => ⟨x, ?_, hxd, ha⟩)
        (fun x hx hxd ha => ⟨x, hqueue ▸ List.mem_cons_of_mem _ (hrest ▸ hx), hxd, ha⟩) hset
      rw [hqueue] at hx
      obtain rfl | hx := List.mem_cons.mp hx
      · exact absurd hxd hd
      · exact hrest ▸ hx
  · have hmark : (s.latchRecord e).openAfterFailedLock = true := by
      rw [hrecord] at hf
      split at hf <;> exact hf
    exact h.failed e he hmark

/-- R144, R145: a record that comes to rest on the side it was driven to. -/
theorem endedPulse_fronts {c : Nat} {p : Pulse} {pos : LatchPosition} (hc : c < 4) (hp : s.latch.channels.getD c none = some p)
    (hside : pos.side = p.action) (hs : Agreed s) (h : Fronts s) : Fronts (endedPulse s c p.door pos) := by
  have hd : p.door < 96 := hs.latches.doors.2 c hc p hp
  have hmoved : (s.latchPosition p.door).side = p.action := side_of_drives hs.latches hd ⟨c, hc, p, hp, rfl, rfl⟩
  have hsides : ∀ e, ((endedPulse s c p.door pos).latchPosition e).side = (s.latchPosition e).side := fun e => by
    rw [endedPulse_position c pos hd]
    split
    · next he => rw [he, hside, hmoved]
    · rfl
  have hmark : ∀ e, ((endedPulse s c p.door pos).latchRecord e).openAfterFailedLock = (s.latchRecord e).openAfterFailedLock := fun e => by
    by_cases he : p.door = e
    · subst he
      exact (congrArg LatchRecord.openAfterFailedLock (setLatchPosition_record_self (s := s.setChannel c none) pos hd)).trans rfl
    · exact congrArg LatchRecord.openAfterFailedLock (setLatchPosition_record_ne (s := s.setChannel c none) pos he)
  refine ⟨fun b hb => (h.settled b hb).imp_right fun hset => ⟨fun hu => ?_, hset.waiting⟩, fun e he hf => h.failed e he (hmark e ▸ hf)⟩
  rw [hmark]
  exact hset.unlocked (hsides _ ▸ hu)

theorem aside_fronts (h : Aside s t) (hs : Fronts s) : Fronts t := fronts_congr h.bays h.closed h.records h.queue hs

theorem endUnlock_fronts {c : Nat} {p : Pulse} (hc : c < 4) (ends : s.pulseOver c .unlock = some p) (hs : Agreed s) (h : Fronts s) :
    Fronts (s.endUnlock c p.door) := by
  obtain ⟨hp, ha, -⟩ := pulseOver_some ends
  obtain ⟨u, hu, hlast⟩ := endUnlock_course (g := ⟨False, True⟩) s c p.door
  have hended : Agreed (endedPulse s c p.door .unlocked) := agreed_invariant.unlocked hc ends hs
  exact aside_fronts hlast (Course.fronts trivial hu hended (endedPulse_fronts hc hp (by rw [ha]; rfl) hs h))

theorem unlockCompletion_bay_state (d c : Nat) : ((s.unlockCompletion d).bay c).state = (s.bay c).state := by
  by_cases hc : c < 48
  · have timed : ∀ timer, ((s.setBay (bayOfDoor d) { s.bay (bayOfDoor d) with timer := timer }).bay c).state = (s.bay c).state := by
      intro timer
      by_cases hbc : bayOfDoor d = c
      · rw [hbc, State.setBay_bay_self _ _ _ hc]
      · rw [State.setBay_bay_ne _ _ _ _ hbc]
    unfold State.unlockCompletion
    cases sideOfDoor d
    · dsimp only
      split
      · exact timed _
      · rfl
    · dsimp only
      split
      · exact timed _
      · split
        · exact timed _
        · rfl
  · rw [State.bay_of_le _ c (Nat.not_lt.mp hc), State.bay_of_le _ c (Nat.not_lt.mp hc)]

theorem lockFails_bay_state (d c : Nat) : ((s.lockFails d).bay c).state = (s.bay c).state := by
  rw [lockFails_eq]
  dsimp only
  split
  · rw [unlockCompletion_bay_state, withdrawRequest_bay]
    rfl
  · rfl

theorem lockFails_door (d e : Nat) : (s.lockFails d).door e = s.door e := by
  rw [lockFails_eq]
  dsimp only
  split
  · rw [State.unlockCompletion_frame, State.withdrawRequest_frame]
    rfl
  · rfl

/-- R145: a failed lock marks its door, which is open. -/
theorem lockFails_fronts {d : Nat} (hd : d < 96) (hopen : (s.door d).closed = false) (hq : s.QueueOrdered) (h : Fronts s) :
    Fronts (s.lockFails d) := by
  have hfailed := lockFails_latch (s := s) d
  have hmarked : Fronts ((s.setLatchPosition d .unlocked).setOpenAfterFailedLock d true) := by
    have hrecord : ∀ e, ((s.setLatchPosition d .unlocked).setOpenAfterFailedLock d true).latchRecord e =
        if e = d then { position := .unlocked, openAfterFailedLock := true } else s.latchRecord e := fun e => by
      by_cases he : d = e
      · subst he
        rw [if_pos rfl]
        refine (State.setLatchRecord_self _ d _ hd).trans ?_
        rw [setLatchPosition_record_self _ hd]
      · rw [if_neg (Ne.symm he)]
        exact (State.setLatchRecord_ne _ d e _ he).trans (setLatchPosition_record_ne _ he)
    refine ⟨fun b hb => (h.settled b hb).imp_right fun hset => ⟨fun hu => ?_, hset.waiting⟩, fun e he hf => ?_⟩
    · rw [State.latchPosition, hrecord] at hu
      rw [hrecord]
      split
      · exact .inr rfl
      · next hne =>
        rw [if_neg hne] at hu
        exact hset.unlocked hu
    · rw [hrecord] at hf
      split at hf
      · next he => exact he ▸ hopen
      · exact h.failed e he hf
  have hordered : ((s.setLatchPosition d .unlocked).setOpenAfterFailedLock d true).QueueOrdered := queueOrdered_congr (s := s) rfl rfl hq
  have hbays : ∀ c, ((s.lockFails d).bay c).state = (((s.setLatchPosition d .unlocked).setOpenAfterFailedLock d true).bay c).state :=
    lockFails_bay_state d
  have hdoors : ∀ e, (s.lockFails d).door e = ((s.setLatchPosition d .unlocked).setOpenAfterFailedLock d true).door e := lockFails_door d
  generalize (s.setLatchPosition d .unlocked).setOpenAfterFailedLock d true = u at hfailed hmarked hordered hbays hdoors
  refine fronts_of hbays (fun e => by rw [hdoors]) (fun e => ?_) (fun r hr ha => ?_) (fun r hr => ?_) hmarked
  · rw [latchRecord_congr hfailed, withdrawRequest_record]
  · rw [hfailed]
    exact mem_withdrawRequest hordered hr (.inr (by rw [ha]; decide))
  · rw [hfailed] at hr
    exact (withdrawRequest_sublist _ _).subset hr

theorem endLock_fronts {c : Nat} {p : Pulse} (hc : c < 4) (ends : s.pulseOver c .lock = some p) (hs : Agreed s) (h : Fronts s) :
    Fronts (s.endLock c p.door) := by
  obtain ⟨hp, ha, -⟩ := pulseOver_some ends
  have hd : p.door < 96 := hs.latches.doors.2 c hc p hp
  unfold State.endLock
  dsimp only
  split
  · exact aside_fronts (resumeScanner_aside _) (endedPulse_fronts (pos := .locked) hc hp (by rw [ha]; rfl) hs h)
  · next hopen =>
    have hfree : Fronts (s.setChannel c none) := fronts_congr (s := s) rfl (fun _ => rfl) rfl rfl h
    have hordered : (s.setChannel c none).QueueOrdered := queueOrdered_congr (s := s) rfl rfl hs.queue
    exact aside_fronts (resumeScanner_aside _) (lockFails_fronts hd (by simpa using hopen) hordered hfree)

/-! ### Starts -/

theorem startBlocks_door (s : State) (e : Nat) : s.startBlocks.door e = s.door e := by
  have h : s.startBlocks.doors = s.doors := by simp only [State.startBlocks]
  unfold State.door
  rw [h]

theorem readSwitches_door (s : State) {e : Nat} (he : e < 96) : s.readSwitches.door e = s.doorAtStart e := by
  simp [State.door, State.readSwitches, Vector.getD, he]

theorem readSwitches_pins (s : State) : s.readSwitches.pins = s.pins := by simp only [State.readSwitches]

/-- R138, R139: at a start a door found open is marked open after a failed lock. -/
theorem begunAfresh_door {cold : Bool} {d : Nat} (hd : d < 96) :
    ((begunAfresh s cold).door d).closed = !((begunAfresh s cold).latchRecord d).openAfterFailedLock := by
  unfold begunAfresh
  dsimp only
  generalize (if s.startsWarm cold = true then s.chooseConfiguration else s.chooseConfiguration.emptyRecords) = u
  rw [startBlocks_door, readSwitches_door u hd, startBlocks_record _ hd]
  simp only [State.latchAtStart, readSwitches_pins, State.doorAtStart, Bool.not_not]

/-- R152: after the sweep every front latch is returned. -/
theorem sweep_fronts {u : State} (records : ∀ d < 96, u.latchPosition d = .unlocked) (queue : u.latch.queue = [])
    (doors : ∀ d < 96, (u.door d).closed = !(u.latchRecord d).openAfterFailedLock) : Fronts u.relockSweep := by
  have hsweep := relockSweep_latch records queue
  have hcourse := relockSweep_course (g := ⟨False, False⟩) u
  have hqueue : u.relockSweep.latch.queue = lockRequests u.latch.nextArrival ((List.range 96).filter fun d => (u.door d).closed) := by
    rw [hsweep]
  refine ⟨fun b hb => .inr ⟨fun _ => ?_, fun r hr _ => ?_⟩, fun d hd hf => ?_⟩
  · rw [hcourse.baysOnly.latchRecord, hqueue]
    cases hclosed : (u.door (2 * b)).closed
    · have hmark := doors (2 * b) (by omega)
      rw [hclosed] at hmark
      exact .inr (by simpa using hmark.symm)
    · exact .inl (lockRequest_of_mem _ (List.mem_filter.mpr ⟨List.mem_range.mpr (by omega), by simp [hclosed]⟩))
  · rw [hqueue] at hr
    rw [(mem_lockRequests hr).2.1]
    decide
  · rw [hcourse.baysOnly.latchRecord] at hf
    rw [hcourse.baysOnly.door, doors d hd, hf]
    rfl

theorem resolved_swept_fronts (s : State) (cold : Bool) : Fronts (s.resolved cold).relockSweep := by
  obtain ⟨u, hu, hlatch, n, hn⟩ := resolved_course (g := ⟨False, False⟩) s cold id
  have hfresh := begunAfresh_fresh s cold
  have hdoors : ∀ d < 96, (u.door d).closed = !(u.latchRecord d).openAfterFailedLock := fun d hd => by
    rw [latchRecord_congr hlatch, hu.baysOnly.door]
    exact begunAfresh_door hd
  have hrecords : ∀ d < 96, u.latchPosition d = .unlocked := fun d hd => by
    rw [latchPosition_congr hlatch]
    exact hfresh.records d hd
  have hqueue : u.latch.queue = [] := by
    rw [hlatch]
    exact hfresh.queue
  rw [hn]
  have noted : ∀ {v : State}, (∀ d < 96, v.latchPosition d = .unlocked) → v.latch.queue = [] →
      (∀ d < 96, (v.door d).closed = !(v.latchRecord d).openAfterFailedLock) →
      Fronts ({ v with bankNotices := n, retentionAgrees := true } : State).relockSweep := fun {v} h₁ h₂ h₃ =>
    sweep_fronts (u := { v with bankNotices := n, retentionAgrees := true }) h₁ h₂ h₃
  exact noted hrecords hqueue hdoors

theorem endStart_fronts (cold : Bool) : Fronts (s.endStart cold) := by
  have hswept := resolved_swept_fronts s cold
  have hagreed : Agreed (s.resolved cold).relockSweep := agreed_invariant.swept cold
  have ended : ∀ {u : State}, Fronts u → Fronts { u with starting := none } := fun {u} hu =>
    fronts_congr (s := u) rfl (fun _ => rfl) rfl rfl hu
  unfold State.endStart
  dsimp only
  split
  · exact ended (Course.fronts (g := ⟨False, True⟩) trivial (takeAllReached_course _ fun _ => hagreed) hagreed hswept)
  · exact ended hswept

/-! ### A part that does not run -/

theorem beginStart_running (cold : Bool) : (s.beginStart cold).running = false := by
  simp [State.beginStart, State.running]

theorem loseWrite_pins : s.loseWrite.pins = s.pins := by rw [loseWrite_frame]

theorem startBlocks_pins : s.startBlocks.pins = s.pins := by simp only [State.startBlocks]

theorem stoppedAt_pins (w : Bool) : (stoppedAt s w).pins = s.pins := by
  have hmarks : ∀ u : State, (withMarks u none w).pins = u.pins := fun _ => rfl
  unfold stoppedAt
  rw [hmarks, startBlocks_pins, loseWrite_pins]

theorem begunAfresh_pins (cold : Bool) : (begunAfresh s cold).pins = s.pins := by
  have hemptied : ∀ u : State, u.emptyRecords.pins = u.pins := fun _ => rfl
  have hchosen : s.chooseConfiguration.pins = s.pins := rfl
  unfold begunAfresh
  dsimp only
  rw [startBlocks_pins, readSwitches_pins]
  split
  · exact hchosen
  · exact (hemptied _).trans hchosen

theorem resolved_pins (cold : Bool) : (s.resolved cold).pins = s.pins := by
  obtain ⟨u, hu, -, n, hn⟩ := resolved_course (g := ⟨False, False⟩) s cold id
  rw [hn]
  exact hu.baysOnly.pins.trans (begunAfresh_pins cold)

theorem stopPart_pins (m : StopMoment) : (s.stopPart m).pins = s.pins := by
  by_cases h : ∃ cold, s.starting = some cold ∧ m = .resolutionWritten
  · obtain ⟨cold, hst, rfl⟩ := h
    rw [stopPart_of_resolved s cold hst, stoppedAt_pins, resolved_pins]
  · rw [stopPart_of_not_resolved s m (by cases hst : s.starting with
      | none => exact .inl rfl
      | some cold => exact .inr fun hm => h ⟨cold, hst, hm⟩), stoppedAt_pins]

/-! ### A step -/

theorem sound_iff : s.sound = true ↔ s.running = true ∧ s.retentionAgrees = true := by
  unfold State.sound
  rw [Bool.and_eq_true]

/-- Every act keeps the front latches returned, while the part runs and Retention Memory has not been lost. -/
theorem act_fronts (h : Act s t) (hs : Agreed s) (hf : s.sound = true → Fronts s) (ht : t.sound = true) : Fronts t := by
  obtain ⟨hrun, hagrees⟩ := sound_iff.mp ht
  have before : (t.running = true → s.running = true) → t.retentionAgrees = s.retentionAgrees → Fronts s := fun hr ha =>
    hf (sound_iff.mpr ⟨hr hrun, ha ▸ hagrees⟩)
  have same : (∀ c, t.bay c = s.bay c) → (∀ d, t.door d = s.door d) → t.latch = s.latch → Fronts s → Fronts t := fun hb hd hl h =>
    fronts_of (fun c => by rw [hb]) (fun d => by rw [hd]) (fun d => latchRecord_congr hl d) (fun r hr _ => hl ▸ hr) (fun r hr => hl ▸ hr) h
  cases h with
  | aside h => exact aside_fronts h (before h.running h.agrees)
  | course h =>
    have hc := h ⟨False, True⟩ fun _ => hs
    exact Course.fronts trivial hc hs (before (by rw [hc.baysOnly.running]; exact id) hc.baysOnly.agrees)
  | serve c =>
    have hstep : Agreed (carryOut s c).state ∧ ((carryOut s c).state.running = true → s.running = true) ∧
        ((s.running = true → Fronts s) → (carryOut s c).state.running = true → Fronts (carryOut s c).state) := by
      refine (carryOut_handling s c).keeps (P := fun u => Agreed u ∧ (u.running = true → s.running = true) ∧
        ((s.running = true → Fronts s) → u.running = true → Fronts u)) (fun u v bs hc hu => ?_) (fun u v hst _ hu => ?_)
        ⟨hs, id, fun h => h⟩
      · obtain ⟨hagreed, hruns, hfronts⟩ := hu
        have hcourse := hc ⟨False, True⟩ (fun _ => hagreed) fun h => h.elim
        have hback : v.running = true → u.running = true := by rw [hcourse.baysOnly.running]; exact id
        exact ⟨hcourse.agreed hagreed, fun h => hruns (hback h), fun h hr => Course.fronts trivial hcourse hagreed (hfronts h (hback hr))⟩
      · obtain ⟨hagreed, hruns, hfronts⟩ := hu
        exact ⟨agreed_invariant.still hst hagreed, fun h => hruns (hst.running h), fun h hr =>
          fronts_congr hst.bays hst.closed hst.records hst.queue (hfronts h (hst.running hr))⟩
    obtain ⟨-, hruns, hfronts⟩ := hstep
    exact hfronts (fun hr => hf (sound_iff.mpr ⟨hr, carryOut_agrees s c ▸ hagrees⟩)) hrun
  | window =>
    have hframe := Allocation.startWindow_frame s
    refine same ?_ ?_ startWindow_latch (before ?_ ?_)
    · rw [hframe]; exact fun _ => rfl
    · rw [hframe]; exact fun _ => rfl
    · rw [hframe]; exact id
    · rw [hframe]
  | halfCycle n =>
    have hbays : (s.beginHalfCycle n).bays = s.bays := by simp only [State.beginHalfCycle]
    have hdoors : (s.beginHalfCycle n).doors = s.doors := by simp only [State.beginHalfCycle]
    refine same (fun c => ?_) (fun d => ?_) (by simp only [State.beginHalfCycle]) (before ?_ (by simp only [State.beginHalfCycle]))
    · unfold State.bay
      rw [hbays]
    · unfold State.door
      rw [hdoors]
    · simp only [State.running, State.powered, State.beginHalfCycle]
      exact id
  | abandon => exact same (fun _ => rfl) (fun _ => rfl) rfl (before id rfl)
  | returned => exact same (fun _ => rfl) (fun _ => rfl) rfl (before id rfl)
  | lost =>
    have hframe := loseMains_frame s
    refine same ?_ ?_ loseMains_latch (before ?_ ?_)
    · rw [hframe]; exact fun _ => rfl
    · rw [hframe]; exact fun _ => rfl
    · rw [hframe]; exact id
    · rw [hframe]
  | opened d hd =>
    obtain ⟨u, hu, alarm, heq⟩ := doorOpenedStep_course (g := ⟨False, False⟩) s d fun h => h.elim
    refine doorOpenedStep_fronts hd hs (before ?_ ?_)
    · rw [heq]
      exact fun h => hu.baysOnly.running.symm.trans h
    · rw [heq]
      exact hu.baysOnly.agrees
  | closed d hd =>
    obtain ⟨u, hu, heq⟩ := doorClosedStep_course (g := ⟨False, False⟩) s d hd id
    refine doorClosedStep_fronts hd hs (before ?_ ?_)
    · rw [heq]
      exact fun h => hu.baysOnly.running.symm.trans h
    · rw [heq]
      exact hu.baysOnly.agrees
  | granted r c head free may =>
    have hlast := grantPulse_aside s r c
    exact aside_fronts hlast (grantedPulse_fronts head hs (before hlast.running hlast.agrees))
  | unlocked p c hc ends =>
    obtain ⟨u, hu, hlast⟩ := endUnlock_course (g := ⟨False, False⟩) s c p.door
    exact endUnlock_fronts hc ends hs (before (fun h => hu.baysOnly.running.symm.trans (hlast.running h))
      (hlast.agrees.trans hu.baysOnly.agrees))
  | locked p c hc ends =>
    obtain ⟨u, hu, hlast⟩ := endLock_course (g := ⟨False, False⟩) s c p.door
    have hended : (endedLock s c p.door).running = s.running := by
      unfold endedLock
      split <;> rfl
    exact endLock_fronts hc ends hs (before (fun h => hended.symm.trans (hu.baysOnly.running.symm.trans (hlast.running h)))
      (endLock_agrees s c p.door))
  | begun pins cold =>
    rw [beginStart_running] at hrun
    cases hrun
  | ended cold => exact endStart_fronts cold
  | stopped pins m off =>
    have hpowered : (State.stopPart { s with pins := pins } m).powered = false := by
      unfold State.powered
      rw [stopPart_pins]
      exact off
    rw [State.running, hpowered] at hrun
    cases hrun
  | forgotten => cases hagrees

/-- Settles O7: the queue's order and the agreement of records, pulses and requests go through every act (`queueOrdered_invariant`,
`agreed_invariant`), and so does the return of the front latches (`act_fronts`): a bay that ceases to be handed out has its front latch
returned in the same step. -/
theorem queueInvariantKept : Obligations.QueueInvariantKept := by
  intro s t hq h
  refine ⟨step_queueOrdered h hq, fun hl => ⟨(step_agreed h ⟨hq, hl⟩).latches, fun hf ht => fronts_iff.mpr ?_⟩⟩
  have hboth := step_keeps s (P := fun u => Agreed u ∧ (u.sound = true → Fronts u))
    (fun _ _ ha hu => ⟨agreed_invariant.act (lost := True) ha (fun _ => hu.1) (fun _ => agreed_congr loseRetention_latch) (.inr trivial),
      act_fronts ha hu.1 hu.2⟩) h ⟨⟨hq, hl⟩, fun hsound => fronts_iff.mp (hf hsound)⟩
  exact hboth.2 ht

end

end Sys2Proof.Latches
end

section

-- One proof at a time: the proofs here together ask for more threads than the memory limit leaves room for.
set_option Elab.async false

/-! The step, the reset, the conversion of codes, the demand, and the refusals. -/

namespace Sys2Proof.Basics

open Sys2Proof Sys2Proof.Machine Sys2Proof.Courses

/-! ### The step -/

/-- Settles O1: both arms of the step, and a state with no start in progress is awake. -/
theorem stepRunsFrontCommand : Obligations.StepRunsFrontCommand := by
  unfold Obligations.StepRunsFrontCommand
  refine ⟨fun s c rest h => ?_, fun s h hs => ?_⟩
  · rw [step, h]
  · rw [step, h]
    dsimp only
    rw [s.awake_of_not_starting hs]

/-! ### The reset -/

theorem getD_replicate {α : Type} (n i : Nat) (x : α) : (Vector.replicate n x).getD i x = x := by
  by_cases h : i < n <;> simp [Vector.getD, h]

theorem reset_bay (b : Nat) : State.reset.bay b = Bay.empty := getD_replicate 48 b _

theorem reset_notices (b : Nat) : State.reset.notices b = BayNotices.empty := getD_replicate 48 b _

theorem reset_latchRecord (d : Nat) : State.reset.latchRecord d = { position := .unlocked, openAfterFailedLock := false } :=
  getD_replicate 96 d _

theorem reset_latchPosition (d : Nat) : State.reset.latchPosition d = .unlocked := by
  rw [State.latchPosition, reset_latchRecord]

theorem reset_channel (c : Nat) : State.reset.latch.channels.getD c none = none := getD_replicate 4 c none

theorem reset_gate (b : Nat) : State.reset.heater.gates.getD b false = false := getD_replicate 48 b false

/-- The request that the sweep of the reset made for a door. -/
def resetRequest (d : Nat) : LatchRequest := { door := d, action := .lock, cls := .lock, arrival := d }

theorem reset_queue : State.reset.latch.queue = (List.range 96).map resetRequest := rfl

theorem mem_reset_queue {r : LatchRequest} : r ∈ State.reset.latch.queue ↔ ∃ d < 96, resetRequest d = r := by
  rw [reset_queue]
  simp

theorem reset_pairwise {R : LatchRequest → LatchRequest → Prop} (h : ∀ d e, d < e → R (resetRequest d) (resetRequest e)) :
    State.reset.latch.queue.Pairwise R := by
  rw [reset_queue, List.pairwise_map]
  exact List.pairwise_lt_range.imp (h _ _)

theorem reset_recordsInRange : State.reset.RecordsInRange := fun b _ => by
  rw [reset_bay]
  exact Acts.empty_inRange

theorem reset_directoryAgrees : State.reset.DirectoryAgrees where
  ordered := ⟨.nil, .nil, (fun _ he => nomatch he), fun _ he => nomatch he⟩
  members b _ code := by
    rw [reset_bay]
    exact ⟨fun h => (by cases h), fun ⟨_, he, _⟩ => nomatch he⟩
  resting b _ _ := by rw [reset_bay]; rfl
  live b _ h := by rw [reset_bay] at h; cases h

theorem reset_withinBudget : State.reset.WithinBudget where
  shares := by decide
  pulses := by decide
  schedule h _ := by
    have hnone : State.reset.litIn h = 0 := List.countP_eq_zero.mpr fun _ _ => Bool.false_ne_true
    omega
  gates := by
    have hnone : State.reset.litGates = 0 := List.countP_eq_zero.mpr fun g hg => by
      rw [List.eq_of_mem_replicate (show g ∈ List.replicate 48 false from hg)]
      exact Bool.false_ne_true
    omega

theorem reset_gatesSafe : State.reset.GatesSafe where
  gates b _ h := by rw [reset_gate] at h; cases h
  runs _ hr := nomatch hr
  absent _ := rfl

theorem reset_queueOrdered : State.reset.QueueOrdered where
  order := reset_pairwise fun d e h => precedes_iff.mpr (.inr ⟨rfl, h⟩)
  doors := reset_pairwise fun d e h => h.ne
  arrivals := reset_pairwise fun d e h => h.ne
  given r hr := by
    obtain ⟨d, hd, rfl⟩ := mem_reset_queue.mp hr
    exact hd

theorem reset_not_drives (d : Nat) (a : LatchAction) : ¬ State.reset.Drives d a := by
  rintro ⟨c, -, p, hp, -⟩
  rw [reset_channel] at hp
  cases hp

theorem reset_latchesAgree : State.reset.LatchesAgree where
  moving d _ := by
    rw [reset_latchPosition]
    exact ⟨⟨(fun h => nomatch h), fun h => absurd h (reset_not_drives d _)⟩,
      ⟨(fun h => nomatch h), fun h => absurd h (reset_not_drives d _)⟩⟩
  single c _ c' _ p p' hp := by rw [reset_channel] at hp; cases hp
  opposite r hr := by
    obtain ⟨d, -, rfl⟩ := mem_reset_queue.mp hr
    rw [reset_latchPosition]
    exact LatchAction.noConfusion
  doors := by
    refine ⟨fun r hr => ?_, fun c _ p hp => by rw [reset_channel] at hp; cases hp⟩
    obtain ⟨d, hd, rfl⟩ := mem_reset_queue.mp hr
    exact hd

theorem reset_frontsReturned : State.reset.FrontsReturned where
  unlocked b hb _ := .inr (.inr (.inl ⟨resetRequest (2 * b), mem_reset_queue.mpr ⟨2 * b, by omega, rfl⟩, rfl, rfl⟩))
  waiting b _ r hr _ ha := by
    obtain ⟨d, -, rfl⟩ := mem_reset_queue.mp hr
    cases ha
  failed d _ h := by rw [reset_latchRecord] at h; cases h

theorem reset_countsInRange : State.reset.CountsInRange where
  bankTime := by decide
  generation := by decide
  overruns := by decide
  rotation := by decide
  settle := ⟨by decide, fun _ => by decide⟩
  position _ h := nomatch h
  frames := by decide
  counters := by decide
  kiosks l := by cases l <;> decide

/-- Settles O2: the values of the reset, and each invariant from what the reset's records, requests and pulses are. -/
theorem resetIsAColdStart : Obligations.ResetIsAColdStart := by
  unfold Obligations.ResetIsAColdStart
  refine ⟨⟨rfl, rfl, fun b _ => ⟨reset_bay b, reset_notices b⟩, fun m hm => ?_, rfl, rfl⟩, reset_recordsInRange, reset_directoryAgrees,
    reset_withinBudget, reset_gatesSafe, reset_queueOrdered, reset_latchesAgree, reset_frontsReturned, reset_countsInRange⟩
  simp [State.reset, Vector.getD, hm]

/-! ### From code to temperature (R82, R83) -/

theorem clampTo_eq (x low high : Int) : clampTo x low high = if x < low then low else if high < x then high else x := rfl

/-- The quotient of a division by a positive number, by its bounds. -/
theorem ediv_eq_of_bounds {x n q : Int} (hn : 0 < n) (hlow : n * q ≤ x) (hhigh : x < n * q + n) : x / n = q :=
  le_antisymm (Int.lt_add_one_iff.mp (Int.ediv_lt_of_lt_mul hn (by nlinarith)))
    (Int.le_ediv_of_mul_le hn (by linarith [Int.mul_comm n q]))

/-- Settles O27: the quotient and remainder of the code are the ones given, and the floor is fixed by its bounds. -/
theorem codesBecomeTemperatures : Obligations.CodesBecomeTemperatures := by
  unfold Obligations.CodesBecomeTemperatures
  intro points c _
  refine ⟨Rounds.isFaultCode_iff c, fun k r q hc hr hlow hhigh => ?_⟩
  have hk : c / 128 = k := by omega
  have hrest : c - 128 * k = r := by omega
  simp only [temperatureOf, clampTo_eq, hk, hrest, ediv_eq_of_bounds (by decide) hlow hhigh]

/-! ### The demand (R120) -/

/-- R120: the demand is the floor, brought into 0 to 16. -/
theorem demandFor_eq {setpoint t q : Int} {gain : Nat} (hlow : 64 * q ≤ (setpoint - t) * gain + 32)
    (hhigh : (setpoint - t) * gain + 32 < 64 * q + 64) : (demandFor setpoint t gain : Int) = max 0 (min q 16) := by
  rw [demandFor, ediv_eq_of_bounds (by decide) hlow hhigh, clampTo_eq]
  split
  · omega
  · split <;> omega

theorem setDemand_of_heating {s : State} {b : Nat} (t : Int) (h : (s.bay b).state.heating = true) :
    s.setDemand b t =
      s.setBay b { s.bay b with demand := demandFor (s.boundProfile b).setpoint t (s.boundProfile b).gain } := if_pos h

/-- Settles O37: a bay in a heating state takes the demand of R120. -/
theorem demandFollowsTheError : Obligations.DemandFollowsTheError := by
  unfold Obligations.DemandFollowsTheError
  intro s b t _ h
  exact ⟨_, setDemand_of_heating t h, demandFor_le .., fun q => demandFor_eq⟩

/-! ### Refusals (R189) -/

/-- What a command that is not DONE leaves. -/
structure KeepsOnRefusal (s : State) (r : Served) : Prop where
  state : r.result ≠ .done → r.state = s

theorem keeps_refuse (s : State) (r : Result) (data : List Byte) : KeepsOnRefusal s (refuse s r data) := ⟨fun _ => rfl⟩

theorem keeps_done (s t : State) (data : List Byte) : KeepsOnRefusal s ⟨t, .done, data⟩ := ⟨fun h => absurd rfl h⟩

theorem keeps_ite {s : State} {p : Prop} [Decidable p] {a b : Served} (ha : KeepsOnRefusal s a) (hb : KeepsOnRefusal s b) :
    KeepsOnRefusal s (if p then a else b) := by
  split
  · exact ha
  · exact hb

variable (s : State)

theorem serveBook_keeps (ref code : Nat) (slots : List Nat) (offset : Nat) :
    KeepsOnRefusal s (serveBook s ref code slots offset) := by
  unfold serveBook
  refine keeps_ite (keeps_refuse ..) (keeps_ite (keeps_refuse ..) (keeps_ite (keeps_refuse ..) ?_))
  split
  · exact keeps_refuse ..
  · split
    · exact keeps_refuse ..
    · exact keeps_ite (keeps_refuse ..) (keeps_done ..)

theorem serveAmend_keeps (ref form value : Nat) : KeepsOnRefusal s (serveAmend s ref form value) := by
  unfold serveAmend
  refine keeps_ite (keeps_refuse ..) ?_
  split
  · exact keeps_refuse ..
  · exact keeps_ite (keeps_ite (keeps_refuse ..) (keeps_done ..)) (keeps_ite (keeps_done ..) (keeps_done ..))

theorem serveCancel_keeps (ref : Nat) : KeepsOnRefusal s (serveCancel s ref) := by
  unfold serveCancel
  refine keeps_ite (keeps_refuse ..) ?_
  split
  · exact keeps_refuse ..
  · split
    · exact keeps_refuse ..
    · exact keeps_done ..

theorem serveLoad_keeps (ref b force : Nat) : KeepsOnRefusal s (serveLoad s ref b force) :=
  keeps_ite (keeps_refuse ..) (keeps_ite (keeps_refuse ..) (keeps_ite (keeps_refuse ..)
    (keeps_ite (keeps_refuse ..) (keeps_done ..))))

theorem serveClear_keeps (b : Nat) : KeepsOnRefusal s (serveClear s b) :=
  keeps_ite (keeps_refuse ..) (keeps_ite (keeps_refuse ..) (keeps_done ..))

theorem serveOpen_keeps (kind key : Nat) : KeepsOnRefusal s (serveOpen s kind key) := by
  unfold serveOpen
  split
  · exact keeps_refuse ..
  · exact keeps_done ..

theorem serveLockout_keeps (b : Nat) : KeepsOnRefusal s (serveLockout s b) := keeps_ite (keeps_refuse ..) (keeps_done ..)

theorem serveRestore_keeps (b : Nat) : KeepsOnRefusal s (serveRestore s b) := keeps_ite (keeps_refuse ..) (keeps_done ..)

theorem serveStatus_keeps (option : Nat) : KeepsOnRefusal s (serveStatus s option) := keeps_ite (keeps_refuse ..) (keeps_done ..)

theorem serveConfigure_keeps (record : List Byte) : KeepsOnRefusal s (serveConfigure s record) :=
  keeps_ite (keeps_refuse ..) (keeps_done ..)

theorem serveProfileWrite_keeps (slot : Nat) (record : List Byte) : KeepsOnRefusal s (serveProfileWrite s slot record) :=
  keeps_ite (keeps_refuse ..) (keeps_ite (keeps_refuse ..) (keeps_ite (keeps_refuse ..) (keeps_ite (keeps_done ..)
    (keeps_ite (keeps_refuse ..) (keeps_ite (keeps_refuse ..) (keeps_done ..))))))

theorem carryOut_keeps (c : Command) : KeepsOnRefusal s (carryOut s c) := by
  cases c with
  | book r c ss o => exact serveBook_keeps s r c ss o
  | amend r f v => exact serveAmend_keeps s r f v
  | cancel r => exact serveCancel_keeps s r
  | load r b f => exact serveLoad_keeps s r b f
  | clear b => exact serveClear_keeps s b
  | openOrder k v => exact serveOpen_keeps s k v
  | lockout b => exact serveLockout_keeps s b
  | restore b => exact serveRestore_keeps s b
  | query k v => exact ⟨fun _ => Acts.serveQuery_state s k v⟩
  | scan o c => exact ⟨fun _ => Acts.serveScan_state s o c⟩
  | status o => exact serveStatus_keeps s o
  | configure bs => exact serveConfigure_keeps s bs
  | profileWrite n bs => exact serveProfileWrite_keeps s n bs
  | profileRead n => exact ⟨fun _ => Acts.serveProfileRead_state s n⟩
  | restart o => exact ⟨fun _ => Acts.serveRestart_state s o⟩
  | unknown | badLength | tooLong => exact keeps_refuse ..

/-- Settles O10: each command's own refusals, case by case. -/
theorem refusedCommandChangesNothing : Obligations.RefusedCommandChangesNothing := fun s c => (carryOut_keeps s c).state

end Sys2Proof.Basics
end

section

-- One proof at a time: the proofs here together ask for more threads than the memory limit leaves room for.
set_option Elab.async false

/-! What a completed round and the deadline do to their bay (05, 06). -/

namespace Sys2Proof.Completions

open Sys2Proof Sys2Proof.Machine Sys2Proof.Courses

/-! ### Writes of one record -/

section Writes

variable {s t : State} {b : Nat}

theorem boundProfile_congr (store : t.store = s.store) (profile : (t.bay b).profile = (s.bay b).profile) :
    t.boundProfile b = s.boundProfile b := by
  simp only [State.boundProfile, State.profile, State.slotRecord, store, profile]

/-- A change of state within the heated states of one scanning group writes the record alone. -/
theorem changeBay_within (f : Bay → Bay) (group : (s.bay b).state.group = (f (s.bay b)).state.group)
    (heats : (f (s.bay b)).state.heating = (s.bay b).state.heating) :
    s.changeBay b f = s.setBay b (changed (s.bay b) f) := by
  rw [State.changeBay_frame, if_pos group, heats, Bool.and_not_self, if_neg Bool.false_ne_true]
  rfl

theorem setBay_setBay (r r' : Bay) : (s.setBay b r).setBay b r' = s.setBay b r' := by
  simp only [State.setBay, setIfInBounds_twice]

theorem raiseBay_setBay (n : BayNotice) (r : Bay) : (s.raiseBay b n).setBay b r = (s.setBay b r).raiseBay b n := rfl

end Writes

/-! ### A waiting bay (R47, R48, R88) -/

section Waiting

variable {s : State} {b : Nat} {t : Int}

/-- R88: a valid round's demand on a bay whose record has just been written in a heating state. -/
theorem setDemand_written {u : State} {r : Bay} (hb : b < 48) (heat : r.state.heating = true)
    (profile : r.profile = (u.bay b).profile) :
    (u.setBay b r).setDemand b t =
      u.setBay b { r with demand := demandFor (u.boundProfile b).setpoint t (u.boundProfile b).gain } := by
  have hbay : (u.setBay b r).bay b = r := u.setBay_bay_self b r hb
  have hprofile : (u.setBay b r).boundProfile b = u.boundProfile b := boundProfile_congr rfl (by rw [hbay, profile])
  rw [Basics.setDemand_of_heating t (by rw [hbay]; exact heat), hprofile, hbay, setBay_setBay]

variable (hb : b < 48)
include hb

/-- R47: the READY test on the record that a round has just written. -/
theorem readyTest_written (r : Bay) (state : r.state = .preheating) (profile : r.profile = (s.bay b).profile) :
    (s.setBay b r).readyTest b t =
      if (s.boundProfile b).setpoint - (s.boundProfile b).margin ≤ t then
        (s.setBay b { r with state := .ready }).raiseBay b .ready
      else s.setBay b r := by
  have hbay : (s.setBay b r).bay b = r := s.setBay_bay_self b r hb
  have hprofile : (s.setBay b r).boundProfile b = s.boundProfile b := boundProfile_congr rfl (by rw [hbay, profile])
  rw [State.readyTest, hprofile]
  split
  · rw [changeBay_within _ (by rw [hbay, state]; rfl) (by rw [hbay, state]; rfl), setBay_setBay, hbay, changed, state]
    rfl
  · rfl

/-- R48: the return test on the record that a round has just written. -/
theorem returnTest_written (r : Bay) (state : r.state = .ready) (profile : r.profile = (s.bay b).profile) :
    (s.setBay b r).returnTest b t =
      if t < (s.boundProfile b).setpoint - 2 * (s.boundProfile b).margin then s.setBay b { r with state := .preheating }
      else s.setBay b r := by
  have hbay : (s.setBay b r).bay b = r := s.setBay_bay_self b r hb
  have hprofile : (s.setBay b r).boundProfile b = s.boundProfile b := boundProfile_congr rfl (by rw [hbay, profile])
  rw [State.returnTest, hprofile]
  split
  · rw [changeBay_within _ (by rw [hbay, state]; rfl) (by rw [hbay, state]; rfl), setBay_setBay, hbay, changed, state]
    rfl
  · rfl

end Waiting

/-- Settles O31: the READY test or the return test on the record the round has written, then the demand of R120. -/
theorem validRoundOfAWaitingBay : Obligations.ValidRoundOfAWaitingBay := by
  unfold Obligations.ValidRoundOfAWaitingBay
  intro s b t hb
  have preheating : (s.bay b).state = .preheating → s.validRound b t =
      ((s.setBay b ((s.bay b).afterValid t s.bankTime)).readyTest b t).setDemand b t := fun h => by
    rw [State.validRound, h]
  have ready : (s.bay b).state = .ready → s.validRound b t =
      ((s.setBay b ((s.bay b).afterValid t s.bankTime)).returnTest b t).setDemand b t := fun h => by
    rw [State.validRound, h]
  refine ⟨fun h hwarm => ?_, fun h hcool => ?_, fun h hcool => ?_, fun h hwarm => ?_⟩
  · rw [preheating h, readyTest_written hb ((s.bay b).afterValid t s.bankTime) h rfl, if_pos hwarm, ← raiseBay_setBay, setDemand_written hb (by rfl) (by rfl)]
    rfl
  · rw [preheating h, readyTest_written hb ((s.bay b).afterValid t s.bankTime) h rfl, if_neg (by omega), setDemand_written hb (by rw [show ((s.bay b).afterValid t s.bankTime).state = _ from h]; rfl) (by rfl)]
    simp only [State.setBay, Bay.afterValid, h]
  · rw [ready h, returnTest_written hb ((s.bay b).afterValid t s.bankTime) h rfl, if_pos hcool, setDemand_written hb (by rfl) (by rfl)]
    rfl
  · rw [ready h, returnTest_written hb ((s.bay b).afterValid t s.bankTime) h rfl, if_neg (by omega), setDemand_written hb (by rw [show ((s.bay b).afterValid t s.bankTime).state = _ from h]; rfl) (by rfl)]
    simp only [State.setBay, Bay.afterValid, h]

/-! ### Faults outside a hold (R89 to R91) -/

section Faults

variable {s : State} {b : Nat}

theorem noteSensorFault_bay (hb : b < 48) : (s.noteSensorFault b).bay b = { s.bay b with sensorFault := true } := by
  unfold State.noteSensorFault
  dsimp only
  split
  · exact s.setBay_bay_self b _ hb
  · exact s.setBay_bay_self b _ hb

/-- R90: BAY_FAULT is raised where sensor_fault was clear. -/
theorem noteSensorFault_notices (hb : b < 48) : (s.noteSensorFault b).notices b =
    { s.notices b with bayFault := (s.notices b).bayFault || !(s.bay b).sensorFault } := by
  unfold State.noteSensorFault
  cases h : (s.bay b).sensorFault
  · simp only [Bool.false_eq_true, if_false, Bool.not_false, Bool.or_true]
    exact State.setNotices_notices_self _ _ _ hb
  · simp only [if_true, Bool.not_true, Bool.or_false]
    rfl

theorem noteSensorFault_frame : s.noteSensorFault b =
    { s with bays := (s.noteSensorFault b).bays, bayNotices := (s.noteSensorFault b).bayNotices } := by
  unfold State.noteSensorFault
  dsimp only
  split <;> rfl

/-- R88, R91: a fault round outside a hold. -/
theorem faultRound_outside (hh : (s.bay b).state ≠ .holding) (hr : (s.bay b).state ≠ .releasing)
    (ho : (s.bay b).state ≠ .outOfService) (hb : b < 48) :
    s.faultRound b =
      if (s.bay b).faultStreak < 2 then s.setBay b ((s.bay b).afterFault s.bankTime)
      else (s.setBay b ((s.bay b).afterFault s.bankTime)).thirdFault b := by
  have hcount : (s.setBay b ((s.bay b).afterFault s.bankTime)).bay b = (s.bay b).afterFault s.bankTime :=
    s.setBay_bay_self b _ hb
  have third : s.faultRound b =
      if ((s.setBay b ((s.bay b).afterFault s.bankTime)).bay b).faultStreak = 3 then
        (s.setBay b ((s.bay b).afterFault s.bankTime)).thirdFault b
      else s.setBay b ((s.bay b).afterFault s.bankTime) := by
    unfold State.faultRound
    cases h : (s.bay b).state with
    | holding => exact absurd h hh
    | releasing => exact absurd h hr
    | outOfService => exact absurd h ho
    | vacant | booked | preheating | ready | loading | collecting | withdrawn => rfl
  rw [third, hcount]
  by_cases h : (s.bay b).faultStreak < 2
  · rw [if_pos h, if_neg (by simp only [Bay.afterFault]; omega)]
  · rw [if_neg h, if_pos (by simp only [Bay.afterFault]; omega)]

theorem enterOutOfService_latch (why : OosReason) : (s.enterOutOfService b why).latch = s.latch := by
  unfold State.enterOutOfService
  rw [markDiscard_latch, changeBay_latch, leaveEntry_latch]

theorem enterOutOfService_notices (why : OosReason) (c : Nat) : (s.enterOutOfService b why).notices c = s.notices c := by
  unfold State.enterOutOfService
  rw [State.markDiscard_frame]
  exact (changeBay_notices _ c).trans (by rw [State.leaveEntry_frame]; rfl)

theorem faultRound_onlyBays (s : State) (b : Nat) : OnlyBays s (s.faultRound b) [b] :=
  (faultRound_course (g := ⟨True, False⟩) False.elim).onlyBays

theorem validRound_onlyBays (s : State) (b : Nat) (t : Int) : OnlyBays s (s.validRound b t) [b] :=
  (validRound_course (g := ⟨True, False⟩) t False.elim).onlyBays

end Faults

/-- Settles O32: below the third fault the record alone is written; at the third the fault is noted, and an idle or waiting bay enters
OUT_OF_SERVICE. -/
theorem faultRoundsOutsideAHold : Obligations.FaultRoundsOutsideAHold := by
  unfold Obligations.FaultRoundsOutsideAHold
  intro s b hb hstreak
  generalize hnoted : s.setBay b ((s.bay b).afterFault s.bankTime) = noted
  have hbay : noted.bay b = (s.bay b).afterFault s.bankTime := by rw [← hnoted]; exact s.setBay_bay_self b _ hb
  have hnotices : noted.notices b = s.notices b := by rw [← hnoted]; rfl
  have hdirectory : noted.directory = s.directory := by rw [← hnoted]; rfl
  have hlatch : noted.latch = s.latch := by rw [← hnoted]; rfl
  have hthree : ((s.bay b).afterFault s.bankTime).faultStreak = min 3 ((s.bay b).faultStreak + 1) := rfl
  have hrecord : (noted.noteSensorFault b).bay b =
      { (s.bay b).afterFault s.bankTime with sensorFault := true } := by rw [noteSensorFault_bay hb, hbay]
  have hraised : (noted.noteSensorFault b).notices b =
      { s.notices b with bayFault := (s.notices b).bayFault || !(s.bay b).sensorFault } := by
    rw [noteSensorFault_notices hb, hbay, hnotices]
    rfl
  refine ⟨fun hh hr ho hlow => ?_, fun hst hhigh => ?_, fun hst hhigh => ?_⟩
  · rw [faultRound_outside hh hr ho hb, if_pos hlow]
    simp only [State.setBay, Bay.afterFault, show min 3 ((s.bay b).faultStreak + 1) = (s.bay b).faultStreak + 1 by omega]
  · have hne : (s.bay b).state ≠ .holding ∧ (s.bay b).state ≠ .releasing ∧ (s.bay b).state ≠ .outOfService := by
      obtain h | h | h := hst <;> rw [h] <;> decide
    have hround : s.faultRound b = noted.noteSensorFault b := by
      rw [faultRound_outside hne.1 hne.2.1 hne.2.2 hb, if_neg (by omega), hnoted, State.thirdFault]
      rw [hrecord, Bay.afterFault]
      obtain h | h | h := hst <;> simp only [h]
    refine ⟨?_, ?_, faultRound_onlyBays s b, ?_⟩
    · rw [hround, hrecord, Bay.afterFault, show min 3 ((s.bay b).faultStreak + 1) = 3 by omega]
    · dsimp only
      rw [hround]
      exact hraised
    · rw [hround, noteSensorFault_frame]
      exact hdirectory
  · have hne : (s.bay b).state ≠ .holding ∧ (s.bay b).state ≠ .releasing ∧ (s.bay b).state ≠ .outOfService := by
      obtain h | h | h | h := hst <;> rw [h] <;> decide
    have hround : s.faultRound b = (noted.noteSensorFault b).enterOutOfService b .sensor := by
      rw [faultRound_outside hne.1 hne.2.1 hne.2.2 hb, if_neg (by omega), hnoted, State.thirdFault]
      rw [hrecord, Bay.afterFault]
      obtain h | h | h | h := hst <;> simp only [h]
    refine ⟨?_, ?_, faultRound_onlyBays s b, ?_, ?_⟩
    · rw [hround, enterOutOfService_bay_self hb, hrecord, Bay.afterFault, show min 3 ((s.bay b).faultStreak + 1) = 3 by omega]
      rfl
    · dsimp only
      rw [hround, enterOutOfService_notices]
      exact hraised
    · rw [hround, enterOutOfService_latch, noteSensorFault_frame]
      exact hlatch
    · have hleft : (noted.noteSensorFault b).directory = s.directory := by
        rw [noteSensorFault_frame]
        exact hdirectory
      rw [hround, enterOutOfService_directory, leaveEntry_directory, hrecord, hleft]
      rfl

/-! ### A held bay (R96 to R103) -/

section Held

variable {s : State} {b : Nat}

/-- Entering WITHDRAWN reads and writes nothing of the Latch Arbiter. -/
theorem withdrawn_withLatch {t : State} {why : WithdrawReason} (l : LatchArbiter) (h : Withdrawn s t b why) :
    Withdrawn s (withLatch t l) b why := ⟨h.record, h.notice, h.round, h.gate, h.run, h.directory⟩

theorem withdrawHeld_withdrawn (why : WithdrawReason) (held : (s.bay b).state = .holding ∨ (s.bay b).state = .releasing) :
    Withdrawn s (s.withdrawHeld b why) b why := by
  unfold State.withdrawHeld
  split
  · rw [returnFrontLatch_eq_withLatch]
    exact withdrawn_withLatch _ (enterWithdrawn_withdrawn why held)
  · exact enterWithdrawn_withdrawn why held

theorem withdrawHeld_latch_of_holding (why : WithdrawReason) (h : (s.bay b).state = .holding) :
    (s.withdrawHeld b why).latch = s.latch := by
  rw [withdrawHeld_of_ne_releasing s b why (by rw [h]; decide), enterWithdrawn_latch]

/-- R168 reads the Latch Arbiter alone. -/
theorem frontReturned_congr {s' t : State} (h : s'.latch = s.latch) (hr : FrontReturned s' t b) : FrontReturned s t b := by
  have hp : s'.latchPosition (2 * b) = s.latchPosition (2 * b) := latchPosition_congr h _
  refine ⟨fun hl => ?_, fun hu => ?_⟩
  · rw [hr.locked (hp ▸ hl), withdrawRequest_latch_congr h]
  · rw [hr.unlocked (hp ▸ hu), requestLock_latch_congr h]

theorem returnFrontLatch_of_lock (h : (s.latchPosition (2 * b)).side = .lock) :
    s.returnFrontLatch b = s.withdrawRequest (2 * b) .unlock := by
  simp only [State.returnFrontLatch, doorOf, h]

theorem returnFrontLatch_of_unlock (h : (s.latchPosition (2 * b)).side = .unlock) :
    s.returnFrontLatch b = s.requestLock (2 * b) := by
  simp only [State.returnFrontLatch, doorOf, h]

theorem side_eq_lock_iff {p : LatchPosition} : p.side = .lock ↔ p = .locked ∨ p = .locking := by cases p <;> decide

theorem side_eq_unlock_iff {p : LatchPosition} : p.side = .unlock ↔ p = .unlocked ∨ p = .unlocking := by cases p <;> decide

theorem withdrawHeld_frontReturned (why : WithdrawReason) (h : (s.bay b).state = .releasing) :
    FrontReturned s (s.withdrawHeld b why) b := by
  rw [withdrawHeld_of_releasing s b why h]
  refine ⟨fun hl => ?_, fun hu => ?_⟩
  · rw [enterWithdrawn_latch, returnFrontLatch_of_lock (side_eq_lock_iff.mpr hl)]
  · rw [enterWithdrawn_latch, returnFrontLatch_of_unlock (side_eq_unlock_iff.mpr hu)]

/-- R102: the withdrawal test in its order. -/
theorem withdrawalTest_eq (r : Bay) (p : Profile) (third : Bool) :
    (atLimit r.qCold p.qmaxCold → withdrawalTest r p third = some .cold) ∧
    (¬ atLimit r.qCold p.qmaxCold → atLimit r.qHot p.qmaxHot → withdrawalTest r p third = some .hot) ∧
    (¬ atLimit r.qCold p.qmaxCold → ¬ atLimit r.qHot p.qmaxHot →
      withdrawalTest r p third = if third then some .sensor else none) := by
  unfold withdrawalTest
  exact ⟨fun hc => if_pos hc, fun hc hh => (if_neg hc).trans (if_pos hh), fun hc hh => (if_neg hc).trans (if_neg hh)⟩

end Held

/-- The record that a valid round of a held bay writes (R89, R98, R100). -/
def chargedValid (s : State) (b : Nat) (t : Int) : Bay := ((s.bay b).chargeValid (s.boundProfile b) t s.bankTime).afterValid t s.bankTime

/-- R96, R103: a valid round of a held bay, by the outcome of the withdrawal test. -/
theorem validRound_held {s : State} {b : Nat} (t : Int) (hb : b < 48)
    (held : (s.bay b).state = .holding ∨ (s.bay b).state = .releasing) :
    s.validRound b t = match withdrawalTest (chargedValid s b t) (s.boundProfile b) false with
      | some why => (s.setBay b (chargedValid s b t)).withdrawHeld b why
      | none => (s.setBay b (chargedValid s b t)).setDemand b t := by
  have hbay : (s.setBay b (chargedValid s b t)).bay b = chargedValid s b t := s.setBay_bay_self b _ hb
  have hround : s.validRound b t = s.accountValid b t := by
    unfold State.validRound
    obtain h | h := held <;> rw [h]
  have haccount : s.accountValid b t =
      match withdrawalTest ((s.setBay b (chargedValid s b t)).bay b) (s.boundProfile b) false with
      | some why => (s.setBay b (chargedValid s b t)).withdrawHeld b why
      | none => (s.setBay b (chargedValid s b t)).setDemand b t := rfl
  rw [hround, haccount, hbay]

/-- Settles O33: the record is charged, and the withdrawal test decides between the withdrawal and the demand. -/
theorem validRoundOfAHold : Obligations.ValidRoundOfAHold := by
  unfold Obligations.ValidRoundOfAHold
  intro s b t hb held
  have hbay : (s.setBay b (chargedValid s b t)).bay b = chargedValid s b t := s.setBay_bay_self b _ hb
  have hheld : ((s.setBay b (chargedValid s b t)).bay b).state = .holding ∨
      ((s.setBay b (chargedValid s b t)).bay b).state = .releasing := by
    rw [hbay]; exact held
  have heats : (chargedValid s b t).state.heating = true := by
    have hstate : (chargedValid s b t).state = (s.bay b).state := rfl
    obtain h | h := held <;> rw [hstate, h] <;> rfl
  obtain ⟨hcold, hhot, hgoes⟩ := withdrawalTest_eq (chargedValid s b t) (s.boundProfile b) false
  have withdraws : ∀ why, withdrawalTest (chargedValid s b t) (s.boundProfile b) false = some why →
      s.validRound b t = (s.setBay b (chargedValid s b t)).withdrawHeld b why := fun why h => by
    rw [validRound_held t hb held, h]
  have goesOn : withdrawalTest (chargedValid s b t) (s.boundProfile b) false = none →
      s.validRound b t = (s.setBay b (chargedValid s b t)).setDemand b t := fun h => by
    rw [validRound_held t hb held, h]
  refine ⟨fun hc hh => ?_, fun hc => ⟨?_, validRound_onlyBays s b t⟩, fun hc hh => ⟨?_, validRound_onlyBays s b t⟩, fun h => ?_,
    fun h hlimit => ?_⟩
  · rw [goesOn (hgoes hc hh), setDemand_written hb heats (by rfl)]
    rfl
  · rw [withdraws _ (hcold hc)]
    exact withdrawHeld_withdrawn .cold hheld
  · rw [withdraws _ (hhot hc hh)]
    exact withdrawHeld_withdrawn .hot hheld
  · cases htest : withdrawalTest (chargedValid s b t) (s.boundProfile b) false with
    | none =>
      rw [goesOn htest, setDemand_written hb heats (by rfl)]
      rfl
    | some why =>
      rw [withdraws why htest, withdrawHeld_latch_of_holding why (by rw [hbay]; exact h)]
      rfl
  · have htest : ∃ why, withdrawalTest (chargedValid s b t) (s.boundProfile b) false = some why := by
      by_cases hc : atLimit (chargedValid s b t).qCold (s.boundProfile b).qmaxCold
      · exact ⟨_, hcold hc⟩
      · exact ⟨_, hhot hc (hlimit.resolve_left hc)⟩
    obtain ⟨why, htest⟩ := htest
    rw [withdraws why htest]
    exact frontReturned_congr (s' := s.setBay b (chargedValid s b t)) rfl (withdrawHeld_frontReturned why (by rw [hbay]; exact h))

/-- The record that a fault round of a held bay writes (R89, R98, R101), sensor_fault left. -/
def chargedFault (s : State) (b : Nat) : Bay := ((s.bay b).chargeFault (s.boundProfile b) s.bankTime).afterFault s.bankTime

/-- A held bay after the charge of a fault round and the note of the third (R90). -/
def faultNoted (s : State) (b : Nat) : State :=
  if (chargedFault s b).faultStreak = 3 then (s.setBay b (chargedFault s b)).noteSensorFault b else s.setBay b (chargedFault s b)

/-- R96, R103: a fault round of a held bay, by the outcome of the withdrawal test. -/
theorem faultRound_held {s : State} {b : Nat} (hb : b < 48)
    (held : (s.bay b).state = .holding ∨ (s.bay b).state = .releasing) :
    s.faultRound b =
      match withdrawalTest ((faultNoted s b).bay b) (s.boundProfile b) (decide ((chargedFault s b).faultStreak = 3)) with
      | some why => (faultNoted s b).withdrawHeld b why
      | none => faultNoted s b := by
  have hbay : (s.setBay b (chargedFault s b)).bay b = chargedFault s b := s.setBay_bay_self b _ hb
  have hround : s.faultRound b = s.accountFault b := by
    unfold State.faultRound
    obtain h | h := held <;> rw [h]
  have haccount : s.accountFault b =
      let third := decide (((s.setBay b (chargedFault s b)).bay b).faultStreak = 3)
      let u := if third then (s.setBay b (chargedFault s b)).noteSensorFault b else s.setBay b (chargedFault s b)
      match withdrawalTest (u.bay b) (s.boundProfile b) third with
      | some why => u.withdrawHeld b why
      | none => u := rfl
  rw [hround, haccount, hbay]
  simp only [decide_eq_true_eq, faultNoted]

/-- What the note of a third fault leaves: the record with sensor_fault, BAY_FAULT where it was clear (R90). -/
theorem faultNoted_eq {s : State} {b : Nat} (hb : b < 48) (hstreak : (s.bay b).faultStreak ≤ 3) :
    faultNoted s b = { s with
      bays := s.bays.setIfInBounds b { s.bay b with
        qCold := min ((s.bay b).qCold + (s.boundProfile b).penalty * elapsedInterval (s.bay b) s.bankTime) 16777215
        restartPenaltyPending := 0, lastRound := some s.bankTime, faultStreak := min 3 ((s.bay b).faultStreak + 1)
        sensorFault := (s.bay b).sensorFault || decide (2 ≤ (s.bay b).faultStreak) }
      bayNotices := if 2 ≤ (s.bay b).faultStreak ∧ (s.bay b).sensorFault = false then
          s.bayNotices.setIfInBounds b { s.notices b with bayFault := true }
        else s.bayNotices } := by
  have hthree : (chargedFault s b).faultStreak = min 3 ((s.bay b).faultStreak + 1) := rfl
  have hflag : (chargedFault s b).sensorFault = (s.bay b).sensorFault := rfl
  have hbay : (s.setBay b (chargedFault s b)).bay b = chargedFault s b := s.setBay_bay_self b _ hb
  unfold faultNoted
  by_cases h : 2 ≤ (s.bay b).faultStreak
  · rw [if_pos (by omega), State.noteSensorFault]
    dsimp only
    rw [hbay, setBay_setBay, hflag]
    cases hsf : (s.bay b).sensorFault
    · simp only [h, decide_true, Bool.or_true, and_self, if_true, Bool.false_eq_true, if_false]
      rfl
    · simp only [Bool.true_or, Bool.true_eq_false, and_false, if_true, if_false]
      rfl
  · rw [if_neg (by omega), decide_eq_false h, Bool.or_false, if_neg (fun hn => h hn.1)]
    rfl

/-- Settles O34: the record is charged, the third fault noted, and the withdrawal test decides. -/
theorem faultRoundOfAHold : Obligations.FaultRoundOfAHold := by
  unfold Obligations.FaultRoundOfAHold
  intro s b hb hstreak held r p cold third charged s1
  have hs1 : s1 = faultNoted s b := (faultNoted_eq hb hstreak).symm
  clear_value s1
  subst hs1
  have hbay : (faultNoted s b).bay b = charged := by
    rw [faultNoted_eq hb hstreak]
    exact getD_setIfInBounds_self _ _ _ _ hb
  have hlatch : (faultNoted s b).latch = s.latch := by rw [faultNoted_eq hb hstreak]
  have hheld : ((faultNoted s b).bay b).state = .holding ∨ ((faultNoted s b).bay b).state = .releasing := by
    rw [hbay]; exact held
  have hthird : decide ((chargedFault s b).faultStreak = 3) = decide (2 ≤ (s.bay b).faultStreak) := by
    have : (chargedFault s b).faultStreak = min 3 ((s.bay b).faultStreak + 1) := rfl
    exact decide_eq_decide.mpr (by omega)
  have hqCold : ((faultNoted s b).bay b).qCold = cold := by rw [hbay]
  have hqHot : ((faultNoted s b).bay b).qHot = (s.bay b).qHot := by rw [hbay]
  have hround := faultRound_held hb held
  obtain ⟨hcold, hhot, hneither⟩ :=
    withdrawalTest_eq ((faultNoted s b).bay b) (s.boundProfile b) (decide (2 ≤ (s.bay b).faultStreak))
  rw [hthird] at hround
  rw [hqCold] at hcold hhot hneither
  rw [hqHot] at hhot hneither
  generalize withdrawalTest ((faultNoted s b).bay b) (s.boundProfile b) (decide (2 ≤ (s.bay b).faultStreak)) = test
    at hcold hhot hneither hround
  have withdraws : ∀ why, test = some why → s.faultRound b = (faultNoted s b).withdrawHeld b why := fun why h => by rw [hround, h]
  have goesOn : test = none → s.faultRound b = faultNoted s b := fun h => by rw [hround, h]
  have tested : ∀ why, test = some why → Withdrawn (faultNoted s b) (s.faultRound b) b why ∧ OnlyBays s (s.faultRound b) [b] :=
    fun why h => ⟨withdraws why h ▸ withdrawHeld_withdrawn why hheld, faultRound_onlyBays s b⟩
  have hsensor : ¬ atLimit cold p.qmaxCold → ¬ atLimit r.qHot p.qmaxHot → third → test = some .sensor :=
    fun hc hh ht => (hneither hc hh).trans (if_pos (decide_eq_true ht))
  have hnone : ¬ atLimit cold p.qmaxCold → ¬ atLimit r.qHot p.qmaxHot → ¬ third → test = none :=
    fun hc hh ht => (hneither hc hh).trans (if_neg (by rw [decide_eq_true_eq]; exact ht))
  refine ⟨fun hc hh ht => goesOn (hnone hc hh ht), fun hc => tested .cold (hcold hc), fun hc hh => tested .hot (hhot hc hh),
    fun hc hh ht => tested .sensor (hsensor hc hh ht), fun h => ?_, fun h hlimit => ?_⟩
  · cases htest : test with
    | none => rw [goesOn htest, hlatch]
    | some why => rw [withdraws why htest, withdrawHeld_latch_of_holding why (by rw [hbay]; exact h), hlatch]
  · have htest : ∃ why, test = some why := by
      by_cases hc : atLimit cold p.qmaxCold
      · exact ⟨_, hcold hc⟩
      · by_cases hh : atLimit r.qHot p.qmaxHot
        · exact ⟨_, hhot hc hh⟩
        · exact ⟨_, hsensor hc hh ((hlimit.resolve_left hc).resolve_left hh)⟩
    obtain ⟨why, htest⟩ := htest
    have hreleasing : ((faultNoted s b).bay b).state = .releasing := by rw [hbay]; exact h
    rw [withdraws why htest]
    exact frontReturned_congr hlatch (withdrawHeld_frontReturned why hreleasing)

/-! ### The deadline (R2, R108, R109) -/

theorem reached_some {s : State} {e : Nat} : s.reached (some e) = true ↔ e ≤ s.bankTime := decide_eq_true_iff

theorem not_reached_of_ahead {s : State} {o : Option Nat} (h : ∀ e, o = some e → s.bankTime < e) : s.reached o = false := by
  cases o with
  | none => rfl
  | some e => exact decide_eq_false (Nat.not_le.mpr (h e rfl))

/-- The row of a bay expiry, while the part runs. -/
theorem exec_expiry {s : State} {b : Nat} (hr : s.running = true) (hb : b < 48) (f : State → State) :
    nextIf (b < 48) s (s.whenRunning f) = .next (f s) := by
  rw [s.whenRunning_of_running f hr, nextIf, decide_eq_true hb]
  rfl

/-- Settles O36: a deadline that a held bay watches and bank time has reached withdraws it. -/
theorem deadlineExpiry : Obligations.DeadlineExpiry := by
  unfold Obligations.DeadlineExpiry
  intro s b hr hb
  have hexec : exec (.deadlineExpiry b) s = .next (s.takeDeadline b) := exec_expiry hr hb (·.takeDeadline b)
  refine ⟨fun d held hd hreached => ?_, fun h => ?_⟩
  · have htaken : s.takeDeadline b = s.withdrawHeld b .deadline := by
      rw [State.takeDeadline, watchesDeadline_iff.mpr held, hd, reached_some.mpr hreached]
      rfl
    refine ⟨_, hexec, ?_, ?_, fun h => ?_, fun h => ?_⟩
    · rw [htaken]
      exact withdrawHeld_withdrawn .deadline held
    · exact (takeDeadline_course (g := ⟨True, False⟩) False.elim).onlyBays
    · rw [htaken]
      exact withdrawHeld_latch_of_holding .deadline h
    · rw [htaken]
      exact withdrawHeld_frontReturned .deadline h
  · have hkept : s.takeDeadline b = s := by
      rw [State.takeDeadline, if_neg]
      rw [Bool.and_eq_true, watchesDeadline_iff]
      rintro ⟨held, hreached⟩
      obtain h | h := h
      · exact h held
      · rw [not_reached_of_ahead h] at hreached
        cases hreached
    rw [hexec, hkept]

end Sys2Proof.Completions
end

section

-- One proof at a time: the proofs here together ask for more threads than the memory limit leaves room for.
set_option Elab.async false

/-! The rows of the kiosk lines' characters, of the mains crossings, of the door switches and alarms, and of a store write's end. -/

namespace Sys2Proof.Rows

open Sys2Proof Sys2Proof.Machine Sys2Proof.Courses

/-! ### Kiosk characters (R153, R154) -/

section Kiosk

variable (s : State) (l : KioskLine)

theorem setPort_self : s.setPort l (s.port l) = s := by cases l <;> rfl

theorem isDigit_byteOf {n : Nat} (h : n ≤ 9) : isDigit (byteOf (0x30 + n)) = true := by
  rw [isDigit, toNat_byteOf _ (by omega), Bool.and_eq_true]
  exact ⟨decide_eq_true (by omega), decide_eq_true (by omega)⟩

theorem not_carriageReturn_of_digit {n : Nat} (h : n ≤ 9) : byteOf (0x30 + n) ≠ carriageReturn := fun heq => by
  have hnat := congrArg BitVec.toNat heq
  rw [toNat_byteOf _ (by omega)] at hnat
  exact absurd hnat (by rw [show carriageReturn.toNat = 13 from rfl]; omega)

theorem isDigit_false {c : Byte} (h : ∀ n ≤ 9, c ≠ byteOf (0x30 + n)) : isDigit c = false := by
  by_contra hd
  rw [Bool.not_eq_false, isDigit, Bool.and_eq_true, decide_eq_true_eq, decide_eq_true_eq] at hd
  refine h (c.toNat - 0x30) (by omega) (BitVec.eq_of_toNat_eq ?_)
  rw [toNat_byteOf _ (by omega)]
  omega

/-- R154: a good digit of the first six joins the buffer. -/
theorem take_digit (p : KioskPort) (now : Nat) {n : Nat} (h : n ≤ 9) (hl : p.digits.length < 6) :
    p.take (byteOf (0x30 + n)) true now = { p with digits := p.digits ++ [n], lastCharacter := now } := by
  have hn : (byteOf (0x30 + n)).toNat - 0x30 = n := by rw [toNat_byteOf _ (by omega)]; omega
  simp only [KioskPort.take, isDigit_byteOf h, hl, decide_true, Bool.and_self, if_true, hn]

/-- R154: any other character marks the entry. -/
theorem take_other (p : KioskPort) (now : Nat) {c : Byte} {stop : Bool}
    (h : (∀ n ≤ 9, c ≠ byteOf (0x30 + n)) ∨ stop = false ∨ 6 ≤ p.digits.length) :
    p.take c stop now = { p with malformed := true, lastCharacter := now } := by
  have hno : (stop && isDigit c && decide (p.digits.length < 6)) = false := by
    obtain h | h | h := h
    · rw [isDigit_false h, Bool.and_false, Bool.false_and]
    · rw [h, Bool.false_and, Bool.false_and]
    · rw [decide_eq_false (Nat.not_lt.mpr h), Bool.and_false]
  simp only [KioskPort.take, hno, Bool.false_eq_true, if_false]

/-- Settles O48: the table of R154 by phase and character, and the pause and the reply's end. -/
theorem kioskCharacters : Obligations.KioskCharacters := by
  unfold Obligations.KioskCharacters
  intro s l ch stop hr p becomes
  have hchar : exec (.kioskCharacter l ch stop) s = .next (s.takeKioskCharacter l ch stop) :=
    congrArg _ (s.whenRunning_of_running _ hr)
  have hentry : exec (.kioskEntry l) s = .next (if p.phase = .receiving then s.takeEntry l else s) :=
    congrArg _ (s.whenRunning_of_running _ hr)
  have hpause : exec (.kioskFrameTimeout l) s = .next (if p.phase = .receiving ∧ p.lastCharacter + 20 ≤ s.bankTime then
      s.setPort l { p with phase := .idle, digits := [], malformed := false } else s) :=
    congrArg _ (s.whenRunning_of_running _ hr)
  have hdone : exec (.kioskReplyDone l) s = .next (if p.phase = .replying then
      s.setPort l { p with phase := .idle, reply := [] } else s) := congrArg _ (s.whenRunning_of_running _ hr)
  have idle : p.phase = .idle → s.takeKioskCharacter l ch stop = if stop = true ∧ ch = characterE then
      s.setPort l { p with phase := .receiving, digits := [], malformed := false, lastCharacter := s.bankTime } else s := fun h => by
    rw [State.takeKioskCharacter, show (s.port l).phase = .idle from h]
  have receiving : p.phase = .receiving → s.takeKioskCharacter l ch stop = if stop = true ∧ ch = carriageReturn then
      s.takeEntry l else s.setPort l (p.take ch stop s.bankTime) := fun h => by
    rw [State.takeKioskCharacter, show (s.port l).phase = .receiving from h]
  have replying : p.phase = .replying → s.takeKioskCharacter l ch stop = s := fun h => by
    rw [State.takeKioskCharacter, show (s.port l).phase = .replying from h]
  have same : becomes p ↔ exec (.kioskCharacter l ch stop) s = .next s := by
    rw [show becomes p ↔ exec (.kioskCharacter l ch stop) s = .next (s.setPort l p) from Iff.rfl, setPort_self]
  refine ⟨fun h hc hs => ?_, fun h hc => ?_, fun h => ?_, fun n hn h hc hs hl => ?_, fun h hc ho => ?_, fun h hc hs => ?_, fun h => ?_,
    fun h hn => ?_, fun h => ?_, fun h => ?_, fun h => ?_⟩
  · exact hchar.trans (congrArg _ ((idle h).trans (if_pos ⟨hs, hc⟩)))
  · refine same.mpr (hchar.trans (congrArg _ ((idle h).trans (if_neg fun hn => ?_))))
    exact hc.elim (fun hne => hne hn.2) fun hf => by rw [hn.1] at hf; cases hf
  · exact same.mpr (hchar.trans (congrArg _ (replying h)))
  · refine hchar.trans (congrArg _ ((receiving h).trans ?_))
    rw [if_neg fun hn' => not_carriageReturn_of_digit hn (hc ▸ hn'.2), hc, hs, take_digit p s.bankTime hn hl]
  · refine hchar.trans (congrArg _ ((receiving h).trans ((if_neg fun hn => ?_).trans (by rw [take_other p s.bankTime ho]))))
    exact hc.elim (fun hne => hne hn.2) fun hf => by rw [hn.1] at hf; cases hf
  · rw [hchar, receiving h, if_pos ⟨hs, hc⟩, hentry, if_pos h]
  · rw [hentry, if_neg h]
  · rw [hpause, if_pos ⟨h, hn⟩]
  · rw [hpause, if_neg fun hn => h.elim (fun hne => hne hn.1) fun hlt => absurd hn.2 (by omega)]
  · rw [hdone, if_pos h]
  · rw [hdone, if_neg h]

end Kiosk

/-! ### The end of a store write (R199) -/

theorem elapsed_iff {s : State} {since n : Nat} : s.elapsed since n = true ↔ since + n ≤ s.clock := decide_eq_true_iff

/-- Settles O57: the write completes once its 40 ms have run. -/
theorem storeWriteCompletes : Obligations.StoreWriteCompletes := by
  unfold Obligations.StoreWriteCompletes
  intro s w t hr hw now done
  have hexec : exec (.storeWriteComplete t) s =
      .next (if (s.advance t).elapsed w.startedAt storeWriteLength then (s.advance t).completeWrite w else s.advance t) := by
    refine congrArg _ ((s.whenRunningAt_of_running t _ hr).trans ?_)
    rw [State.advance_store, hw]
  have completed : w.startedAt + 40000 ≤ now → exec (.storeWriteComplete t) s = .next ((s.advance t).completeWrite w) := fun h => by
    rw [hexec, if_pos (elapsed_iff.mpr h)]
  refine ⟨fun h => ?_, fun n hn h ht => ?_, fun h ht => ?_⟩
  · rw [hexec, if_neg fun hover => absurd (elapsed_iff.mp hover) (Nat.not_le.mpr h)]
    rfl
  · have hput : (s.advance t).completeWrite w =
        { done with store := { s.store with slots := s.store.slots.setIfInBounds n w.contents, write := none } } := by
      rw [State.completeWrite, ht]
      rfl
    refine ⟨_, completed h, by rw [hput], fun k _ => ?_⟩
    rw [hput]
    by_cases hk : k = n
    · rw [if_pos hk, hk]
      exact getD_setIfInBounds_self _ _ _ _ hn
    · rw [if_neg hk]
      exact getD_setIfInBounds_ne _ _ _ _ _ (Ne.symm hk)
  · rw [completed h, State.completeWrite, ht]
    rfl

/-! ### Door switches and alarms (R135, R137) -/

theorem sense_eq (r : Door) (level : Bool) (now : Nat) : r.sense level now =
    { r with candidate := if level = r.closed then none else some (r.candidate.getD { closed := level, since := now }) } := by
  unfold Door.sense
  split <;> rfl

/-- R137: the notice of a door left open. -/
theorem raise_doorLeftOpen (n : BayNotices) (d : Nat) : n.raise (.doorLeftOpen (sideOfDoor d)) =
    if d % 2 = 0 then { n with doorLeftOpenFront := true } else { n with doorLeftOpenRear := true } := by
  unfold sideOfDoor
  split <;> rfl

/-- R135: no event is taken from a door with no candidate, or one too young. -/
theorem not_settled {s : State} {d : Nat} (level : Bool)
    (h : (s.door d).candidate = none ∨ ∃ c, (s.door d).candidate = some c ∧ s.clock < c.since + 40000) : s.settled d level = false := by
  unfold State.settled
  obtain h | ⟨c, h, hc⟩ := h
  · rw [h]
    rfl
  · have hyoung : s.elapsed c.since debounceTime = false := decide_eq_false (Nat.not_le.mpr hc)
    rw [h, Option.any_some, hyoung, Bool.and_false]

/-- A row of a door that carries its moment, while the part runs. -/
theorem exec_doorAt {s : State} {d : Nat} (t : Nat) (hr : s.running = true) (hd : d < 96) (f : State → State) :
    nextIf (d < 96) s (s.whenRunningAt t f) = .next (f (s.advance t)) := by
  rw [s.whenRunningAt_of_running t f hr, nextIf, decide_eq_true hd]
  rfl

/-- A row of a channel that carries its moment, while the part runs. -/
theorem exec_channelAt {s : State} {c : Nat} (t : Nat) (hr : s.running = true) (hc : c < 4) (f : State → State) :
    nextIf (c < 4) s (s.whenRunningAt t f) = .next (f (s.advance t)) := by
  rw [s.whenRunningAt_of_running t f hr, nextIf, decide_eq_true hc]
  rfl

/-- Settles O41: the candidate, the debounce, and the alarm. -/
theorem switchesAndAlarms : Obligations.SwitchesAndAlarms := by
  unfold Obligations.SwitchesAndAlarms
  intro s d t hr hd now
  have halarm : exec (.doorAlarmExpiry d) s = .next (if s.reached (s.door d).alarm then
      (s.raiseBay (bayOfDoor d) (.doorLeftOpen (sideOfDoor d))).setDoor d { s.door d with alarm := none } else s) := by
    rw [show exec (.doorAlarmExpiry d) s = execDoorAlarmExpiry d s from rfl, execDoorAlarmExpiry, s.whenRunning_of_running _ hr, nextIf,
      decide_eq_true hd]
    rfl
  refine ⟨fun level => ?_, fun h => ⟨?_, ?_⟩, fun e he hreached => ?_, fun h => ?_⟩
  · have hrunning : ((s.awake.advance t).setSwitch d level).running = true := by
      rw [s.awake_of_running hr]
      exact hr
    rw [show exec (.doorSwitchChange d level t) s = execDoorSwitchChange d level t s from rfl, execDoorSwitchChange]
    dsimp only
    rw [if_pos hrunning, s.awake_of_running hr, sense_eq, nextIf, decide_eq_true hd]
    rfl
  · refine (exec_doorAt t hr hd fun s => if s.settled d false then s.doorOpenedStep d else s).trans (congrArg _ (if_neg ?_))
    rw [not_settled (s := s.advance t) false h]
    exact Bool.false_ne_true
  · refine (exec_doorAt t hr hd fun s => if s.settled d true then s.doorClosedStep d else s).trans (congrArg _ (if_neg ?_))
    rw [not_settled (s := s.advance t) true h]
    exact Bool.false_ne_true
  · rw [halarm, he, if_pos (Completions.reached_some.mpr hreached)]
    refine congrArg _ ?_
    rw [State.raiseBay, raise_doorLeftOpen]
    rfl
  · rw [halarm, Completions.not_reached_of_ahead h]
    rfl

/-! ### Crossings (R115 to R118, R128, R131) -/

section Crossings

variable {s : State}

theorem classify_none (h : s.mains.lastCrossing = none) : s.classify = .late := by rw [State.classify, h]

theorem classify_some {c : Nat} (h : s.mains.lastCrossing = some c) :
    s.classify = if s.clock - c < 7000 then .noise else if s.clock - c ≤ 12000 then .valid else .late := by rw [State.classify, h]

theorem exec_crossing (t : Nat) (hr : s.running = true) : exec (.zcCrossing t) s = .next (s.advance t).takeCrossing :=
  congrArg _ (s.whenRunningAt_of_running t _ hr)

theorem takeCrossing_noise (h : s.classify = .noise) : s.takeCrossing = s := by rw [State.takeCrossing, h]

theorem takeCrossing_valid (h : s.classify = .valid) : s.takeCrossing =
    if s.mains.present then s.acceptCrossing.windowCrossing true else s.acceptCrossing.settleCrossing true := by
  rw [State.takeCrossing, h]

theorem takeCrossing_late (h : s.classify = .late) : s.takeCrossing =
    if s.mains.present then s.acceptCrossing.abandonWindow
    else { s.acceptCrossing with mains := { s.acceptCrossing.mains with settle := 0 } } := by
  rw [State.takeCrossing, h]
  rfl

/-- R116: a valid crossing while ABSENT counts, and the eighth makes mains PRESENT. -/
theorem settleCrossing_valid : s.settleCrossing true =
    if 7 ≤ s.mains.settle then
      State.startWindow { s with
        mains := { s.mains with settle := s.mains.settle + 1, present := true }
        bankNotices := { s.bankNotices with mainsReturned := true } }
    else { s with mains := { s.mains with settle := s.mains.settle + 1 } } := by
  unfold State.settleCrossing
  dsimp only
  by_cases h : 7 ≤ s.mains.settle
  · rw [if_pos rfl, if_pos (by omega), if_pos h]
    rfl
  · rw [if_pos rfl, if_neg (by omega), if_neg h]

theorem windowCrossing_valid : s.windowCrossing true = match s.mains.position with
    | none => s.startWindow
    | some h => if h < 15 then s.beginHalfCycle (h + 1) else s.advanceRotation.startWindow := rfl

/-- R117, R128: the next half-cycle begins. -/
theorem beginHalfCycle_eq (h : Nat) : s.beginHalfCycle h =
    { s with mains := { s.mains with position := some h }, heater := { s.heater with gates := (s.beginHalfCycle h).heater.gates } } := by
  simp only [State.beginHalfCycle]

/-- R118: what 25 ms without a crossing do. -/
theorem exec_absence {c : Nat} (t : Nat) (hr : s.running = true) (hc : s.mains.lastCrossing = some c) (hw : s.mains.watch = true) :
    exec (.absenceWatchExpiry t) s = .next (if c + 25000 ≤ max s.clock t then (s.advance t).loseMains else s.advance t) := by
  refine congrArg _ ((s.whenRunningAt_of_running t _ hr).trans ?_)
  rw [State.advance_mains, hc]
  dsimp only
  rw [hw, Bool.true_and]
  exact if_congr elapsed_iff rfl rfl

theorem loseMains_of_absent (h : s.mains.present = false) :
    s.loseMains = { s with mains := { s.mains with settle := 0, watch := false } } := by
  rw [State.loseMains]
  dsimp only
  rw [h]
  simp only [Bool.false_eq_true, if_false]

theorem loseMains_of_present (h : s.mains.present = true) : s.loseMains =
    { s with
      mains := { s.mains with present := false, settle := 0, watch := false, position := none }
      heater := { s.heater with schedule := [], gates := Vector.replicate 48 false }
      bankNotices := { s.bankNotices with mainsLost := true } } := by
  rw [State.loseMains]
  dsimp only
  rw [h, if_pos rfl]
  rfl

end Crossings

/-- Settles O40: each class of crossing while mains is PRESENT and ABSENT, the first crossing after a start, and the absence watch. -/
theorem crossingsDriveTheWindow : Obligations.CrossingsDriveTheWindow := by
  unfold Obligations.CrossingsDriveTheWindow
  refine ⟨?_, ?_, ?_⟩
  · intro s c t hr hc now taken
    have hclass : (s.advance t).classify = if now - c < 7000 then .noise else if now - c ≤ 12000 then .valid else .late :=
      classify_some hc
    have haccept : (s.advance t).acceptCrossing = taken := rfl
    have noise : now - c < 7000 → exec (.zcCrossing t) s = .next (s.advance t) := fun h => by
      rw [exec_crossing t hr, takeCrossing_noise (hclass.trans (if_pos h))]
    have valid : 7000 ≤ now - c → now - c ≤ 12000 → exec (.zcCrossing t) s =
        .next (if s.mains.present then taken.windowCrossing true else taken.settleCrossing true) := fun h h' => by
      rw [exec_crossing t hr, takeCrossing_valid (hclass.trans ((if_neg (by omega)).trans (if_pos h'))), haccept]
      rfl
    have late : 12000 < now - c → exec (.zcCrossing t) s = .next (if s.mains.present then taken.abandonWindow
        else { taken with mains := { taken.mains with settle := 0 } }) := fun h => by
      rw [exec_crossing t hr, takeCrossing_late (hclass.trans ((if_neg (by omega)).trans (if_neg (by omega)))), haccept]
      rfl
    refine ⟨fun h => noise h, fun h hp => ?_, fun h h' hp hs => ?_, fun h h' hp hs => ?_, fun h hp => ?_, fun h h' hp hpos => ?_,
      fun k h h' hp hpos hk => ?_, fun h h' hp hpos => ?_⟩
    · rw [late h, hp]
      rfl
    · have hlow : ¬ 7 ≤ taken.mains.settle := Nat.not_le.mpr hs
      rw [valid h h', hp, if_neg Bool.false_ne_true, settleCrossing_valid, if_neg hlow]
    · have height : taken.mains.settle = 7 := hs
      rw [valid h h', hp, if_neg Bool.false_ne_true, settleCrossing_valid, if_pos (height ▸ Nat.le_refl 7), height]
    · rw [late h, hp]
      rfl
    · have hnone : taken.mains.position = none := hpos
      rw [valid h h', hp, if_pos rfl, windowCrossing_valid, hnone]
    · have hsome : taken.mains.position = some k := hpos
      have hrun : taken.running = true := hr
      refine ⟨taken.beginHalfCycle (k + 1), ?_, beginHalfCycle_eq (s := taken) (k + 1), fun b hb => ?_⟩
      · rw [valid h h', hp, if_pos rfl, windowCrossing_valid, hsome]
        dsimp only
        rw [if_pos hk]
      · rw [Allocation.beginHalfCycle_gate _ hrun hb, Allocation.litIn_iff (by omega)]
    · have hlast : taken.mains.position = some 15 := hpos
      rw [valid h h', hp, if_pos rfl, windowCrossing_valid, hlast]
      rfl
  · intro s c t hr hc hw now
    rw [exec_absence t hr hc hw]
    refine ⟨fun h => ?_, fun h hp => ?_, fun h hp => ?_⟩
    · rw [if_neg (Nat.not_le.mpr h)]
      rfl
    · rw [if_pos h, loseMains_of_absent (s := s.advance t) hp]
      rfl
    · rw [if_pos h, loseMains_of_present (s := s.advance t) hp]
      rfl
  · intro s t hr now taken
    have first : s.mains.lastCrossing = none → exec (.zcCrossing t) s = .next (if s.mains.present then taken.abandonWindow
        else { taken with mains := { taken.mains with settle := 0 } }) := fun h => by
      rw [exec_crossing t hr, takeCrossing_late (classify_none (s := s.advance t) h)]
      rfl
    refine ⟨fun h hp => ?_, fun h hp => ?_, fun h => ?_⟩
    · rw [first h, hp]
      rfl
    · rw [first h, hp]
      rfl
    · refine congrArg _ ((s.whenRunningAt_of_running t _ hr).trans ?_)
      rw [State.advance_mains]
      obtain h | h := h
      · rw [h]
        rfl
      · rw [h]
        cases s.mains.lastCrossing <;> rfl

end Sys2Proof.Rows
end

section

-- One proof at a time: the proofs here together ask for more threads than the memory limit leaves room for.
set_option Elab.async false

/-! Latch requests and their completions (R141, R161, R180), grants and the ends of pulses (R143 to R145). -/

namespace Sys2Proof.Pulses

open Sys2Proof Sys2Proof.Machine Sys2Proof.Courses Sys2Proof.Latches

/-! ### Completions (R63, R161, R180) -/

section Completions

variable {s t : State}

theorem sideOfDoor_front (b : Nat) : sideOfDoor (2 * b) = .front := if_pos (by omega)

theorem sideOfDoor_rear (b : Nat) : sideOfDoor (2 * b + 1) = .rear := if_neg (by omega)

theorem bayOfDoor_even (b : Nat) : bayOfDoor (2 * b) = b := by simp only [bayOfDoor]; omega

theorem bayOfDoor_odd (b : Nat) : bayOfDoor (2 * b + 1) = b := by simp only [bayOfDoor]; omega

/-- R161: the completion for a front door. -/
theorem unlockCompletion_front (b : Nat) : s.unlockCompletion (2 * b) =
    if (s.bay b).state = .releasing ∧ (s.bay b).timer = none then
      s.setBay b { s.bay b with timer := some (s.after s.config.releaseTimeout) }
    else s := by
  rw [State.unlockCompletion, sideOfDoor_front, bayOfDoor_even]

/-- R63, R180: the completion for a rear door. -/
theorem unlockCompletion_rear (b : Nat) : s.unlockCompletion (2 * b + 1) =
    if (s.bay b).state = .loading ∧ (s.bay b).timer = none then
      s.setBay b { s.bay b with timer := some (s.after s.config.loadWindow) }
    else if (s.bay b).clearing = true ∧ (s.bay b).timer = none ∧
        ((s.bay b).state = .withdrawn ∨ (s.bay b).state = .outOfService ∨ (s.bay b).state = .vacant) then
      s.setBay b { s.bay b with timer := some (s.after s.config.clearingWindow) }
    else s := by
  rw [State.unlockCompletion, sideOfDoor_rear, bayOfDoor_odd]

/-- What a completion writes reads the records, bank time and the configuration. -/
theorem unlockCompletion_bays_congr (bays : t.bays = s.bays) (time : t.bankTime = s.bankTime) (config : t.config = s.config) (d : Nat) :
    (t.unlockCompletion d).bays = (s.unlockCompletion d).bays := by
  have hbay : ∀ b, t.bay b = s.bay b := fun b => by simp only [State.bay, bays]
  have hafter : ∀ n, t.after n = s.after n := fun n => by simp only [State.after, time]
  have hset : ∀ b r, (t.setBay b r).bays = (s.setBay b r).bays := fun b r => by simp only [State.setBay, bays]
  unfold State.unlockCompletion
  cases sideOfDoor d
  · dsimp only
    rw [hbay, hafter, config]
    split
    · exact hset _ _
    · exact bays
  · dsimp only
    rw [hbay, hafter, hafter, config]
    split
    · exact hset _ _
    · split
      · exact hset _ _
      · exact bays

end Completions

/-! ### Requests (R141) -/

section Requests

variable {s : State} {d : Nat} {a : LatchAction} {c : RequestClass}

/-- The records once a request has been satisfied at once, whatever has left the queue. -/
theorem satisfied_bays {u : State} (bays : u.bays = s.bays) (time : u.bankTime = s.bankTime) (config : u.config = s.config) :
    (u.satisfied d a).bays = if a = .lock then s.bays else (s.unlockCompletion d).bays := by
  cases a
  · exact bays
  · exact unlockCompletion_bays_congr bays time config d

theorem request_bays_here (h : a = (s.latchPosition d).side) : (s.request d a c).bays =
    if s.pulseRuns d = true ∨ a = .lock then s.bays else (s.unlockCompletion d).bays := by
  unfold State.request
  cases s.pendingFor d with
  | none =>
    dsimp only
    rw [if_pos h]
    cases hp : s.pulseRuns d
    · simpa only [Bool.false_eq_true, if_false, false_or] using satisfied_bays (s := s) rfl rfl rfl
    · simp only [if_true, true_or]
  | some r =>
    dsimp only
    rw [if_pos h]
    cases hp : s.pulseRuns d
    · simpa only [Bool.false_eq_true, if_false, false_or] using satisfied_bays (u := s.dropRequest d) (s := s) rfl rfl rfl
    · simp only [if_true, true_or]
      rfl

theorem request_bays_away (h : a ≠ (s.latchPosition d).side) : (s.request d a c).bays = s.bays := by
  cases hp : s.pendingFor d with
  | none => rw [request_of_free c h hp]; rfl
  | some r => rw [request_of_pending c h hp]; rfl

theorem higher_eq (x y : RequestClass) : x.higher y = if x.rank ≤ y.rank then x else y := rfl

/-- Settles O45: the completions by side and state, and a request by the side of its record and the pending request. -/
theorem requestsAndCompletions : Obligations.RequestsAndCompletions := by
  unfold Obligations.RequestsAndCompletions
  refine ⟨?_, ?_⟩
  · intro s b hb st timed clears
    rw [unlockCompletion_front, unlockCompletion_rear]
    refine ⟨fun h ht => if_pos ⟨h, ht⟩, fun h => if_neg fun hn => h.elim (fun hne => hne hn.1) fun hne => hne hn.2, fun h ht =>
      if_pos ⟨h, ht⟩, fun h ht => ?_, fun h => ?_⟩
    · have hne : st ≠ .loading := by obtain h | h | h := h.2 <;> rw [h] <;> decide
      exact (if_neg fun hn => hne hn.1).trans (if_pos ⟨h.1, ht, h.2⟩)
    · refine (if_neg fun hn => ?_).trans (if_neg fun hn => ?_)
      · exact h.elim (fun hne => hne hn.2) fun hne => hne.1 hn.1
      · exact h.elim (fun hne => hne hn.2.1) fun hne => hne.2 ⟨hn.1, hn.2.2⟩
  · intro s d a c hq hlock t here
    have hside : here ↔ a = (s.latchPosition d).side := by
      change (a = match s.latchPosition d with | .locked | .locking => LatchAction.lock | .unlocked | .unlocking => .unlock) ↔ _
      cases s.latchPosition d <;> exact Iff.rfl
    have hqt : t.QueueOrdered := request_queueOrdered d a c hq
    refine ⟨s.request_frame d a c, fun h => ⟨fun r => ?_, fun hp => ?_, fun hp ha => ?_⟩, fun h => ⟨?_, fun r hr => ?_, fun hp => ?_,
      fun r hp => ?_⟩⟩
    · rw [show t.latch.queue = _ from request_queue_here c (hside.mp h), List.mem_filter, decide_eq_true_eq]
    · exact (request_bays_here (hside.mp h)).trans (if_pos hp)
    · refine (request_bays_here (hside.mp h)).trans (if_neg ?_)
      rw [hp, ha]
      decide
    · exact request_bays_away fun ha => h (hside.mpr ha)
    · have haway : a ≠ (s.latchPosition d).side := fun ha => h (hside.mpr ha)
      cases hp : s.pendingFor d with
      | none =>
        rw [show t = _ from request_of_free c haway hp]
        exact mem_insertRequest.trans (or_iff_right fun heq => hr (congrArg LatchRequest.door heq))
      | some p =>
        have hpd := (pendingFor_some hp).2
        rw [show t = _ from request_of_pending c haway hp]
        change r ∈ insertRequest { p with cls := p.cls.higher c } (s.dropRequest p.door).latch.queue ↔ _
        refine (mem_insertRequest.trans (or_iff_right fun heq : r = { p with cls := p.cls.higher c } =>
          hr ((congrArg LatchRequest.door heq).trans hpd))).trans ?_
        rw [State.dropRequest, State.setLatchQueue_latch, List.mem_filter, hpd, decide_eq_true_eq]
        exact and_iff_left hr
    · refine pendingFor_eq_some hqt ?_ rfl
      rw [show t = _ from request_of_free c (fun ha => h (hside.mpr ha)) hp]
      exact mem_insertRequest.mpr (.inl rfl)
    · refine pendingFor_eq_some hqt ?_ (pendingFor_some hp).2
      rw [show t = _ from request_of_pending c (fun ha => h (hside.mpr ha)) hp, ← higher_eq]
      exact mem_insertRequest.mpr (.inl rfl)

end Requests

/-! ### Outputs of a channel (R144) -/

section Outputs

variable {s t : State}

theorem pulseRuns_of_channels (h : t.latch.channels = s.latch.channels) (d : Nat) : t.pulseRuns d = s.pulseRuns d := by
  simp only [State.pulseRuns, h]

theorem lsel_eq (d : Nat) : s.lsel d = (s.running && s.pulseRuns d) := rfl

theorem pulseRuns_setChannel_self {c : Nat} (p : Pulse) (hc : c < 4) : (s.setChannel c (some p)).pulseRuns p.door = true :=
  pulseRuns_iff.mpr ⟨c, hc, p, by rw [setChannel_getD _ hc, if_pos rfl], rfl⟩

/-- A channel that takes or ends a pulse of another door leaves the pulses of a door. -/
theorem pulseRuns_setChannel_other {c d : Nat} {p : Option Pulse} (hc : c < 4) (old : ∀ q, s.latch.channels.getD c none = some q → q.door ≠ d)
    (new : ∀ q, p = some q → q.door ≠ d) : (s.setChannel c p).pulseRuns d = s.pulseRuns d := by
  rw [Bool.eq_iff_iff, pulseRuns_iff, pulseRuns_iff]
  refine exists_congr fun c' => and_congr_right fun _ => exists_congr fun q => and_congr_left fun hd => ?_
  rw [setChannel_getD p hc]
  by_cases h : c' = c
  · rw [if_pos h, h]
    exact ⟨fun hq => absurd hd (new q hq), fun hq => absurd hd (old q hq)⟩
  · rw [if_neg h]

theorem not_pulseRuns_setChannel_none {c d : Nat} (hc : c < 4)
    (others : ∀ c' < 4, c' ≠ c → ∀ q, s.latch.channels.getD c' none = some q → q.door ≠ d) :
    (s.setChannel c none).pulseRuns d = false := by
  rw [← Bool.not_eq_true, pulseRuns_iff]
  rintro ⟨c', hc', q, hq, hd⟩
  rw [setChannel_getD none hc] at hq
  split at hq
  · cases hq
  · next hne => exact others c' hc' hne q hq hd

theorem heldOff_of_channel {c : Nat} {p : Pulse} (hc : c < 4) (h : s.latch.channels.getD c none = some p) : s.heldOff = true := by
  refine decide_eq_true ?_
  unfold State.energised
  rw [Budgets.toList_eq_map_getD _ none, List.countP_map]
  exact List.countP_pos_iff.mpr ⟨c, List.mem_range.mpr hc, by simp [h]⟩

/-- One pulse fewer once a channel's pulse has ended. -/
theorem energised_setChannel_none {c : Nat} {p : Pulse} (hc : c < 4) (h : s.latch.channels.getD c none = some p) :
    (s.setChannel c none).energised + 1 = s.energised := by
  have hget : s.latch.channels[c] = some p := by simpa [Vector.getD, hc] using h
  have hpos : 0 < s.energised := of_decide_eq_true (heldOff_of_channel hc h)
  unfold State.energised at hpos ⊢
  rw [State.setChannel_latch]
  simp only [Vector.toList_setIfInBounds]
  rw [List.countP_set (by simpa using hc)]
  simp only [Vector.getElem_toList, hget, Option.isSome_some, Option.isSome_none, if_true, Bool.false_eq_true, if_false]
  omega

end Outputs

/-! ### Grants (R143) -/

section Grants

variable {s : State}

theorem freeChannel_eq {c : Nat} (hc : c < 4) (free : s.latch.channels.getD c none = none)
    (lower : ∀ c' < c, s.latch.channels.getD c' none ≠ none) : s.freeChannel = some c := by
  unfold State.freeChannel
  rw [List.find?_range_eq_some]
  refine ⟨by rw [free]; rfl, List.mem_range.mpr hc, fun j hj => ?_⟩
  cases h : s.latch.channels.getD j none with
  | none => exact absurd h (lower j hj)
  | some p => rfl

theorem freeChannel_none (h : ∀ c < 4, s.latch.channels.getD c none ≠ none) : s.freeChannel = none := by
  unfold State.freeChannel
  rw [List.find?_eq_none]
  intro c hc
  cases hget : s.latch.channels.getD c none with
  | none => exact absurd hget (h c (List.mem_range.mp hc))
  | some p => exact Bool.false_ne_true

/-- R143: what a grant writes before it stops the scanner. -/
theorem grantedPulse_eq (r : LatchRequest) (c : Nat) : Acts.grantedPulse s r c = { s with latch := { s.latch with
    queue := s.latch.queue.tail
    records := s.latch.records.setIfInBounds r.door { s.latchRecord r.door with position := r.action.moving }
    channels := s.latch.channels.setIfInBounds c
      (some { door := r.door, action := r.action, startedAt := s.clock, length := s.pulseLength }) } } := rfl

/-- R149: a scanner held off in a pass with bays left starts the stall timer. -/
theorem noteStarved_eq (h : s.heldOff = true) : s.noteStarved = { s with latch := { s.latch with
    stallTimer := if ∃ p, s.scanner.pass = some p ∧ p.remaining ≠ [] then some (s.latch.stallTimer.getD s.clock)
      else s.latch.stallTimer } } := by
  have hstarved : s.starved = true ↔ ∃ p, s.scanner.pass = some p ∧ p.remaining ≠ [] := by
    rw [State.starved, h, Bool.and_true]
    cases s.scanner.pass <;> simp
  unfold State.noteStarved
  by_cases hs : ∃ p, s.scanner.pass = some p ∧ p.remaining ≠ []
  · rw [hstarved.mpr hs, if_pos hs, Bool.true_and]
    cases ht : s.latch.stallTimer
    · rfl
    · simp only [Option.isNone_some, Bool.false_eq_true, if_false, Option.getD_some]
      rw [← ht]
  · rw [if_neg hs, Bool.eq_false_iff.mpr (hstarved.not.mpr hs)]
    rfl

end Grants

/-- Settles O46: the head of the queue and the lowest free channel, the outputs of the channel, and the stall timer at two seconds. -/
theorem grantsAndTheGuard : Obligations.GrantsAndTheGuard := by
  unfold Obligations.GrantsAndTheGuard
  intro s t hr now
  have hexec : exec (.latchGrant t) s = .next (match s.latch.queue.head?, s.freeChannel with
      | some r, some c => if s.mayGrant r.door then (s.advance t).grantPulse r c else s.advance t
      | _, _ => s.advance t) := congrArg _ (s.whenRunningAt_of_running t _ hr)
  refine ⟨fun r rest c hqueue hc hfree hlower hless hguard hpulse => ?_, fun h => ?_, fun since hsince => ?_⟩
  · have hmay : s.mayGrant r.door = true := by
      rw [State.mayGrant, hguard, hpulse, decide_eq_true hless]
      rfl
    have hpulse' : ∀ q, s.latch.channels.getD c none = some q → ∀ d, q.door ≠ d := fun q hq => by rw [hfree] at hq; cases hq
    let p : Pulse := { door := r.door, action := r.action, startedAt := now, length := 10000 * s.config.pulseUnits }
    have hheld : (Acts.grantedPulse (s.advance t) r c).dropConversion.heldOff = true :=
      heldOff_of_channel (p := p) hc (getD_setIfInBounds_self _ _ _ _ hc)
    have hgrant : (s.advance t).grantPulse r c = (Acts.grantedPulse (s.advance t) r c).dropConversion.noteStarved := rfl
    have hexact := hgrant.trans (noteStarved_eq hheld)
    rw [grantedPulse_eq, State.advance_latch, hqueue] at hexact
    have hchannels : ((s.advance t).grantPulse r c).latch.channels = (s.setChannel c (some p)).latch.channels := by
      rw [hexact]
      rfl
    have hrunning : ((s.advance t).grantPulse r c).running = true := by
      rw [hexact]
      exact hr
    have hget : ∀ c', ((s.advance t).grantPulse r c).latch.channels.getD c' none =
        if c' = c then some p else s.latch.channels.getD c' none := fun c' => by
      rw [hchannels, setChannel_getD (some p) hc]
    refine ⟨(s.advance t).grantPulse r c, ?_, ?_, ?_, ?_, ?_, fun d hd => ?_, fun c' hc' => ⟨?_, ?_⟩⟩
    · rw [hexec, hqueue, freeChannel_eq hc hfree hlower]
      dsimp only [List.head?_cons]
      rw [if_pos hmay]
    · rw [hexact]
      rfl
    · rw [lsel_eq, hrunning, pulseRuns_of_channels hchannels, pulseRuns_setChannel_self p hc]
      rfl
    · rw [State.lda, hrunning, hget, if_pos rfl]
      rfl
    · rw [State.ldb, hrunning, hget, if_pos rfl]
      rfl
    · rw [lsel_eq, lsel_eq, hrunning, hr, pulseRuns_of_channels hchannels, pulseRuns_setChannel_other hc (fun q hq => hpulse' q hq d)
        fun q hq => Option.some.inj hq ▸ Ne.symm hd]
    · rw [State.lda, State.lda, hrunning, hr, hget, if_neg hc']
    · rw [State.ldb, State.ldb, hrunning, hr, hget, if_neg hc']
  · rw [hexec]
    refine congrArg _ ?_
    cases hhead : s.latch.queue.head? with
    | none => rfl
    | some r =>
      cases hfree : s.freeChannel with
      | none => rfl
      | some c =>
        refine if_neg ?_
        obtain h | h | h | ⟨r', hr', hp⟩ | h := h
        · rw [h] at hhead
          cases hhead
        · rw [State.mayGrant, decide_eq_false (Nat.not_lt.mpr h)]
          exact Bool.false_ne_true
        · rw [State.mayGrant, h, Bool.not_true, Bool.and_false]
          exact Bool.false_ne_true
        · rw [hhead] at hr'
          cases hr'
          rw [State.mayGrant, hp, Bool.not_true, Bool.and_false]
          exact Bool.false_ne_true
        · rw [freeChannel_none h] at hfree
          cases hfree
  · refine congrArg _ ((s.whenRunningAt_of_running t _ hr).trans ?_)
    rw [State.advance_latch, hsince]
    dsimp only
    by_cases h : since + 2000000 ≤ now
    · rw [if_pos (Rows.elapsed_iff.mpr h), decide_eq_true h, Bool.or_true]
      rfl
    · rw [if_neg fun hn => h (Rows.elapsed_iff.mp hn), decide_eq_false h, Bool.or_false]
      rfl

end Sys2Proof.Pulses
end

section

-- One proof at a time: the proofs here together ask for more threads than the memory limit leaves room for.
set_option Elab.async false

/-! The ends of latch pulses (R144, R145), and the scanner that goes on with the last of them (R76, R80). -/

namespace Sys2Proof.Pulses

open Sys2Proof Sys2Proof.Machine Sys2Proof.Courses Sys2Proof.Latches

/-! ### The scanner's next turn (R76, R79, R80) -/

section Turns

variable {s : State}

/-- The pass goes on with the first of its bays that is not OUT_OF_SERVICE. -/
theorem nextPair_begins {p : Pass} {past rest : List Nat} {b : Nat} (free : s.heldOff = false) (pass : s.scanner.pass = some p)
    (split : p.remaining = past ++ b :: rest) (passed : ∀ a ∈ past, (s.bay a).state = .outOfService)
    (serves : (s.bay b).state ≠ .outOfService) :
    s.nextPair = { s with scanner := { s.scanner with
      pass := some { p with remaining := b :: rest }
      conversion := some { bay := b, phase := .settling, since := s.clock, filter := s.filterTime }, discard := false } } := by
  have hdrop : p.remaining.dropWhile (fun b => (s.bay b).state = .outOfService) = b :: rest := by
    rw [split, List.dropWhile_append_of_pos fun a ha => decide_eq_true (passed a ha), List.dropWhile_cons_of_neg (by simpa using serves)]
  rw [State.nextPair, pass]
  dsimp only
  rw [free, if_neg Bool.false_ne_true, hdrop]

/-- The pass ends with no bay left that is not OUT_OF_SERVICE. -/
theorem nextPair_ends {p : Pass} (free : s.heldOff = false) (pass : s.scanner.pass = some p)
    (passed : ∀ a ∈ p.remaining, (s.bay a).state = .outOfService) : s.nextPair = s.endPass := by
  have hdrop : p.remaining.dropWhile (fun b => (s.bay b).state = .outOfService) = [] :=
    List.dropWhile_eq_nil_iff.mpr fun a ha => decide_eq_true (passed a ha)
  rw [State.nextPair, pass]
  dsimp only
  rw [free, if_neg Bool.false_ne_true, hdrop]

theorem nextPair_no_pass (pass : s.scanner.pass = none) : s.nextPair = s := by rw [State.nextPair, pass]

theorem nextPair_heldOff (held : s.heldOff = true) : s.nextPair = s := by
  rw [State.nextPair]
  cases s.scanner.pass with
  | none => rfl
  | some p =>
    dsimp only
    rw [if_pos held]

end Turns

/-! ### What follows the end of a pulse -/

/-- R76, R80, R144: what the end of the pulse `p` on channel `c` leads to, once `v` is written: the statement's own words. -/
def GoesOn (s : State) (c now : Nat) (p : Pulse) (v u : State) : Prop :=
  (1 < s.energised ∨ s.scanner.pass = none → u = v) ∧
  (∀ (pass : Pass) (past : List Nat) (b : Nat) (rest : List Nat), s.energised = 1 → s.scanner.pass = some pass →
    pass.remaining = past ++ b :: rest → (∀ a ∈ past, (s.bay a).state = .outOfService) → (s.bay b).state ≠ .outOfService →
    u = { v with scanner := { s.scanner with
      pass := some { pass with remaining := b :: rest }, discard := false
      conversion := some { bay := b, phase := .settling, since := now, filter := 4000 * 2 ^ s.config.filterCode } } }) ∧
  (∀ pass : Pass, s.energised = 1 → s.scanner.pass = some pass → (∀ a ∈ pass.remaining, (s.bay a).state = .outOfService) →
    u = { v with
      scanner := { s.scanner with pass := none, conversion := none, discard := false }
      latch := { v.latch with stallTimer := none, guard := false } }) ∧
  u.lda c = false ∧ u.ldb c = false ∧
  ((∀ c' < 4, c' ≠ c → ∀ q, s.latch.channels.getD c' none = some q → q.door ≠ p.door) → u.lsel p.door = false)

/-- The state once a pulse has ended, the scanner and the states of the bays as before. -/
structure Ended (s : State) (c now : Nat) (v : State) : Prop where
  channels : v.latch.channels = s.latch.channels.setIfInBounds c none
  scanner : v.scanner = s.scanner
  config : v.config = s.config
  clock : v.clock = now
  states : ∀ b, (v.bay b).state = (s.bay b).state

/-- R80: the scanner goes on with the end of the last pulse. -/
theorem goesOn_resume {s v : State} {c now : Nat} {p : Pulse} (hc : c < 4) (hp : s.latch.channels.getD c none = some p)
    (h : Ended s c now v) : GoesOn s c now p v v.resumeScanner := by
  have hless : v.energised + 1 = s.energised := by
    rw [show v.energised = (s.setChannel c none).energised from Budgets.energised_congr h.channels]
    exact energised_setChannel_none hc hp
  have hfree : s.energised = 1 → v.heldOff = false := fun he => decide_eq_false (by omega)
  have hresumed : s.energised = 1 → v.resumeScanner = v.nextPair := fun he => by
    rw [State.resumeScanner, hfree he, if_neg Bool.false_ne_true]
  have hchannels : v.resumeScanner.latch.channels = (s.setChannel c none).latch.channels := by
    rw [(Acts.resumeScanner_aside v).channels]
    exact h.channels
  have hnone : v.resumeScanner.latch.channels.getD c none = none := by
    rw [hchannels, setChannel_getD none hc, if_pos rfl]
  refine ⟨fun hstays => ?_, fun pass past b rest he hpass hsplit hpast hb => ?_, fun pass he hpass hall => ?_, ?_, ?_, fun hother => ?_⟩
  · rw [State.resumeScanner]
    split
    · rfl
    · next hfree =>
      refine nextPair_no_pass (h.scanner ▸ hstays.resolve_left fun hmore => hfree (decide_eq_true ?_))
      omega
  · rw [hresumed he, nextPair_begins (hfree he) (by rw [h.scanner, hpass]) hsplit (fun a ha => (h.states a).trans (hpast a ha))
      (by rw [h.states]; exact hb), h.clock, State.filterTime, h.config, h.scanner]
  · rw [hresumed he, nextPair_ends (hfree he) (by rw [h.scanner, hpass]) fun a ha => (h.states a).trans (hall a ha),
      State.endPass, State.dropConversion, State.clearStall]
    dsimp only
    rw [h.scanner]
  · rw [State.lda, hnone]
    exact Bool.and_false _
  · rw [State.ldb, hnone]
    exact Bool.and_false _
  · rw [lsel_eq, pulseRuns_of_channels hchannels, not_pulseRuns_setChannel_none hc hother]
    exact Bool.and_false _

/-! ### The two ends -/

section Ends

variable {s : State} {c d : Nat}

theorem pulseOver_eq {p : Pulse} {a : LatchAction} (hp : s.latch.channels.getD c none = some p) :
    s.pulseOver c a = if p.action = a ∧ p.startedAt + p.length ≤ s.clock then some p else none := by
  rw [State.pulseOver, hp]
  exact if_congr (and_congr_right fun _ => Rows.elapsed_iff) rfl rfl

theorem exec_unlockEnd {p : Pulse} (t : Nat) (hr : s.running = true) (hc : c < 4) (hp : s.latch.channels.getD c none = some p) :
    exec (.unlockPulseEnd c t) s = .next (if p.action = .unlock ∧ p.startedAt + p.length ≤ max s.clock t then
      (s.advance t).endUnlock c p.door else s.advance t) := by
  have hover := pulseOver_eq (s := s.advance t) (a := .unlock) hp
  refine (Rows.exec_channelAt t hr hc fun s => match s.pulseOver c .unlock with
    | some p => s.endUnlock c p.door
    | none => s).trans (congrArg _ ?_)
  rw [hover, show (s.advance t).clock = max s.clock t from rfl]
  by_cases h : p.action = .unlock ∧ p.startedAt + p.length ≤ max s.clock t
  · rw [if_pos h, if_pos h]
  · rw [if_neg h, if_neg h]

theorem exec_lockEnd {p : Pulse} (t : Nat) (hr : s.running = true) (hc : c < 4) (hp : s.latch.channels.getD c none = some p) :
    exec (.lockPulseEnd c t) s = .next (if p.action = .lock ∧ p.startedAt + p.length ≤ max s.clock t then
      (s.advance t).endLock c p.door else s.advance t) := by
  have hover := pulseOver_eq (s := s.advance t) (a := .lock) hp
  refine (Rows.exec_channelAt t hr hc fun s => match s.pulseOver c .lock with
    | some p => s.endLock c p.door
    | none => s).trans (congrArg _ ?_)
  rw [hover, show (s.advance t).clock = max s.clock t from rfl]
  by_cases h : p.action = .lock ∧ p.startedAt + p.length ≤ max s.clock t
  · rw [if_pos h, if_pos h]
  · rw [if_neg h, if_neg h]

/-- The state with the pulse of channel `c` ended and the record of its door written. -/
def pulseEnded (s : State) (c d : Nat) (position : LatchPosition) (failed : Bool) (queue : List LatchRequest) : State :=
  { s with latch := { s.latch with
    channels := s.latch.channels.setIfInBounds c none, queue := queue
    records := s.latch.records.setIfInBounds d { position := position, openAfterFailedLock := failed } } }

/-- R145: the end of a LOCK pulse on a closed door. -/
theorem endLock_closed (h : (s.door d).closed = true) : s.endLock c d =
    (pulseEnded s c d .locked (s.latchRecord d).openAfterFailedLock s.latch.queue).resumeScanner :=
  congrArg State.resumeScanner (if_pos h)

/-- R145: the notice of a failed lock. -/
theorem raise_lockFailed (n : BayNotices) (d : Nat) : n.raise (.lockFailed (sideOfDoor d)) =
    if d % 2 = 0 then { n with lockFailedFront := true } else { n with lockFailedRear := true } := by
  unfold sideOfDoor
  split <;> rfl

/-- R145: the notice sets once LOCK_FAILED is raised for a door. -/
def lockFailedNotices (s : State) (d : Nat) : Vector BayNotices 48 :=
  s.bayNotices.setIfInBounds (d / 2)
    (if d % 2 = 0 then { s.notices (d / 2) with lockFailedFront := true } else { s.notices (d / 2) with lockFailedRear := true })

/-- R145: the record, the channel and the notice at the end of a LOCK pulse on an open door. -/
theorem failed_eq (hd : d < 96) :
    (((s.setChannel c none).setLatchPosition d .unlocked).setOpenAfterFailedLock d true).raiseBay (bayOfDoor d)
        (.lockFailed (sideOfDoor d)) =
      { pulseEnded s c d .unlocked true s.latch.queue with bayNotices := lockFailedNotices s d } := by
  rw [State.raiseBay, raise_lockFailed, State.setOpenAfterFailedLock, setLatchPosition_record_self _ hd]
  simp only [State.setLatchPosition, State.setLatchRecord, setIfInBounds_twice]
  rfl

/-- R145: the end of a LOCK pulse on an open door, up to the waiting UNLOCK. -/
theorem endLock_open (hd : d < 96) (h : (s.door d).closed = false) : s.endLock c d =
    let u : State := { pulseEnded s c d .unlocked true s.latch.queue with bayNotices := lockFailedNotices s d }
    State.resumeScanner (match s.pendingFor d with
      | some r => if r.action = .unlock then (u.dropRequest d).unlockCompletion d else u
      | none => u) := by
  have hopen : ¬ ((s.setChannel c none).door d).closed = true := by
    rw [show ((s.setChannel c none).door d).closed = false from h]
    exact Bool.false_ne_true
  refine congrArg State.resumeScanner ((if_neg hopen).trans ?_)
  rw [State.lockFails]
  dsimp only
  rw [failed_eq hd]
  rfl

/-- R145: the end of a LOCK pulse on an open door with no UNLOCK waiting. -/
theorem endLock_failed (hd : d < 96) (h : (s.door d).closed = false) (hwait : ∀ r, s.pendingFor d = some r → r.action = .lock) :
    s.endLock c d = State.resumeScanner
      { pulseEnded s c d .unlocked true s.latch.queue with bayNotices := lockFailedNotices s d } := by
  rw [endLock_open hd h]
  refine congrArg State.resumeScanner ?_
  split
  · next r hr => rw [if_neg (by rw [hwait r hr]; decide)]
  · rfl

/-- R145: the end of a LOCK pulse on an open door with an UNLOCK waiting. -/
theorem endLock_failed_waiting {r : LatchRequest} (hd : d < 96) (h : (s.door d).closed = false) (hr : s.pendingFor d = some r)
    (ha : r.action = .unlock) :
    s.endLock c d = State.resumeScanner { pulseEnded s c d .unlocked true (s.latch.queue.filter (·.door ≠ d)) with
      bays := (s.unlockCompletion d).bays, bayNotices := lockFailedNotices s d } := by
  rw [endLock_open hd h, hr]
  refine congrArg State.resumeScanner ?_
  dsimp only
  rw [if_pos ha, State.unlockCompletion_frame, unlockCompletion_bays_congr (s := s)]
  · rfl
  · rfl
  · rfl
  · rfl

/-- R144: the end of an UNLOCK pulse. -/
theorem endUnlock_eq : s.endUnlock c d = State.resumeScanner
    { pulseEnded s c d .unlocked (s.latchRecord d).openAfterFailedLock s.latch.queue with bays := (s.unlockCompletion d).bays } := by
  refine congrArg State.resumeScanner ?_
  rw [State.unlockCompletion_frame, unlockCompletion_bays_congr (s := s)]
  · rfl
  · rfl
  · rfl
  · rfl

end Ends

/-- Settles O47: each end writes its record and channel, and the scanner goes on from there. -/
theorem pulsesEnd : Obligations.PulsesEnd := by
  unfold Obligations.PulsesEnd
  intro s c t p hr hc hd hp now ended goesOn hasRun kept notices
  have hgoes : ∀ v, Ended s c now v → goesOn v v.resumeScanner := fun v h => goesOn_resume hc hp h
  have completed : ∀ b, ((s.unlockCompletion p.door).bay b).state = (s.bay b).state := unlockCompletion_bay_state p.door
  have hbays : ((s.advance t).unlockCompletion p.door).bays = (s.unlockCompletion p.door).bays :=
    unlockCompletion_bays_congr (s := s) (t := s.advance t) rfl rfl rfl p.door
  refine ⟨fun h => ⟨?_, ?_⟩, fun ha h => ?_, fun ha h hclosed => ?_, fun ha h hopen hwait => ?_, fun r ha h hopen hwait hra => ?_⟩
  · rw [exec_unlockEnd t hr hc hp, if_neg fun hn => absurd hn.2 (Nat.not_le.mpr h)]
    rfl
  · rw [exec_lockEnd t hr hc hp, if_neg fun hn => absurd hn.2 (Nat.not_le.mpr h)]
    rfl
  · refine ⟨_, (exec_unlockEnd t hr hc hp).trans (congrArg _ (if_pos ⟨ha, h⟩)), ?_⟩
    rw [endUnlock_eq, hbays]
    exact hgoes _ ⟨rfl, rfl, rfl, rfl, completed⟩
  · refine ⟨_, (exec_lockEnd t hr hc hp).trans (congrArg _ (if_pos ⟨ha, h⟩)), ?_⟩
    rw [endLock_closed (s := s.advance t) hclosed]
    exact hgoes _ ⟨rfl, rfl, rfl, rfl, fun _ => rfl⟩
  · refine ⟨_, (exec_lockEnd t hr hc hp).trans (congrArg _ (if_pos ⟨ha, h⟩)), ?_⟩
    rw [endLock_failed (s := s.advance t) hd hopen hwait]
    exact hgoes _ ⟨rfl, rfl, rfl, rfl, fun _ => rfl⟩
  · refine ⟨_, (exec_lockEnd t hr hc hp).trans (congrArg _ (if_pos ⟨ha, h⟩)), ?_⟩
    rw [endLock_failed_waiting (s := s.advance t) hd hopen hwait hra, hbays]
    exact hgoes _ ⟨rfl, rfl, rfl, rfl, completed⟩

end Sys2Proof.Pulses
end

section

-- One proof at a time: the proofs here together ask for more threads than the memory limit leaves room for.
set_option Elab.async false

/-! The expiries of waiting and loading bays (R45, R51, R67 to R69). -/

namespace Sys2Proof.Expiries

open Sys2Proof Sys2Proof.Machine Sys2Proof.Courses

/-! ### The end of a bay's course (R7 to R9) -/

section Ends

variable {s : State} {b : Nat}

/-- R7: the end of a course is one change of record, the entry left, and at most the mark of R76. -/
theorem sendToVacant_shape : ∃ (f : Bay → Bay) (m : Bool), ((f (s.bay b)).state = .vacant ∨ (f (s.bay b)).state = .outOfService) ∧
    s.sendToVacant b = { (s.leaveEntry b).changeBay b f with
      scanner := { ((s.leaveEntry b).changeBay b f).scanner with discard := m } } := by
  have out : ∀ why, ∃ (f : Bay → Bay) (m : Bool), ((f (s.bay b)).state = .vacant ∨ (f (s.bay b)).state = .outOfService) ∧
      s.enterOutOfService b why = { (s.leaveEntry b).changeBay b f with
        scanner := { ((s.leaveEntry b).changeBay b f).scanner with discard := m } } :=
    fun why => ⟨(·.outOfService why), _, .inr rfl, State.markDiscard_frame _ b⟩
  unfold State.sendToVacant
  split
  · exact out .lockout
  · split
    · exact out .sensor
    · exact ⟨Bay.vacated, _, .inl rfl, rfl⟩

theorem sendToVacant_notices (c : Nat) : (s.sendToVacant b).notices c = s.notices c := by
  obtain ⟨f, m, -, h⟩ := sendToVacant_shape (s := s) (b := b)
  rw [h]
  refine (changeBay_notices (s := s.leaveEntry b) f c).trans ?_
  rw [State.leaveEntry_frame]
  rfl

/-- R130: the run of a bay that was heated is cut. -/
theorem sendToVacant_heater : (s.sendToVacant b).heater =
    if (s.bay b).state.heating then (s.cutRun b).heater else s.heater := by
  obtain ⟨f, m, hst, h⟩ := sendToVacant_shape (s := s) (b := b)
  have hcold : (f (s.bay b)).state.heating = false := by obtain h | h := hst <;> rw [h] <;> rfl
  have hleft : ((s.leaveEntry b).cutRun b).heater = (s.cutRun b).heater := by
    rw [State.leaveEntry_frame]
    rfl
  rw [h]
  refine (changeBay_heater (s := s.leaveEntry b) f).trans ?_
  rw [Acts.leaveEntry_bay, hcold, hleft, Bool.not_false, Bool.and_true, State.leaveEntry_frame]

/-- R6: the round of a bay of the profile group is dropped. -/
theorem sendToVacant_round (hb : b < 48) (group : (s.bay b).state.group = some .profile) :
    (s.sendToVacant b).scanner.rounds.getD b none = none := by
  obtain ⟨f, m, hst, h⟩ := sendToVacant_shape (s := s) (b := b)
  rw [h]
  refine (changeBay_round (s := s.leaveEntry b) f hb).trans (if_neg ?_)
  rw [Acts.leaveEntry_bay, group]
  obtain h | h := hst <;> rw [h] <;> decide

/-- What retires a bay reads its record and the directory. -/
theorem retired_congr {s' t : State} (bay : s'.bay b = s.bay b) (directory : s'.directory = s.directory) (h : Retired s' t b) :
    Retired s t b := by
  obtain ⟨hrecord, hdirectory⟩ := h
  rw [bay] at hrecord hdirectory
  rw [directory] at hdirectory
  exact ⟨hrecord, hdirectory⟩

theorem lapse_retired (hb : b < 48) : Retired s (s.lapse b) b :=
  retired_congr (s' := s.raiseBay b .lapsed) rfl rfl (sendToVacant_retired hb)

theorem lapse_notices (hb : b < 48) : (s.lapse b).notices b = { s.notices b with lapsed := true } :=
  (sendToVacant_notices b).trans (State.setNotices_notices_self _ _ _ hb)

theorem lapse_latch : (s.lapse b).latch = s.latch := sendToVacant_latch _ b

end Ends

/-! ### The preheat_start expiry and the lapse (R45, R51) -/

section Waiting

variable {s : State} {b : Nat}

/-- R45: a BOOKED bay enters PREHEATING, its round discarded. -/
theorem enterPreheating_eq (h : (s.bay b).state = .booked) : s.enterPreheating b = { s with
    bays := s.bays.setIfInBounds b { s.bay b with state := .preheating, preheatStart := none, lastTemp := none, demand := 16 }
    scanner := { s.scanner with rounds := s.scanner.rounds.setIfInBounds b none } } := by
  rw [State.enterPreheating, State.changeBay_frame, h]
  rfl

/-- Settles O23: each expiry by whether its bay watches it and bank time has reached it. -/
theorem waitingBayExpiries : Obligations.WaitingBayExpiries := by
  unfold Obligations.WaitingBayExpiries
  refine ⟨fun s b hr hb => ⟨fun p hst hp hreached => ?_, fun h => ?_⟩, ?_⟩
  · have htaken : s.takePreheatStart b = s.enterPreheating b := by
      rw [State.takePreheatStart, if_pos hst, State.preheatIfReached, hp, Completions.reached_some.mpr hreached, if_pos rfl]
    exact (Completions.exec_expiry hr hb (·.takePreheatStart b)).trans (congrArg _ (htaken.trans (enterPreheating_eq hst)))
  · refine (Completions.exec_expiry hr hb (·.takePreheatStart b)).trans (congrArg _ ?_)
    rw [State.takePreheatStart]
    split
    · next hst =>
      rw [State.preheatIfReached, Completions.not_reached_of_ahead (h.resolve_left fun hne => hne hst)]
      rfl
    · rfl
  · intro s b hr hb waits
    have hexec : exec (.lapseExpiry b) s = .next (s.takeLapse b) := Completions.exec_expiry hr hb (·.takeLapse b)
    refine ⟨fun l hw hl hreached => ?_, fun h => ?_⟩
    · have htaken : s.takeLapse b = s.lapse b := by
        rw [State.takeLapse, watchesLapse_iff.mpr hw, hl, Completions.reached_some.mpr hreached]
        rfl
      rw [hexec, htaken]
      refine ⟨_, rfl, (lapse_course (g := ⟨True, True⟩) (not_handed_of_waiting hw)).onlyBays, lapse_retired hb, lapse_notices hb,
        lapse_latch, fun hne => ?_⟩
      have hheats : (s.bay b).state.heating = true ∧ (s.bay b).state.group = some .profile := by
        obtain h | h | h := hw
        · exact absurd h hne
        · rw [h]; exact ⟨rfl, rfl⟩
        · rw [h]; exact ⟨rfl, rfl⟩
      have hheater : (s.lapse b).heater = (s.cutRun b).heater :=
        (sendToVacant_heater (s := s.raiseBay b .lapsed)).trans (if_pos hheats.1)
      refine ⟨?_, ?_, sendToVacant_round (s := s.raiseBay b .lapsed) hb hheats.2⟩
      · rw [State.gate, hheater, (s.cutRun_off b).1]
        exact Bool.and_false _
      · rw [hheater]
        exact (s.cutRun_off b).2
    · rw [hexec, State.takeLapse, if_neg]
      rw [Bool.and_eq_true, watchesLapse_iff]
      rintro ⟨hw, hreached⟩
      obtain h | h := h
      · exact h hw
      · rw [Completions.not_reached_of_ahead h] at hreached
        cases hreached

end Waiting

/-! ### The load window (R67 to R69) -/

section Window

variable {s : State} {b : Nat}

/-- R67: whether a returning bay is warm enough. -/
theorem warmEnough_iff : s.warmEnough b = true ↔
    ∃ x, (s.bay b).lastTemp = some x ∧ (s.boundProfile b).setpoint - (s.boundProfile b).margin ≤ x := by
  rw [State.warmEnough]
  cases (s.bay b).lastTemp <;> simp

theorem reached_iff {o : Option Nat} : s.reached o = true ↔ ∃ e, o = some e ∧ e ≤ s.bankTime := by
  cases o <;> simp [State.reached]

/-- R67: the state a LOADING bay returns to. -/
def returned (s : State) (b : Nat) (st : BayState) : State :=
  withLatch (s.setBay b { s.bay b with state := st, timer := none, demand := 16 }) (s.requestLock (2 * b + 1)).latch

/-- R67: a LOADING bay returns with the LOCK of its rear requested. -/
theorem returned_eq (hst : (s.bay b).state = .loading) (st : BayState) (heats : st.heating = true) (group : st.group = some .profile) :
    ((s.requestLock (doorOf b .rear)).changeBay b fun r => { r with state := st, timer := none }) = returned s b st := by
  rw [requestLock_eq_withLatch, changeBay_withLatch, State.changeBay_frame, hst]
  dsimp only
  rw [show BayState.loading.group = st.group from group.symm, if_pos rfl, show BayState.loading.heating = false from rfl,
    Bool.false_and, if_neg Bool.false_ne_true, demandAfter, heats]
  rfl

/-- R67, R69: the abandoned loading, warm or not. -/
theorem abandonLoading_eq (hst : (s.bay b).state = .loading) (hb : b < 48) : s.abandonLoading b =
    let u := if s.warmEnough b then (returned s b .ready).raiseBay b .ready else returned s b .preheating
    if s.reached (s.bay b).lapseAt then u.lapse b else u := by
  have hbay : ∀ st, (returned s b st).bay b = { s.bay b with state := st, timer := none, demand := 16 } :=
    fun st => s.setBay_bay_self b _ hb
  rw [State.abandonLoading]
  cases s.warmEnough b
  · simp only [Bool.false_eq_true, if_false]
    rw [returned_eq hst _ rfl rfl, hbay]
    rfl
  · simp only [if_true]
    rw [returned_eq hst _ rfl rfl, raiseBay_bay, hbay]
    rfl

end Window

/-- Settles O25: the window by rear_opened, the return by the last temperature, and the lapse reached meanwhile. -/
theorem loadWindowExpiry : Obligations.LoadWindowExpiry := by
  unfold Obligations.LoadWindowExpiry
  refine ⟨fun s b hr hb h => ?_, ?_⟩
  · refine (Completions.exec_expiry hr hb (·.takeLoadWindow b)).trans (congrArg _ ?_)
    rw [State.takeLoadWindow, if_neg]
    rintro ⟨hst, hreached⟩
    rw [Completions.not_reached_of_ahead (h.resolve_left fun hne => hne hst)] at hreached
    cases hreached
  · intro s b w hr hb hst hw p warm lapsed
    have hexec : exec (.loadWindowExpiry b) s = .next (s.takeLoadWindow b) := Completions.exec_expiry hr hb (·.takeLoadWindow b)
    have htaken : w ≤ s.bankTime → s.takeLoadWindow b = s.loadWindowEnds b := fun h => by
      rw [State.takeLoadWindow, if_pos ⟨hst, by rw [hw]; exact Completions.reached_some.mpr h⟩]
    refine ⟨fun h hopened => ?_, fun h hopened => ?_⟩
    · rw [hexec, htaken h, State.loadWindowEnds, hopened, if_pos rfl]
      rfl
    · have hended : s.takeLoadWindow b = s.abandonLoading b := by
        rw [htaken h, State.loadWindowEnds, hopened, if_neg Bool.false_ne_true]
      have honly : OnlyBays s (s.takeLoadWindow b) [b] := by
        rw [hended]
        exact (abandonLoading_course (g := ⟨True, True⟩) hst).onlyBays
      have hbay : ∀ st, (returned s b st).bay b = { s.bay b with state := st, timer := none, demand := 16 } :=
        fun st => s.setBay_bay_self b _ hb
      have hnotices : ∀ st, ((returned s b st).raiseBay b .ready).notices b = { s.notices b with ready := true } :=
        fun st => State.setNotices_notices_self _ _ _ hb
      have hwarm : s.warmEnough b = true ↔ warm := warmEnough_iff
      have hlapsed : s.reached (s.bay b).lapseAt = true ↔ lapsed := reached_iff
      have hret : Retired { s with bays := s.bays.setIfInBounds b { s.bay b with timer := none } } =
          Retired (s.setBay b { s.bay b with timer := none }) := rfl
      have hplain : (s.setBay b { s.bay b with timer := none }).bay b = { s.bay b with timer := none } := s.setBay_bay_self b _ hb
      have retires : ∀ (u : State) st, u.bay b = { s.bay b with state := st, timer := none, demand := 16 } → u.directory = s.directory →
          Retired (s.setBay b { s.bay b with timer := none }) (u.lapse b) b := fun u st hu hd => by
        obtain ⟨hrecord, hdirectory⟩ := lapse_retired (s := u) hb
        rw [hu] at hrecord hdirectory
        rw [hd] at hdirectory
        refine ⟨hrecord.trans ?_, hdirectory.trans ?_⟩
        · rw [hplain]
        · rw [hplain]
          rfl
      have hform := abandonLoading_eq hst hb
      dsimp only at hform
      rw [hret, hexec, hended, hform]
      rw [hended, hform] at honly
      clear hret hform hended htaken
      by_cases hw' : warm
      · rw [if_pos (hwarm.mpr hw')] at honly ⊢
        by_cases hl : lapsed
        · rw [if_pos (hlapsed.mpr hl)] at honly ⊢
          refine ⟨_, rfl, honly, lapse_latch, fun hn => absurd hl hn, fun _ => ⟨retires _ .ready (hbay .ready) rfl, fun _ => ?_,
            fun hn => absurd hw' hn⟩⟩
          rw [lapse_notices hb, hnotices]
        · rw [if_neg fun h => hl (hlapsed.mp h)] at honly ⊢
          exact ⟨_, rfl, honly, rfl, fun _ => ⟨rfl, rfl, rfl, fun _ => ⟨hbay .ready, hnotices .ready⟩, fun hn => absurd hw' hn⟩,
            fun h => absurd h hl⟩
      · rw [if_neg fun h => hw' (hwarm.mp h)] at honly ⊢
        by_cases hl : lapsed
        · rw [if_pos (hlapsed.mpr hl)] at honly ⊢
          exact ⟨_, rfl, honly, lapse_latch, fun hn => absurd hl hn, fun _ => ⟨retires _ .preheating (hbay .preheating) rfl,
            fun h => absurd h hw', fun _ => lapse_notices hb⟩⟩
        · rw [if_neg fun h => hl (hlapsed.mp h)] at honly ⊢
          exact ⟨_, rfl, honly, rfl, fun _ => ⟨rfl, rfl, rfl, fun h => absurd h hw', fun _ => ⟨hbay .preheating, rfl⟩⟩,
            fun h => absurd h hl⟩

end Sys2Proof.Expiries
end

section

-- One proof at a time: the proofs here together ask for more threads than the memory limit leaves room for.
set_option Elab.async false

/-! Door closings (R65, R66, R146, R166, R181): the hold, the end of a collection or of a clearing, and the relock test. -/

namespace Sys2Proof.Closings

open Sys2Proof Sys2Proof.Machine Sys2Proof.Courses Sys2Proof.Acts Sys2Proof.Latches Sys2Proof.Expiries

/-! ### The queue after a request that is made twice (R141) -/

section Twice

variable {s : State} {d : Nat}

theorem filter_eq_of_free {q : List LatchRequest} (h : ∀ r ∈ q, r.door ≠ d) : q.filter (·.door ≠ d) = q :=
  List.filter_eq_self.mpr fun r hr => decide_eq_true (h r hr)

/-- In an ordered queue a request taken out and put back has its old place. -/
theorem insertRequest_filter {r : LatchRequest} {q : List LatchRequest} (order : q.Pairwise fun a b => a.precedes b = true)
    (doors : q.Pairwise fun a b => a.door ≠ b.door) (hr : r ∈ q) : insertRequest r (q.filter (·.door ≠ r.door)) = q := by
  induction q with
  | nil => cases hr
  | cons x xs ih =>
    obtain ⟨hx, hxs⟩ := List.pairwise_cons.mp order
    obtain ⟨hxd, hxsd⟩ := List.pairwise_cons.mp doors
    obtain rfl | hr := List.mem_cons.mp hr
    · rw [List.filter_cons_of_neg (by simp), filter_eq_of_free fun y hy => (hxd y hy).symm]
      cases xs with
      | nil => rfl
      | cons y ys => rw [insertRequest, if_pos (hx y (List.mem_cons_self ..))]
    · have hlater : ¬ r.precedes x = true := fun hrx => by
        have hxr := hx r hr
        rw [precedes_iff] at hrx hxr
        omega
      rw [List.filter_cons_of_pos (by simpa using hxd r hr), insertRequest, if_neg hlater, ih hxs hxsd hr]

/-- R141: a request merged into a pending one of its own class or a higher one leaves an ordered queue as it is. -/
theorem mergeRequest_latch {r : LatchRequest} {c : RequestClass} (hq : s.QueueOrdered) (hr : r ∈ s.latch.queue)
    (cls : r.cls.higher c = r.cls) : (s.mergeRequest r c).latch = s.latch := by
  have hqueue : insertRequest { r with cls := r.cls.higher c } (s.latch.queue.filter (·.door ≠ r.door)) = s.latch.queue := by
    rw [cls]
    exact insertRequest_filter hq.order hq.doors hr
  rw [State.mergeRequest]
  simp only [State.dropRequest, State.setLatchQueue_latch, hqueue]

theorem requestLock_of_pending {r : LatchRequest} (hq : s.QueueOrdered) (hside : (s.latchPosition d).side = .unlock)
    (hp : s.pendingFor d = some r) (cls : r.cls = .lock) : (s.requestLock d).latch = s.latch := by
  rw [State.requestLock, request_of_pending .lock (by rw [hside]; decide) hp]
  exact mergeRequest_latch hq (pendingFor_some hp).1 (by rw [cls]; rfl)

theorem pendingFor_insert {r : LatchRequest} (hd : r.door = d) (hp : s.pendingFor d = none) :
    (s.setLatchQueue (insertRequest r s.latch.queue)).pendingFor d = some r := by
  have hfree := pendingFor_none hp
  unfold State.pendingFor
  rw [State.setLatchQueue_latch]
  generalize s.latch.queue = q at hfree ⊢
  dsimp only
  induction q with
  | nil => simp [insertRequest, hd]
  | cons x xs ih =>
    unfold insertRequest
    split
    · rw [List.find?_cons_of_pos (by simp [hd])]
    · rw [List.find?_cons_of_neg (by simpa using hfree x (List.mem_cons_self ..)), ih fun r hr => hfree r (List.mem_cons_of_mem _ hr)]

/-- R141: a LOCK requested again, the first on no pending request, changes nothing more. -/
theorem requestLock_twice (hside : (s.latchPosition d).side = .unlock) (hp : s.pendingFor d = none) :
    ((s.enqueue d .lock .lock).requestLock d).latch = (s.enqueue d .lock .lock).latch := by
  have hside' : LatchAction.lock ≠ ((s.enqueue d .lock .lock).latchPosition d).side := by
    rw [show (s.enqueue d .lock .lock).latchPosition d = s.latchPosition d from rfl, hside]
    decide
  have hpending : (s.enqueue d .lock .lock).pendingFor d =
      some { door := d, action := .lock, cls := .lock, arrival := s.latch.nextArrival } := pendingFor_insert rfl hp
  have hfilter : (s.enqueue d .lock .lock).latch.queue.filter (·.door ≠ d) = s.latch.queue :=
    (filter_insertRequest s.latch.queue (by simp)).trans (filter_eq_of_free (pendingFor_none hp))
  rw [State.requestLock, request_of_pending .lock hside' hpending, State.mergeRequest]
  simp only [State.dropRequest, State.setLatchQueue_latch, hfilter]
  rfl

end Twice

/-! ### Requests against other flags of the records -/

/-- A state with other latch records. -/
def withRecords (s : State) (r : Vector LatchRecord 96) : State := { s with latch := { s.latch with records := r } }

section Records

variable (s : State) (r : Vector LatchRecord 96) (d : Nat)

theorem withdrawRequest_withRecords (a : LatchAction) :
    (withRecords s r).withdrawRequest d a = withRecords (s.withdrawRequest d a) r := by
  unfold State.withdrawRequest
  rw [show (withRecords s r).pendingFor d = s.pendingFor d from rfl]
  split
  · split <;> rfl
  · rfl

/-- R141: a LOCK request reads of the records the position of its door alone. -/
theorem requestLock_withRecords (h : (withRecords s r).latchPosition d = s.latchPosition d) :
    (withRecords s r).requestLock d = withRecords (s.requestLock d) r := by
  unfold State.requestLock State.request
  rw [show (withRecords s r).pendingFor d = s.pendingFor d from rfl, h]
  split
  · split
    · split
      · next hp => rw [if_pos (show s.pulseRuns d = true from hp)]
      · next hp => rw [if_neg (show ¬ s.pulseRuns d = true from hp)]; rfl
    · rfl
  · split
    · dsimp only
      split
      · next hp => rw [if_pos (show s.pulseRuns d = true from hp)]; rfl
      · next hp => rw [if_neg (show ¬ s.pulseRuns d = true from hp)]; rfl
    · rfl

end Records

/-! ### The step of a closing (R136) -/

/-- A state with other doors. -/
def withDoors (s : State) (r : Vector Door 96) : State := { s with doors := r }

theorem onlyBays_withDoors {s t : State} {bs : List Nat} (r : Vector Door 96) (h : OnlyBays s t bs) :
    OnlyBays (withDoors s r) (withDoors t r) bs := by
  obtain ⟨hall, hkept, hmark⟩ := h
  refine ⟨?_, fun b hb => ?_, hmark⟩
  · unfold BaysOnly at hall ⊢
    exact congrArg (withDoors · r) hall
  · obtain ⟨h1, h2, h3, h4, h5, h6⟩ := hkept b hb
    exact ⟨h1, h2, h3, h4, h5, h6⟩

section Closing

variable {s : State} {d : Nat}

/-- The doors once a closing's step is over. -/
def closedDoors (s : State) (d : Nat) : Vector Door 96 :=
  s.doors.setIfInBounds d { closed := true, candidate := none, alarm := none }

/-- R136: the closing's step: the door closed, the Hold Table's part, the relock test, the alarm ended. -/
theorem doorClosedStep_eq (hd : d < 96) : s.doorClosedStep d =
    withDoors (((closedDoor s d).closedOnBay (bayOfDoor d) (sideOfDoor d)).relockTest d) (closedDoors s d) := by
  have hcourse : BaysOnly (closedDoor s d) (((closedDoor s d).closedOnBay (bayOfDoor d) (sideOfDoor d)).relockTest d) :=
    ((closedOnBay_course (g := ⟨True, False⟩) _ False.elim).trans (relockTest_course _ d rfl hd)).baysOnly
  have hstep : s.doorClosedStep d =
      (((closedDoor s d).closedOnBay (bayOfDoor d) (sideOfDoor d)).relockTest d).setDoor d
        { (((closedDoor s d).closedOnBay (bayOfDoor d) (sideOfDoor d)).relockTest d).door d with alarm := none } := rfl
  rw [hstep]
  generalize ((closedDoor s d).closedOnBay (bayOfDoor d) (sideOfDoor d)).relockTest d = w at hcourse ⊢
  have hdoor : w.door d = { s.door d with closed := true, candidate := none } := by
    rw [hcourse.door]
    exact State.setDoor_door_self _ d _ hd
  rw [hdoor, State.setDoor, hcourse.doors]
  simp only [closedDoor, State.setOpenAfterFailedLock, State.setLatchRecord_doors, State.setDoor, setIfInBounds_twice]
  rfl

/-- A closing that has stood its 40 ms. -/
theorem exec_doorClosed {x : Nat} (t : Nat) (hr : s.running = true) (hd : d < 96)
    (hc : (s.door d).candidate = some { closed := true, since := x }) (hx : x + 40000 ≤ max s.clock t) :
    exec (.doorClosed d t) s = .next (withDoors
      (((closedDoor (s.advance t) d).closedOnBay (bayOfDoor d) (sideOfDoor d)).relockTest d) (closedDoors s d)) := by
  have hsettled : (s.advance t).settled d true = true := by
    rw [State.settled, State.advance_door, hc, Option.any_some,
      (Rows.elapsed_iff (s := s.advance t) (n := debounceTime)).mpr hx]
    rfl
  refine (Rows.exec_doorAt t hr hd fun s => if s.settled d true then s.doorClosedStep d else s).trans (congrArg _ ?_)
  rw [if_pos hsettled, doorClosedStep_eq hd]
  rfl

/-- The records with the mark of a failed lock cleared. -/
def clearedRecords (s : State) (d : Nat) : Vector LatchRecord 96 :=
  s.latch.records.setIfInBounds d { position := s.latchPosition d, openAfterFailedLock := false }

/-- The Latch Arbiter with the door closed, of a state with the arbiter of `s`. -/
theorem closedDoor_latch {v : State} (h : v.latch = s.latch) :
    (closedDoor v d).latch = (withRecords s (clearedRecords s d)).latch := by
  have hrecord : v.latchRecord d = s.latchRecord d := latchRecord_congr h d
  have hwritten : (closedDoor v d).latch =
      { v.latch with records := v.latch.records.setIfInBounds d { v.latchRecord d with openAfterFailedLock := false } } := rfl
  rw [hwritten, hrecord, h]
  rfl

theorem closedDoor_position (hd : d < 96) (e : Nat) : (closedDoor s d).latchPosition e = s.latchPosition e := by
  rw [closedDoor, setOpenAfterFailedLock_position _ _ _ hd]
  rfl

theorem cleared_position (hd : d < 96) (e : Nat) : (withRecords s (clearedRecords s d)).latchPosition e = s.latchPosition e := by
  rw [← closedDoor_position (s := s) hd e]
  rfl

theorem closedDoor_requestLock {v : State} (h : v.latch = s.latch) (hd : d < 96) : ((closedDoor v d).requestLock d).latch =
    { (s.requestLock d).latch with records := clearedRecords s d } := by
  rw [requestLock_latch_congr (closedDoor_latch (d := d) h), requestLock_withRecords s _ d (cleared_position hd d)]
  rfl

theorem closedDoor_withdrawRequest {v : State} (h : v.latch = s.latch) (a : LatchAction) :
    ((closedDoor v d).withdrawRequest d a).latch =
    { (s.withdrawRequest d a).latch with records := clearedRecords s d } := by
  rw [withdrawRequest_latch_congr (closedDoor_latch (d := d) h), withdrawRequest_withRecords]
  rfl

/-- R142: the waiting UNLOCK withdrawn, and a LOCK requested. -/
theorem closedDoor_withdraw_requestLock {v : State} (h : v.latch = s.latch) (hd : d < 96) (a : LatchAction) :
    (((closedDoor v d).withdrawRequest d a).requestLock d).latch =
    { ((s.withdrawRequest d a).requestLock d).latch with records := clearedRecords s d } := by
  have hlatch : ((closedDoor v d).withdrawRequest d a).latch = (withRecords (s.withdrawRequest d a) (clearedRecords s d)).latch :=
    closedDoor_withdrawRequest h a
  have hposition : (withRecords (s.withdrawRequest d a) (clearedRecords s d)).latchPosition d = (s.withdrawRequest d a).latchPosition d := by
    rw [withdrawRequest_position]
    exact cleared_position hd d
  rw [requestLock_latch_congr hlatch, requestLock_withRecords _ _ d hposition]
  rfl

/-! ### The relock test (R146) -/

theorem relockTest_requests (h : (s.latchPosition d).side = .unlock) (hk : s.keepsUnlocked (bayOfDoor d) (sideOfDoor d) = false) :
    s.relockTest d = s.requestLock d := if_pos ⟨h, hk⟩

theorem relockTest_of_locked (h : (s.latchPosition d).side = .lock) : s.relockTest d = s := if_neg fun hn => by
  rw [h] at hn
  exact absurd hn.1 (by decide)

theorem relockTest_of_kept (h : s.keepsUnlocked (bayOfDoor d) (sideOfDoor d) = true) : s.relockTest d = s := if_neg fun hn => by
  rw [h] at hn
  exact absurd hn.2 (by decide)

end Closing

/-! ### The end of a collection, and the closings that end nothing (R146, R166) -/

theorem side_lock {p : LatchPosition} (h : p = .locked ∨ p = .locking) : p.side = .lock := Completions.side_eq_lock_iff.mpr h

theorem side_unlock {p : LatchPosition} (h : p = .unlocked ∨ p = .unlocking) : p.side = .unlock := Completions.side_eq_unlock_iff.mpr h

theorem sendToVacant_state {s : State} {b : Nat} (hb : b < 48) :
    ((s.sendToVacant b).bay b).state = .vacant ∨ ((s.sendToVacant b).bay b).state = .outOfService := by
  rw [(sendToVacant_retired hb).record]
  dsimp only
  split
  · exact .inr rfl
  · exact .inl rfl

/-- R166: the end of a collection, on the state with the door closed. -/
theorem endCollection_facts {u : State} {b : Nat} (hb : b < 48) (hst : (u.bay b).state = .collecting) :
    Retired u (u.endCollection b) b ∧ (u.endCollection b).notices b = { u.notices b with collected := true } ∧
      (u.endCollection b).heater = u.heater ∧ (u.endCollection b).latch = (u.withdrawRequest (2 * b) .unlock).latch ∧
      (((u.endCollection b).bay b).state = .vacant ∨ ((u.endCollection b).bay b).state = .outOfService) := by
  have hwithdrawn : u.endCollection b = withLatch ((u.raiseBay b .collected).sendToVacant b) (u.endCollection b).latch :=
    withdrawRequest_eq_withLatch _ _ _
  have hlatch : (u.endCollection b).latch = (u.withdrawRequest (2 * b) .unlock).latch :=
    withdrawRequest_latch_congr (s := (u.raiseBay b .collected).sendToVacant b) (t := u) (sendToVacant_latch _ b) _ _
  have hretired : Retired u ((u.raiseBay b .collected).sendToVacant b) b :=
    retired_congr (s' := u.raiseBay b .collected) rfl rfl (sendToVacant_retired hb)
  have hheater : ((u.raiseBay b .collected).sendToVacant b).heater = u.heater := by
    rw [sendToVacant_heater, raiseBay_bay, hst]
    rfl
  refine ⟨?_, ?_, ?_, hlatch, ?_⟩
  · rw [hwithdrawn]
    exact ⟨hretired.record, hretired.directory⟩
  · rw [hwithdrawn]
    exact (sendToVacant_notices b).trans (State.setNotices_notices_self _ _ _ hb)
  · rw [hwithdrawn]
    exact hheater
  · rw [hwithdrawn]
    exact sendToVacant_state hb

/-- Settles O44: the front close of a COLLECTING bay, and the relock test of a close on which the Hold Table does nothing. -/
theorem frontCloseEndsCollection : Obligations.FrontCloseEndsCollection := by
  unfold Obligations.FrontCloseEndsCollection
  intro s d x t hr hd hc hx b r cleared base toLocked toUnlocked kept
  have hb : b < 48 := by omega
  generalize hclosed : closedDoor (s.advance t) d = u
  have hbay : ∀ c, u.bay c = s.bay c := fun c => by rw [← hclosed]; rfl
  have hposition : u.latchPosition d = s.latchPosition d := by rw [← hclosed]; exact closedDoor_position (s := s.advance t) hd d
  have hbase : withDoors u (closedDoors s d) = base := by
    rw [← hclosed]
    simp only [closedDoor, State.setOpenAfterFailedLock, State.setLatchRecord, State.setDoor, withDoors]
    rfl
  have hexec : exec (.doorClosed d t) s =
      .next (withDoors ((u.closedOnBay (bayOfDoor d) (sideOfDoor d)).relockTest d) (closedDoors s d)) := by
    rw [← hclosed]
    exact exec_doorClosed t hr hd hc hx
  have honly : OnlyBays base (withDoors ((u.closedOnBay (bayOfDoor d) (sideOfDoor d)).relockTest d) (closedDoors s d)) [b] := by
    rw [← hbase]
    exact onlyBays_withDoors _ ((closedOnBay_course (g := ⟨True, False⟩) _ False.elim).trans
      (relockTest_course _ d rfl hd)).onlyBays
  refine ⟨fun hfront hst => ?_, fun hcase => ?_⟩
  · have hside : sideOfDoor d = .front := if_pos hfront
    have hdoor : d = 2 * b := by omega
    have hended : u.closedOnBay (bayOfDoor d) (sideOfDoor d) = u.endCollection b := by
      rw [hside]
      exact if_pos (by rw [show bayOfDoor d = b from rfl, hbay]; exact hst)
    obtain ⟨hretired, hnotices, hheater, hlatch, hstate⟩ := endCollection_facts (u := u) hb (by rw [hbay]; exact hst)
    have hretired' : Retired s (u.endCollection b) b := retired_congr (s' := u) (hbay b) (by rw [← hclosed]; rfl) hretired
    have hkept : (u.endCollection b).keepsUnlocked (bayOfDoor d) (sideOfDoor d) = false := by
      rw [hside]
      refine decide_eq_false ?_
      rw [show bayOfDoor d = b from rfl]
      obtain h | h := hstate <;> rw [h] <;> decide
    have hside' : (u.endCollection b).latchPosition d = s.latchPosition d := by
      rw [latchPosition_congr hlatch, ← hdoor, withdrawRequest_position, hposition]
    have hlatch' : (u.endCollection b).latch = { (s.withdrawRequest d .unlock).latch with records := cleared } := by
      rw [hlatch, ← hdoor, ← hclosed]
      exact closedDoor_withdrawRequest (s := s) (v := s.advance t) rfl .unlock
    rw [hexec, hended] 
    rw [hended] at honly
    have hcases : (u.endCollection b).relockTest d = u.endCollection b ∨
        (u.endCollection b).relockTest d = (u.endCollection b).requestLock d := by
      unfold State.relockTest
      split
      · exact .inr rfl
      · exact .inl rfl
    have hwritten : ∃ l, (u.endCollection b).relockTest d = withLatch (u.endCollection b) l := by
      obtain h | h := hcases
      · exact ⟨(u.endCollection b).latch, h⟩
      · exact ⟨_, h.trans (requestLock_eq_withLatch _ d)⟩
    refine ⟨_, rfl, honly, ?_, ?_, ?_, fun h => ?_, fun h => ?_⟩
    · obtain ⟨l, hl⟩ := hwritten
      rw [hl]
      exact ⟨hretired'.record, hretired'.directory⟩
    · obtain ⟨l, hl⟩ := hwritten
      rw [hl]
      refine hnotices.trans ?_
      rw [← hclosed]
      rfl
    · obtain ⟨l, hl⟩ := hwritten
      rw [hl]
      refine hheater.trans ?_
      rw [← hclosed]
      rfl
    · rw [relockTest_requests (by rw [hside']; exact side_unlock h) hkept]
      refine (requestLock_latch_congr (t := u.withdrawRequest d .unlock) (hlatch.trans (by rw [← hdoor])) d).trans ?_
      rw [← hclosed]
      exact closedDoor_withdraw_requestLock (s := s) (v := s.advance t) rfl hd .unlock
    · rw [relockTest_of_locked (by rw [hside']; exact side_lock h)]
      exact hlatch'
  · have hnothing : u.closedOnBay (bayOfDoor d) (sideOfDoor d) = u := by
      obtain ⟨hfront, hst⟩ | ⟨hrear, hclear, hload⟩ := hcase
      · rw [show sideOfDoor d = .front from if_pos hfront]
        exact if_neg (by rw [show bayOfDoor d = b from rfl, hbay]; exact hst)
      · rw [show sideOfDoor d = .rear from if_neg (by omega)]
        refine (if_neg ?_).trans (if_neg ?_)
        · rw [show bayOfDoor d = b from rfl, hbay]
          rintro ⟨h, ho⟩
          rw [hload h] at ho
          cases ho
        · rw [show bayOfDoor d = b from rfl, hbay, hclear]
          exact Bool.false_ne_true
    have hkept : u.keepsUnlocked (bayOfDoor d) (sideOfDoor d) = decide kept := by
      obtain ⟨hfront, hst⟩ | ⟨hrear, hclear, hload⟩ := hcase
      · rw [show sideOfDoor d = .front from if_pos hfront, State.keepsUnlocked, show bayOfDoor d = b from rfl, hbay]
        exact decide_eq_decide.mpr (by rw [show kept = _ from if_pos hfront])
      · rw [show sideOfDoor d = .rear from if_neg (by omega), State.keepsUnlocked, show bayOfDoor d = b from rfl, hbay, hclear,
          Bool.or_false]
        exact decide_eq_decide.mpr (by rw [show kept = _ from if_neg (by omega)])
    rw [hexec, hnothing]
    refine ⟨fun h hk => congrArg _ ?_, fun h => congrArg _ ?_⟩
    · rw [relockTest_requests (by rw [hposition]; exact side_unlock h) (hkept.trans (decide_eq_false hk)), requestLock_eq_withLatch,
        ← hbase, ← hclosed, closedDoor_requestLock (s := s) (v := s.advance t) rfl hd]
      rfl
    · rw [← hbase]
      refine congrArg (withDoors · _) ?_
      obtain h | hk := h
      · exact relockTest_of_locked (by rw [hposition]; exact side_lock h)
      · exact relockTest_of_kept (hkept.trans (decide_eq_true hk))

end Sys2Proof.Closings
end

section

-- One proof at a time: the proofs here together ask for more threads than the memory limit leaves room for.
set_option Elab.async false

/-! The rear close that begins a hold (R65, R66). -/

namespace Sys2Proof.Closings

open Sys2Proof Sys2Proof.Machine Sys2Proof.Courses Sys2Proof.Acts Sys2Proof.Latches Sys2Proof.Expiries

/-! ### A LOCK requested once or twice -/

/-- The Latch Arbiter after a LOCK was requested for a door (R139, R141). -/
structure LockRequested (s : State) (d : Nat) (l : LatchArbiter) : Prop where
  rest : l = { s.latch with queue := l.queue, nextArrival := l.nextArrival }
  joins : (s.latchPosition d).side = .unlock → s.pendingFor d = none →
    l.queue = (s.enqueue d .lock .lock).latch.queue ∧ l.nextArrival = s.latch.nextArrival + 1
  merges : ∀ r, (s.latchPosition d).side = .unlock → s.pendingFor d = some r → r.cls = .lock → s.QueueOrdered →
    l.queue = s.latch.queue ∧ l.nextArrival = s.latch.nextArrival
  here : (s.latchPosition d).side = .lock → l.queue = s.latch.queue.filter (·.door ≠ d) ∧ l.nextArrival = s.latch.nextArrival

section Requested

variable (s : State) (d : Nat)

theorem requestLock_rest : (s.requestLock d).latch =
    { s.latch with queue := (s.requestLock d).latch.queue, nextArrival := (s.requestLock d).latch.nextArrival } :=
  congrArg State.latch (s.request_frame d .lock .lock)

theorem requestLock_requested : LockRequested s d (s.requestLock d).latch where
  rest := requestLock_rest s d
  joins hside hp := by
    rw [State.requestLock, request_of_free .lock (by rw [hside]; decide) hp]
    exact ⟨rfl, rfl⟩
  merges _ hside hp cls hq := by
    rw [requestLock_of_pending hq hside hp cls]
    exact ⟨rfl, rfl⟩
  here hside := ⟨request_queue_here .lock hside.symm, request_nextArrival_here .lock hside.symm⟩

theorem requestLock_again (hside : (s.latchPosition d).side = .unlock) :
    LockRequested s d ((s.requestLock d).requestLock d).latch where
  rest := by
    rw [requestLock_rest (s.requestLock d) d, requestLock_rest s d]
  joins _ hp := by
    rw [show s.requestLock d = s.enqueue d .lock .lock from request_of_free .lock (by rw [hside]; decide) hp, requestLock_twice hside hp]
    exact ⟨rfl, rfl⟩
  merges r _ hp cls hq := by
    have honce : (s.requestLock d).latch = s.latch := requestLock_of_pending hq hside hp cls
    rw [requestLock_latch_congr (s := s.requestLock d) (t := s) honce, honce]
    exact ⟨rfl, rfl⟩
  here h := absurd (hside.symm.trans h) (by decide)

end Requested

/-- R146: the relock test on a state whose LOCK has been requested asks for it at most once more. -/
theorem relockTest_requested {s v : State} {d : Nat} (hd : d < 96)
    (h : v.latch = { (s.requestLock d).latch with records := clearedRecords s d }) :
    ∃ l, LockRequested s d l ∧ v.relockTest d = withLatch v { l with records := clearedRecords s d } := by
  have hv : v.latchPosition d = s.latchPosition d := (latchPosition_congr (t := withRecords (s.requestLock d) (clearedRecords s d)) h d).trans
    (cleared_position hd d)
  cases hs : (s.latchPosition d).side with
  | lock =>
    refine ⟨_, requestLock_requested s d, ?_⟩
    rw [relockTest_of_locked (by rw [hv]; exact hs), ← h]
    rfl
  | unlock =>
    cases hk : v.keepsUnlocked (bayOfDoor d) (sideOfDoor d) with
    | true =>
      refine ⟨_, requestLock_requested s d, ?_⟩
      rw [relockTest_of_kept hk, ← h]
      rfl
    | false =>
      refine ⟨_, requestLock_again s d hs, ?_⟩
      have hsame : (withRecords (s.requestLock d) (clearedRecords s d)).latchPosition d = (s.requestLock d).latchPosition d :=
        (cleared_position hd d).trans (requestLock_position (s := s) d).symm
      rw [relockTest_requests (by rw [hv]; exact hs) hk, requestLock_eq_withLatch v,
        requestLock_latch_congr (s := v) (t := withRecords (s.requestLock d) (clearedRecords s d)) h d, requestLock_withRecords _ _ d hsame]
      rfl

/-! ### The hold (R65) -/

/-- R65: the record of the bay whose hold begins, out of LOADING. -/
theorem beginHold_change {s : State} {b : Nat} (h : (s.bay b).state = .loading) :
    s.changeBay b (·.heldFrom s.bankTime (s.boundProfile b).maxHold) =
      s.setBay b { (s.bay b).heldFrom s.bankTime (s.boundProfile b).maxHold with demand := 16 } := by
  rw [State.changeBay_frame, h]
  rfl

/-- Settles O26: the rear close of a LOADING bay whose rear was opened. -/
theorem rearCloseBeginsHold : Obligations.RearCloseBeginsHold := by
  unfold Obligations.RearCloseBeginsHold
  intro s b x t hr hb hst hopen d hc hx toUnlocked toLocked
  have hd : d < 96 := by omega
  have hbay : bayOfDoor d = b := Pulses.bayOfDoor_odd b
  have hside : sideOfDoor d = .rear := Pulses.sideOfDoor_rear b
  generalize hv : closedDoor (s.advance t) d = v
  have hvbay : ∀ c, v.bay c = s.bay c := fun c => by rw [← hv]; rfl
  have hclosed : v.closedOnBay (bayOfDoor d) (sideOfDoor d) = v.beginHold b := by
    rw [hbay, hside]
    exact if_pos ⟨by rw [hvbay]; exact hst, by rw [hvbay]; exact hopen⟩
  have hlatch : (v.beginHold b).latch = { (s.requestLock d).latch with records := clearedRecords s d } := by
    rw [← closedDoor_requestLock (s := s) (v := s.advance t) rfl hd, hv]
    refine requestLock_latch_congr (t := v) ?_ d
    rw [beginHold_change (by rw [hvbay]; exact hst)]
    rfl
  have hhold : v.beginHold b = withLatch ((v.setBay b { (v.bay b).heldFrom v.bankTime (v.boundProfile b).maxHold with demand := 16 }).raiseBay
      b .loaded) (v.beginHold b).latch := by
    rw [State.beginHold, beginHold_change (by rw [hvbay]; exact hst)]
    exact requestLock_eq_withLatch _ _
  obtain ⟨l, hl, htest⟩ := relockTest_requested hd hlatch
  have hprofile : v.boundProfile b = s.boundProfile b := by rw [← hv]; exact Completions.boundProfile_congr rfl rfl
  have hbank : v.bankTime = s.bankTime := by rw [← hv]; rfl
  refine ⟨_, exec_doorClosed t hr hd hc hx, ?_⟩
  rw [hv, hclosed, htest, hhold, hvbay, hprofile, hbank]
  refine ⟨?_, fun hu hp => ?_, fun r hu hp cls hq => ?_, fun hlk => hl.here (side_lock hlk), ?_, ?_, fun c hne => ⟨?_, ?_⟩⟩
  · rw [← hv, hl.rest]
    rfl
  · exact hl.joins (side_unlock hu) hp
  · exact hl.merges r (side_unlock hu) hp cls hq
  · exact State.setBay_bay_self _ _ _ hb
  · refine (State.setNotices_notices_self _ _ _ hb).trans ?_
    rw [← hv]
    rfl
  · exact (State.setBay_bay_ne _ _ _ _ (Ne.symm hne)).trans (hvbay c)
  · refine (State.setNotices_notices_ne _ _ _ _ (Ne.symm hne)).trans ?_
    rw [← hv]
    rfl

end Sys2Proof.Closings
end

section

-- One proof at a time: the proofs here together ask for more threads than the memory limit leaves room for.
set_option Elab.async false

/-! Server commands at a link at rest: what carrying one out leaves is what the row leaves, with the link answered. CLEAR and the end of a
clearing (R179 to R182). -/

namespace Sys2Proof.Commands

open Sys2Proof Sys2Proof.Machine Sys2Proof.Courses Sys2Proof.Acts Sys2Proof.Latches Sys2Proof.Expiries Sys2Proof.Closings

/-! ### The row of a command -/

/-- A state with another Order Link. -/
def withLink (s : State) (l : OrderLink) : State := { s with link := l }

section Rows

variable {s : State} {i : Instr} {c : Command} {r : Result} {data : List Byte}

/-- R189: a command refused leaves the answered link alone. -/
theorem exec_refused (hc : Instr.serverCommand i = some c) (hs : s.AtRest) (hw : i.wellFormed = true)
    (h : carryOut (s.joined c) c = refuse (s.joined c) r data) : exec i s = .next (s.served c r data) :=
  (exec_atRest s i c hw hc hs).trans (congrArg _ (s.joined_refused c r data h))

/-- R189: a command carried out leaves what its service leaves, with the answered link. -/
theorem exec_served (hc : Instr.serverCommand i = some c) (hs : s.AtRest) (hw : i.wellFormed = true) {u : State}
    (h : carryOut (s.joined c) c = ⟨u, r, data⟩) (link : u.link = (s.joined c).link) :
    exec i s = .next (withLink u (s.answeredLink c r data)) := by
  refine (exec_atRest s i c hw hc hs).trans (congrArg _ ((s.joined_answer c ?_).trans ?_))
  · rw [h]
    exact link
  · rw [h]
    rfl

/-- What a service touches, the row touches, and the link. -/
theorem onlyBays_served {u : State} {bs : List Nat} (h : OnlyBays (s.joined c) u bs) :
    OnlyBays (s.served c r data) (withLink u (s.answeredLink c r data)) bs := by
  obtain ⟨hall, hkept, hmark⟩ := h
  refine ⟨?_, fun b hb => ?_, hmark⟩
  · unfold BaysOnly at hall ⊢
    exact congrArg (withLink · (s.answeredLink c r data)) hall
  · obtain ⟨h1, h2, h3, h4, h5, h6⟩ := hkept b hb
    exact ⟨h1, h2, h3, h4, h5, h6⟩

end Rows

/-! ### An UNLOCK requested (R141) -/

section Unlock

variable {s : State} {d : Nat}

theorem dropRequest_of_free (h : s.pendingFor d = none) : s.dropRequest d = s := by
  rw [State.dropRequest, filter_eq_of_free (pendingFor_none h)]
  rfl

/-- R141: an UNLOCK against the unlocked side, no pulse running, completes at once. -/
theorem request_unlock_done {c : RequestClass} (hside : (s.latchPosition d).side = .unlock) (hp : s.pulseRuns d = false) :
    s.request d .unlock c = (s.dropRequest d).unlockCompletion d := by
  unfold State.request
  cases hr : s.pendingFor d with
  | none => rw [dropRequest_of_free hr, if_pos hside.symm, hp]; rfl
  | some r => simp only [if_pos hside.symm, hp]; rfl

/-- R141: an UNLOCK against the unlocked side under a pulse leaves no request. -/
theorem request_unlock_driven {c : RequestClass} (hside : (s.latchPosition d).side = .unlock) (hp : s.pulseRuns d = true) :
    s.request d .unlock c = s.dropRequest d := by
  unfold State.request
  cases hr : s.pendingFor d with
  | none => rw [dropRequest_of_free hr, if_pos hside.symm, hp]; rfl
  | some r => simp only [if_pos hside.symm, hp]; rfl

end Unlock

/-! ### CLEAR (R179) -/

section Clear

variable {s : State} {b : Nat}

/-- The record of a bay whose clearing begins, and of one whose clearing ended. -/
def cleared (s : State) (b : Nat) (on : Bool) : State := s.setBay b { s.bay b with clearing := on, timer := none }

theorem serveClear_eq (hb : b < 48) (h : (s.bay b).state = .withdrawn ∨ (s.bay b).state = .outOfService) :
    serveClear s b = ⟨(cleared s b true).request (2 * b + 1) .unlock .service, .done, [byteOf b, stateByte (s.bay b).state] ++
      optionalBytesOf 2 ((((cleared s b true).request (2 * b + 1) .unlock .service).bay b).timer.map
        ((cleared s b true).request (2 * b + 1) .unlock .service).secondsUntil)⟩ := by
  unfold serveClear
  rw [if_neg (by omega), if_neg fun hn => h.elim hn.1 hn.2]
  rfl

theorem cleared_completion (hb : b < 48) (h : (s.bay b).state = .withdrawn ∨ (s.bay b).state = .outOfService) :
    ((cleared s b true).dropRequest (2 * b + 1)).unlockCompletion (2 * b + 1) = ((cleared s b true).dropRequest (2 * b + 1)).setBay b
      { s.bay b with clearing := true, timer := some (s.after s.config.clearingWindow) } := by
  have hbay : ((cleared s b true).dropRequest (2 * b + 1)).bay b = { s.bay b with clearing := true, timer := none } :=
    State.setBay_bay_self _ _ _ hb
  rw [Pulses.unlockCompletion_rear, hbay, if_neg, if_pos]
  · rfl
  · exact ⟨rfl, rfl, h.imp_right .inl⟩
  · rintro ⟨hn, -⟩
    dsimp only at hn
    rw [hn] at h
    obtain h | h := h <;> cases h

theorem clear_atRest (hs : s.AtRest) (hn : b < 256) :
    (47 < b → exec (.clear b) s = .next (s.served (.clear b) .badValue [])) ∧
    (b < 48 → (s.bay b).state ≠ .withdrawn → (s.bay b).state ≠ .outOfService →
      exec (.clear b) s = .next (s.served (.clear b) .wrongState [stateByte (s.bay b).state])) ∧
    (b < 48 → (s.bay b).state = .withdrawn ∨ (s.bay b).state = .outOfService →
      (s.pendingFor (2 * b + 1) = none → s.latchPosition (2 * b + 1) = .locked ∨ s.latchPosition (2 * b + 1) = .locking →
        exec (.clear b) s = .next { s.served (.clear b) .done ([byteOf b, stateByte (s.bay b).state] ++ [0xFF, 0xFF]) with
          bays := (cleared s b true).bays, latch := (s.enqueue (2 * b + 1) .unlock .service).latch }) ∧
      (s.latchPosition (2 * b + 1) = .unlocked → s.pulseRuns (2 * b + 1) = false →
        exec (.clear b) s = .next { s.served (.clear b) .done
            ([byteOf b, stateByte (s.bay b).state] ++ bytesOf 2 ((s.after s.config.clearingWindow - s.bankTime) / 10)) with
          bays := s.bays.setIfInBounds b { s.bay b with clearing := true, timer := some (s.after s.config.clearingWindow) }
          latch := (s.dropRequest (2 * b + 1)).latch })) := by
  have hw : (Instr.clear b).wellFormed = true := decide_eq_true hn
  refine ⟨fun h => ?_, fun hb h1 h2 => ?_, fun hb hst => ⟨fun hp hl => ?_, fun hu hr => ?_⟩⟩
  · exact exec_refused rfl hs hw (if_pos h)
  · refine exec_refused rfl hs hw ?_
    change serveClear _ _ = _
    unfold serveClear
    rw [if_neg (by omega)]
    exact if_pos ⟨h1, h2⟩
  · have hserve := serveClear_eq (s := s.joined (.clear b)) hb hst
    have hrequest : (cleared (s.joined (.clear b)) b true).request (2 * b + 1) .unlock .service =
        (cleared (s.joined (.clear b)) b true).enqueue (2 * b + 1) .unlock .service :=
      request_of_free (s := cleared (s.joined (.clear b)) b true) .service (by
        rw [show (cleared (s.joined (.clear b)) b true).latchPosition (2 * b + 1) = s.latchPosition (2 * b + 1) from rfl, side_lock hl]
        decide) hp
    have hbay : ((cleared (s.joined (.clear b)) b true).enqueue (2 * b + 1) .unlock .service).bay b =
        { s.bay b with clearing := true, timer := none } := State.setBay_bay_self _ _ _ hb
    rw [hrequest, hbay] at hserve
    exact exec_served (c := .clear b) rfl hs hw hserve rfl
  · have hserve := serveClear_eq (s := s.joined (.clear b)) hb hst
    have hrequest := (request_unlock_done (s := cleared (s.joined (.clear b)) b true) (d := 2 * b + 1) (c := .service)
      (side_unlock (.inl hu)) hr).trans (cleared_completion (s := s.joined (.clear b)) hb hst)
    rw [hrequest, State.setBay_bay_self _ _ _ hb] at hserve
    refine (exec_served (c := .clear b) rfl hs hw hserve rfl).trans (congrArg _ ?_)
    simp only [withLink, cleared, State.setBay, State.dropRequest, State.setLatchQueue, setIfInBounds_twice]
    rfl

end Clear

/-! ### The end of a clearing (R181, R182) -/

section Ends

variable {s : State} {b : Nat}

theorem sendToVacant_bayNotices : (s.sendToVacant b).bayNotices = s.bayNotices := by
  obtain ⟨f, m, -, h⟩ := sendToVacant_shape (s := s) (b := b)
  rw [h]
  refine (congrArg State.bayNotices (State.changeBay_frame (s.leaveEntry b) b f)).trans ?_
  unfold State.leaveEntry
  cases (s.bay b).entry <;> rfl

theorem watchesClearing_iff {st : BayState} :
    st.watchesClearing = true ↔ st = .withdrawn ∨ st = .outOfService ∨ st = .vacant := by
  cases st <;> simp [BayState.watchesClearing]

theorem takeClearingWindow_watched {e : Nat} (h : (s.bay b).clearing = true ∧
    ((s.bay b).state = .withdrawn ∨ (s.bay b).state = .outOfService ∨ (s.bay b).state = .vacant)) (ht : (s.bay b).timer = some e)
    (he : e ≤ s.bankTime) : s.takeClearingWindow b = s.abandonClearing b := by
  unfold State.takeClearingWindow
  rw [watchesClearing_iff.mpr h.2, h.1, ht, Completions.reached_some.mpr he]
  rfl

/-- R181: the end of a clearing on the state with the door closed. -/
theorem endClearing_facts {u : State} (hb : b < 48) :
    (u.endClearing b).bayNotices = u.bayNotices ∧ (u.endClearing b).latch = (u.withdrawRequest (2 * b + 1) .unlock).latch ∧
      ((u.bay b).state = .withdrawn → Retired (cleared u b false) (u.endClearing b) b ∧ (u.endClearing b).heater = u.heater ∧
        (((u.endClearing b).bay b).state = .vacant ∨ ((u.endClearing b).bay b).state = .outOfService)) ∧
      ((u.bay b).state ≠ .withdrawn → u.endClearing b = withLatch (cleared u b false) (u.withdrawRequest (2 * b + 1) .unlock).latch) := by
  have hbay : (cleared u b false).bay b = { u.bay b with clearing := false, timer := none } := State.setBay_bay_self _ _ _ hb
  by_cases hst : (u.bay b).state = .withdrawn
  · have hended : u.endClearing b = ((cleared u b false).sendToVacant b).withdrawRequest (2 * b + 1) .unlock :=
      congrArg (fun v : State => v.withdrawRequest (2 * b + 1) .unlock) (if_pos ((congrArg Bay.state hbay).trans hst))
    have hlatch : (u.endClearing b).latch = (u.withdrawRequest (2 * b + 1) .unlock).latch := by
      rw [hended]
      exact withdrawRequest_latch_congr (s := (cleared u b false).sendToVacant b) (t := u) (sendToVacant_latch _ b) _ _
    refine ⟨?_, hlatch, fun _ => ⟨?_, ?_, ?_⟩, fun h => absurd hst h⟩
    · rw [hended, withdrawRequest_eq_withLatch]
      exact sendToVacant_bayNotices
    · rw [hended, withdrawRequest_eq_withLatch]
      have hretired := sendToVacant_retired (s := cleared u b false) hb
      exact ⟨hretired.record, hretired.directory⟩
    · rw [hended, withdrawRequest_eq_withLatch]
      refine (sendToVacant_heater (s := cleared u b false)).trans ?_
      rw [hbay]
      dsimp only
      rw [hst]
      rfl
    · rw [hended, withdrawRequest_bay]
      exact sendToVacant_state hb
  · have hended : u.endClearing b = (cleared u b false).withdrawRequest (2 * b + 1) .unlock :=
      congrArg (fun v : State => v.withdrawRequest (2 * b + 1) .unlock) (if_neg fun h => hst ((congrArg Bay.state hbay).symm.trans h))
    have hlatch : (u.endClearing b).latch = (u.withdrawRequest (2 * b + 1) .unlock).latch := by
      rw [hended]
      exact withdrawRequest_latch_congr (s := cleared u b false) (t := u) rfl _ _
    refine ⟨?_, hlatch, fun h => absurd h hst, fun _ => ?_⟩
    · rw [hended, withdrawRequest_eq_withLatch]
      rfl
    · rw [← hlatch, hended]
      exact withdrawRequest_eq_withLatch _ _ _

end Ends

/-- What the end of a clearing has left, before the relock test, of the state `s` that the rear door of bay `b` closed on. -/
structure ClearingEnded (s w : State) (b : Nat) : Prop where
  notices : w.bayNotices = s.bayNotices
  heater : w.heater = s.heater
  gone : (s.bay b).state = .withdrawn → Retired (cleared s b false) w b
  stands : (s.bay b).state ≠ .withdrawn →
    w.bay b = { s.bay b with clearing := false, timer := none } ∧ w.directory = s.directory ∧ w.scanner = s.scanner
  latch : w.latch = { (s.withdrawRequest (2 * b + 1) .unlock).latch with records := clearedRecords s (2 * b + 1) }
  idle : (w.bay b).state ≠ .loading ∧ (w.bay b).clearing = false

section RearClose

variable {s : State} {b : Nat}

theorem endClearing_ended (hb : b < 48)
    (hst : (s.bay b).state = .withdrawn ∨ (s.bay b).state = .outOfService ∨ (s.bay b).state = .vacant) {v : State}
    (bays : v.bays = s.bays) (directory : v.directory = s.directory) (notices : v.bayNotices = s.bayNotices)
    (heater : v.heater = s.heater) (scanner : v.scanner = s.scanner)
    (latch : (v.withdrawRequest (2 * b + 1) .unlock).latch =
      { (s.withdrawRequest (2 * b + 1) .unlock).latch with records := clearedRecords s (2 * b + 1) }) :
    ClearingEnded s (v.endClearing b) b := by
  have hbay : v.bay b = s.bay b := by simp only [State.bay, bays]
  obtain ⟨hnotices, hlatch, hgone, hstands⟩ := endClearing_facts (u := v) hb
  by_cases hw : (s.bay b).state = .withdrawn
  · obtain ⟨hretired, hheater, hstate⟩ := hgone (by rw [hbay]; exact hw)
    have hcleared : (cleared v b false).bay b = (cleared s b false).bay b := by
      rw [cleared, cleared, hbay, State.setBay_bay_self _ _ _ hb, State.setBay_bay_self _ _ _ hb]
    refine ⟨hnotices.trans notices, hheater.trans heater, fun _ => retired_congr (s' := cleared v b false) hcleared directory hretired,
      fun h => absurd hw h, hlatch.trans latch, fun h => ?_, ?_⟩
    · rw [h] at hstate
      obtain h | h := hstate <;> cases h
    · exact (congrArg Bay.clearing hretired.record).trans (congrArg Bay.clearing (State.setBay_bay_self _ _ _ hb))
  · have hended := hstands (by rw [hbay]; exact hw)
    have hwritten : (v.endClearing b).bay b = { s.bay b with clearing := false, timer := none } := by
      rw [hended, ← hbay]
      exact State.setBay_bay_self _ _ _ hb
    refine ⟨hnotices.trans notices, ?_, fun h => absurd h hw, fun _ => ⟨hwritten, ?_, ?_⟩, hlatch.trans latch, ?_, congrArg Bay.clearing hwritten⟩
    · rw [hended]
      exact heater
    · rw [hended]
      exact directory
    · rw [hended]
      exact scanner
    · rw [hwritten]
      dsimp only
      intro h
      rw [h] at hst
      obtain h | h | h := hst <;> cases h

theorem closedDoor_ended (t : Nat) (hb : b < 48)
    (hst : (s.bay b).state = .withdrawn ∨ (s.bay b).state = .outOfService ∨ (s.bay b).state = .vacant) :
    ClearingEnded s ((closedDoor (s.advance t) (2 * b + 1)).endClearing b) b :=
  endClearing_ended hb hst rfl rfl rfl rfl rfl (closedDoor_withdrawRequest (s := s) (v := s.advance t) rfl .unlock)

/-- R146: the relock test after it. -/
theorem ClearingEnded.relocked {w : State} (h : ClearingEnded s w b) (hb : b < 48) :
    ∃ l, w.relockTest (2 * b + 1) = withLatch w l ∧
      (s.latchPosition (2 * b + 1) = .unlocked ∨ s.latchPosition (2 * b + 1) = .unlocking →
        l = { ((s.withdrawRequest (2 * b + 1) .unlock).requestLock (2 * b + 1)).latch with
          records := clearedRecords s (2 * b + 1) }) ∧
      (s.latchPosition (2 * b + 1) = .locked ∨ s.latchPosition (2 * b + 1) = .locking →
        l = { (s.withdrawRequest (2 * b + 1) .unlock).latch with records := clearedRecords s (2 * b + 1) }) := by
  have hd : 2 * b + 1 < 96 := by omega
  have hkept : w.keepsUnlocked (bayOfDoor (2 * b + 1)) (sideOfDoor (2 * b + 1)) = false := by
    rw [Pulses.bayOfDoor_odd, Pulses.sideOfDoor_rear, State.keepsUnlocked, h.idle.2, Bool.or_false]
    exact decide_eq_false h.idle.1
  have hclosed : (withRecords (s.withdrawRequest (2 * b + 1) .unlock) (clearedRecords s (2 * b + 1))).latchPosition (2 * b + 1) =
      (s.withdrawRequest (2 * b + 1) .unlock).latchPosition (2 * b + 1) := by
    rw [withdrawRequest_position]
    exact cleared_position hd _
  have hposition : w.latchPosition (2 * b + 1) = s.latchPosition (2 * b + 1) := by
    rw [latchPosition_congr (t := withRecords (s.withdrawRequest (2 * b + 1) .unlock) (clearedRecords s (2 * b + 1))) h.latch, hclosed,
      withdrawRequest_position]
  cases hs : (s.latchPosition (2 * b + 1)).side with
  | lock =>
    refine ⟨w.latch, relockTest_of_locked (by rw [hposition]; exact hs), fun hu => ?_, fun _ => h.latch⟩
    rw [side_unlock hu] at hs
    cases hs
  | unlock =>
    refine ⟨_, (relockTest_requests (by rw [hposition]; exact hs) hkept).trans (requestLock_eq_withLatch _ _), fun _ => ?_, fun hl => ?_⟩
    · rw [requestLock_latch_congr (t := withRecords (s.withdrawRequest (2 * b + 1) .unlock) (clearedRecords s (2 * b + 1))) h.latch,
        requestLock_withRecords _ _ _ hclosed]
      rfl
    · rw [side_lock hl] at hs
      cases hs

/-- R181: the rear close of a clearing bay. -/
theorem exec_rearClose_clearing {x t : Nat} (hr : s.running = true) (hb : b < 48) (hcl : (s.bay b).clearing = true)
    (hc : (s.door (2 * b + 1)).candidate = some { closed := true, since := x }) (hx : x + 40000 ≤ max s.clock t)
    (hst : (s.bay b).state = .withdrawn ∨ (s.bay b).state = .outOfService ∨ (s.bay b).state = .vacant) :
    exec (.doorClosed (2 * b + 1) t) s = .next (withDoors
      (((closedDoor (s.advance t) (2 * b + 1)).endClearing b).relockTest (2 * b + 1)) (closedDoors s (2 * b + 1))) := by
  have hexec := exec_doorClosed t hr (by omega) hc hx
  have hcloses : (closedDoor (s.advance t) (2 * b + 1)).closedOnBay b .rear = (closedDoor (s.advance t) (2 * b + 1)).endClearing b := by
    have hbay : (closedDoor (s.advance t) (2 * b + 1)).bay b = s.bay b := rfl
    refine (if_neg ?_).trans (if_pos (by rw [hbay]; exact hcl))
    rw [hbay]
    rintro ⟨h, -⟩
    rw [h] at hst
    obtain h | h | h := hst <;> cases h
  rw [Pulses.bayOfDoor_odd, Pulses.sideOfDoor_rear, hcloses] at hexec
  exact hexec

theorem closedDoor_base (t d : Nat) : withDoors (closedDoor (s.advance t) d) (closedDoors s d) = { s with
    clock := max s.clock t, doors := closedDoors s d
    latch := { s.latch with records := clearedRecords s d } } := by
  simp only [closedDoor, State.setOpenAfterFailedLock, State.setLatchRecord, State.setDoor, withDoors]
  rfl

theorem endClearing_onlyBays (hb : b < 48) (v : State) (r : Vector Door 96) :
    OnlyBays (withDoors v r) (withDoors ((v.endClearing b).relockTest (2 * b + 1)) r) [b] :=
  onlyBays_withDoors _ ((endClearing_course (g := ⟨True, False⟩) (s := v) (b := b)).trans
    (relockTest_course _ _ (Pulses.bayOfDoor_odd b) (by omega))).onlyBays

end RearClose

/-- R181, R146: what the rear close of a clearing bay leaves. -/
theorem rearClose_endsClearing {s : State} {b x t : Nat} (hr : s.running = true) (hb : b < 48) (hcl : (s.bay b).clearing = true)
    (hc : (s.door (2 * b + 1)).candidate = some { closed := true, since := x }) (hx : x + 40000 ≤ max s.clock t)
    (hst : (s.bay b).state = .withdrawn ∨ (s.bay b).state = .outOfService ∨ (s.bay b).state = .vacant) :
    ∃ u, exec (.doorClosed (2 * b + 1) t) s = .next u ∧
      OnlyBays { s with
        clock := max s.clock t, doors := closedDoors s (2 * b + 1)
        latch := { s.latch with records := clearedRecords s (2 * b + 1) } } u [b] ∧
      u.bayNotices = s.bayNotices ∧ u.heater = s.heater ∧
      ((s.bay b).state = .withdrawn → Retired (cleared s b false) u b) ∧
      ((s.bay b).state ≠ .withdrawn → u.bay b = { s.bay b with clearing := false, timer := none } ∧ u.directory = s.directory ∧
        u.scanner = s.scanner) ∧
      (s.latchPosition (2 * b + 1) = .unlocked ∨ s.latchPosition (2 * b + 1) = .unlocking →
        u.latch = { ((s.withdrawRequest (2 * b + 1) .unlock).requestLock (2 * b + 1)).latch with
          records := clearedRecords s (2 * b + 1) }) ∧
      (s.latchPosition (2 * b + 1) = .locked ∨ s.latchPosition (2 * b + 1) = .locking →
        u.latch = { (s.withdrawRequest (2 * b + 1) .unlock).latch with records := clearedRecords s (2 * b + 1) }) := by
  obtain ⟨l, hl, hunlocked, hlocked⟩ := (closedDoor_ended t hb hst).relocked hb
  have hended := closedDoor_ended t hb hst
  have honly := endClearing_onlyBays hb (closedDoor (s.advance t) (2 * b + 1)) (closedDoors s (2 * b + 1))
  rw [closedDoor_base, hl] at honly
  have hexec := exec_rearClose_clearing hr hb hcl hc hx hst
  rw [hl] at hexec
  refine ⟨_, hexec, honly, ?_⟩
  generalize (closedDoor (s.advance t) (2 * b + 1)).endClearing b = w at hended
  exact ⟨hended.notices, hended.heater, fun h => ⟨(hended.gone h).record, (hended.gone h).directory⟩, hended.stands, hunlocked, hlocked⟩

/-- Settles O53: CLEAR by the bay and its rear latch, the clearing window, and the rear close that ends a clearing. -/
theorem clearingBeginsAndLapses : Obligations.ClearingBeginsAndLapses := by
  unfold Obligations.ClearingBeginsAndLapses
  refine ⟨?_, ?_, ?_⟩
  · intro s b hs hn d st clearing answer
    exact clear_atRest hs hn
  · intro s b hr hb watches
    have hexec : exec (.clearingWindowExpiry b) s = .next (s.takeClearingWindow b) := Completions.exec_expiry hr hb _
    rw [hexec]
    refine ⟨fun e hw ht he => congrArg _ ?_, fun h => congrArg _ (if_neg fun hn => ?_)⟩
    · rw [takeClearingWindow_watched hw ht he, State.abandonClearing]
      rw [requestLock_eq_withLatch]
      rfl
    · simp only [Bool.and_eq_true] at hn
      obtain ⟨⟨hw, hcl⟩, hreached⟩ := hn
      obtain h | h := h
      · exact h ⟨hcl, watchesClearing_iff.mp hw⟩
      · rw [Completions.not_reached_of_ahead h] at hreached
        cases hreached
  · intro s b x t hr hb hcl hc hx d st ended cleared' hst
    exact rearClose_endsClearing hr hb hcl hc hx hst

end Sys2Proof.Commands
end

section

-- One proof at a time: the proofs here together ask for more threads than the memory limit leaves room for.
set_option Elab.async false

/-! LOAD (R60 to R63), and the commands that report the directory (R34 to R37). -/

namespace Sys2Proof.Commands

open Sys2Proof Sys2Proof.Machine Sys2Proof.Courses Sys2Proof.Acts Sys2Proof.Entries Sys2Proof.Latches Sys2Proof.Expiries Sys2Proof.Closings

theorem queueOrdered_same {s t : State} (h : s.QueueOrdered) (latch : t.latch = s.latch) : t.QueueOrdered := by
  obtain ⟨order, doors, arrivals, given⟩ := h
  constructor <;> rwa [latch]

/-! ### LOAD -/

section Load

variable {s : State} {ref b force : Nat}

/-- The state once a bay has gone from READY or PREHEATING to LOADING. -/
def loaded (s : State) (b : Nat) : State := (s.setBay b { s.bay b with state := .loading, rearOpened := false, demand := 0 }).cutRun b

theorem changeBay_loaded (h : (s.bay b).state = .ready ∨ (s.bay b).state = .preheating) :
    s.changeBay b Bay.loadingFrom = loaded s b := by
  rw [State.changeBay_frame]
  obtain h | h := h <;> rw [h] <;> rfl

theorem loaded_bay (hb : b < 48) : (loaded s b).bay b = { s.bay b with state := .loading, rearOpened := false, demand := 0 } :=
  State.setBay_bay_self _ _ _ hb

theorem notOurs_iff : ((s.findOrder ref).all fun e => !e.bays.contains b) = true ↔ ¬ ∃ e, s.findOrder ref = some e ∧ b ∈ e.bays := by
  cases s.findOrder ref <;> simp

theorem serveLoad_eq {e : Entry} (href : 0 < ref) (hb : b < 48) (hf : force ≤ 1) (he : s.findOrder ref = some e) (hin : b ∈ e.bays)
    (hst : (s.bay b).state = .ready ∨ ((s.bay b).state = .preheating ∧ force = 1)) :
    serveLoad s ref b force =
      ⟨(loaded s b).request (2 * b + 1) .unlock .load, .done, [byteOf b, stateByte (s.bay b).state]⟩ := by
  have hwaits : (s.bay b).state = .ready ∨ (s.bay b).state = .preheating := hst.imp_right And.left
  unfold serveLoad
  rw [if_neg (by omega)]
  dsimp only
  rw [if_neg fun h => hwaits.elim h.1 h.2, if_neg fun h => notOurs_iff.mp h ⟨e, he, hin⟩, if_neg, changeBay_loaded hwaits]
  · rfl
  · rintro ⟨h, h0⟩
    rw [h] at hst
    obtain h | ⟨-, h⟩ := hst
    · cases h
    · omega

theorem load_onlyBays (hwaits : (s.bay b).state = .ready ∨ (s.bay b).state = .preheating) (hb : b < 48) :
    OnlyBays s ((loaded s b).request (2 * b + 1) .unlock .load) [b] := by
  rw [← changeBay_loaded hwaits]
  have hchange : Course ⟨False, False⟩ [b] s (s.changeBay b Bay.loadingFrom) :=
    change_course s b Bay.loadingFrom (.inl rfl) rfl rfl rfl
      (fun _ => by obtain h | h := hwaits <;> rw [h] <;> rfl) rfl (by obtain h | h := hwaits <;> rw [h] <;> rfl)
      (fun h => by rw [h] at hwaits; exact absurd hwaits (by decide))
      fun _ => frontKept_of_not_handed _ (not_handed_of_waiting (by tauto))
  have hrequest : Course ⟨False, False⟩ [b] (s.changeBay b Bay.loadingFrom)
      ((s.changeBay b Bay.loadingFrom).request (doorOf b .rear) .unlock .load) :=
    request_course _ b _ _ (bayOfDoor_rear b) (by simp only [doorOf]; omega) (fun h => nomatch h) fun _ hd => absurd hd (rear_ne_front b)
  exact (hchange.trans hrequest).onlyBays

/-- R61: the completion of an UNLOCK that finds the bay LOADING with no timer starts the load window. -/
theorem loaded_completion (hb : b < 48) (ht : (s.bay b).timer = none) :
    ((loaded s b).dropRequest (2 * b + 1)).unlockCompletion (2 * b + 1) =
      ((loaded s b).dropRequest (2 * b + 1)).setBay b { s.bay b with
        state := .loading, rearOpened := false, demand := 0, timer := some (s.after s.config.loadWindow) } := by
  have hbay : ((loaded s b).dropRequest (2 * b + 1)).bay b = { s.bay b with state := .loading, rearOpened := false, demand := 0 } :=
    loaded_bay hb
  rw [Pulses.unlockCompletion_rear, hbay, if_pos ⟨rfl, ht⟩]
  rfl

/-- R61, R63: the rear latch and the record of the bay after an accepted LOAD. -/
theorem loaded_request (hb : b < 48) (ht : (s.bay b).timer = none) {u : State}
    (hu : u = (loaded s b).request (2 * b + 1) .unlock .load) :
    (s.latchPosition (2 * b + 1) = .locked ∨ s.latchPosition (2 * b + 1) = .locking → s.pendingFor (2 * b + 1) = none →
      u.bay b = { s.bay b with state := .loading, rearOpened := false, demand := 0 } ∧
        u.latch = (s.enqueue (2 * b + 1) .unlock .load).latch) ∧
    (∀ r, s.latchPosition (2 * b + 1) = .locked ∨ s.latchPosition (2 * b + 1) = .locking → s.pendingFor (2 * b + 1) = some r →
      s.QueueOrdered → u.bay b = { s.bay b with state := .loading, rearOpened := false, demand := 0 } ∧ u.latch = s.latch) ∧
    (s.latchPosition (2 * b + 1) = .unlocked ∨ s.latchPosition (2 * b + 1) = .unlocking → s.pulseRuns (2 * b + 1) = true →
      u.bay b = { s.bay b with state := .loading, rearOpened := false, demand := 0 } ∧
        u.latch = { s.latch with queue := s.latch.queue.filter (·.door ≠ 2 * b + 1) }) ∧
    (s.latchPosition (2 * b + 1) = .unlocked → s.pulseRuns (2 * b + 1) = false →
      u.bay b = { s.bay b with state := .loading, rearOpened := false, demand := 0, timer := some (s.after s.config.loadWindow) } ∧
        u.latch = { s.latch with queue := s.latch.queue.filter (·.door ≠ 2 * b + 1) }) := by
  have haway : s.latchPosition (2 * b + 1) = .locked ∨ s.latchPosition (2 * b + 1) = .locking →
      LatchAction.unlock ≠ ((loaded s b).latchPosition (2 * b + 1)).side := fun h => by
    rw [show (loaded s b).latchPosition (2 * b + 1) = s.latchPosition (2 * b + 1) from rfl, side_lock h]
    decide
  refine ⟨fun hl hp => ?_, fun r hl hp hq => ?_, fun hu' hr => ?_, fun hu' hr => ?_⟩
  · rw [hu, request_of_free (s := loaded s b) .load (haway hl) hp]
    exact ⟨loaded_bay hb, rfl⟩
  · rw [hu, request_of_pending (s := loaded s b) .load (haway hl) hp]
    refine ⟨loaded_bay hb, mergeRequest_latch (s := loaded s b) (c := .load) (queueOrdered_same hq rfl) (pendingFor_some hp).1 ?_⟩
    cases r.cls <;> rfl
  · rw [hu, request_unlock_driven (s := loaded s b) (side_unlock hu') hr]
    exact ⟨loaded_bay hb, rfl⟩
  · rw [hu, request_unlock_done (s := loaded s b) (side_unlock (.inl hu')) hr, loaded_completion hb ht]
    exact ⟨State.setBay_bay_self _ _ _ hb, rfl⟩

end Load

/-- Settles O24: LOAD's checks in their order, and what an accepted LOAD leaves. -/
theorem loadOpensTheRear : Obligations.LoadOpensTheRear := by
  unfold Obligations.LoadOpensTheRear
  refine ⟨?_, ?_⟩
  · intro s ref b force hs hr hb hf st answers bad ours
    have hw : (Instr.load ref b force).wellFormed = true := by
      simp only [Instr.wellFormed, Bool.and_eq_true, decide_eq_true_eq]
      omega
    have refused : ∀ (r : Result) (data : List Byte), serveLoad (s.joined (.load ref b force)) ref b force =
        refuse (s.joined (.load ref b force)) r data → answers r data :=
      fun r data h => exec_refused (c := .load ref b force) rfl hs hw h
    refine ⟨fun h => refused _ _ (if_pos h), fun h h1 h2 => refused _ _ ?_, fun h hst ho => refused _ _ ?_,
      fun h hst ho h0 => refused _ _ ?_⟩
    · unfold serveLoad
      rw [if_neg h]
      exact if_pos ⟨h1, h2⟩
    · unfold serveLoad
      rw [if_neg h]
      exact (if_neg fun hn => hst.elim hn.1 hn.2).trans (if_pos (notOurs_iff.mpr ho))
    · unfold serveLoad
      rw [if_neg h]
      refine (if_neg fun hn => hn.2 hst).trans ((if_neg fun hn => notOurs_iff.mp hn ho).trans ((if_pos ⟨hst, h0⟩).trans ?_))
      rw [show ((s.joined (.load ref b force)).bay b).state = .preheating from hst]
  · intro s ref b force e hs hr0 hr hb hf he hin hst ht d loading timed served toLocked toUnlocked others
    have hw : (Instr.load ref b force).wellFormed = true := by
      simp only [Instr.wellFormed, Bool.and_eq_true, decide_eq_true_eq]
      omega
    have hwaits : (s.bay b).state = .ready ∨ (s.bay b).state = .preheating := hst.imp_right And.left
    have hserve := serveLoad_eq (s := s.joined (.load ref b force)) hr0 hb hf he hin hst
    have honly := load_onlyBays (s := s.joined (.load ref b force)) hwaits hb
    have hframe := (loaded (s.joined (.load ref b force)) b).request_frame (2 * b + 1) .unlock .load
    have hlatches := loaded_request (s := s.joined (.load ref b force)) hb ht rfl
    generalize (loaded (s.joined (.load ref b force)) b).request (2 * b + 1) .unlock .load = u at hserve honly hframe hlatches
    have hlink : u.link = (s.joined (.load ref b force)).link := by rw [hframe]; rfl
    have hheater : u.heater = (s.cutRun b).heater := by rw [hframe]; rfl
    have hdirectory : u.directory = s.directory := (congrArg State.directory hframe).trans rfl
    have hnotices : u.bayNotices = s.bayNotices := (congrArg State.bayNotices hframe).trans rfl
    have hscanner : u.scanner = s.scanner := (congrArg State.scanner hframe).trans rfl
    refine ⟨_, exec_served (c := .load ref b force) rfl hs hw hserve hlink, onlyBays_served honly, hdirectory, hnotices, ?_, ?_, hscanner,
      hlatches.1, fun r hl hp hq => ?_, hlatches.2.2⟩
    · have hoff : u.heater.gates.getD b false = false := by rw [hheater]; exact (s.cutRun_off b).1
      exact Bool.and_eq_false_iff.mpr (.inr hoff)
    · intro r hr
      refine (s.cutRun_off b).2 r ?_
      rw [← hheater]
      exact hr
    · exact hlatches.2.1 r hl hp (queueOrdered_same hq rfl)

end Sys2Proof.Commands
end

section

-- One proof at a time: the proofs here together ask for more threads than the memory limit leaves room for.
set_option Elab.async false

/-! The commands that report: QUERY and SCAN (R34 to R37), STATUS (R19, R194). -/

namespace Sys2Proof.Commands

open Sys2Proof Sys2Proof.Machine Sys2Proof.Courses Sys2Proof.Acts

/-! ### QUERY -/

theorem bytesOf_one (n : Nat) : bytesOf 1 n = [byteOf n] := by
  simp [bytesOf, byteOf]

section Query

variable {s : State} {k v : Nat}

theorem findKey_bad (h : 1 < k ∨ (k = 0 ∧ 999999 < v) ∨ (k = 1 ∧ v = 0)) : s.findKey k v = .error .badValue := if_pos h

theorem findKey_none (h : (k = 0 ∧ v ≤ 999999) ∨ (k = 1 ∧ 0 < v)) (hn : (if k = 0 then s.findCode v else s.findOrder v) = none) :
    s.findKey k v = .error .notFound := by
  unfold State.findKey
  rw [if_neg (by omega), hn]

theorem findKey_some {e : Entry} (h : (k = 0 ∧ v ≤ 999999) ∨ (k = 1 ∧ 0 < v))
    (he : (if k = 0 then s.findCode v else s.findOrder v) = some e) : s.findKey k v = .ok e := by
  unfold State.findKey
  rw [if_neg (by omega), he]

theorem serveQuery_found {e : Entry} (h : s.findKey k v = .ok e) : serveQuery s k v = ⟨s, .done,
    bytesOf 2 s.directory.generation ++ bytesOf 3 e.code ++ bytesOf 4 e.orderRef ++ bytesOf 4 e.created ++ [byteOf e.bays.length] ++
      (e.bays.map s.bayReport).flatten⟩ := by
  unfold serveQuery
  rw [h]
  simp only [List.append_assoc, List.singleton_append, List.flatMap_def]

theorem bayReport_holding {b p d : Nat} {t : Int} (hst : (s.bay b).state = .holding) (hp : (s.bay b).profile = some p)
    (ht : (s.bay b).lastTemp = some t) (hd : (s.bay b).deadline = some d) :
    s.bayReport b = [byteOf b, 5, 0xFF, byteOf p] ++ signedBytesOf 2 t ++ [byteOf (s.freshness b)] ++
      bytesOf 2 ((d - s.bankTime) / 10) ++ [0xFF, 0xFF] := by
  have hstate : s.bayReport b = [byteOf b, stateByte .holding] ++ reasonBytes none ++ optionalBytesOf 1 (some p) ++
      temperatureBytesOf (some t) ++ optionalBytesOf 1 (some (s.freshness b)) ++ optionalBytesOf 2 (some (s.secondsUntil d)) ++
      optionalBytesOf 2 none := by
    simp only [State.bayReport, State.reportedFreshness, State.reportedRemaining, State.reportedLoadDue, hst, hp, ht, hd, Option.map_some,
      reduceCtorEq, if_false]
  rw [hstate]
  simp only [optionalBytesOf, bytesOf_one]
  rfl

theorem bayReport_booked {b p l x : Nat} (hst : (s.bay b).state = .booked) (hp : (s.bay b).profile = some p)
    (ht : (s.bay b).lastTemp = none) (hl : (s.bay b).lapseAt = some l) (hx : (s.bay b).expectedLoad = some x) :
    s.bayReport b = [byteOf b, 1, 0xFF, byteOf p, 0x80, 0x00, 0xFF] ++ bytesOf 2 ((l - s.bankTime) / 10) ++
      bytesOf 2 ((x - s.bankTime) / 10) := by
  have hstate : s.bayReport b = [byteOf b, stateByte .booked] ++ reasonBytes none ++ optionalBytesOf 1 (some p) ++
      temperatureBytesOf none ++ optionalBytesOf 1 none ++ optionalBytesOf 2 (some (s.secondsUntil l)) ++
      optionalBytesOf 2 (some (s.secondsUntil x)) := by
    simp only [State.bayReport, State.reportedFreshness, State.reportedRemaining, State.reportedLoadDue, hst, hp, ht, hl, hx,
      Option.map_some, reduceCtorEq, if_false]
  rw [hstate]
  simp only [optionalBytesOf, bytesOf_one]
  rfl

end Query

/-! ### SCAN -/

section Scan

variable {s : State} {o start : Nat}

theorem mem_scanFrom (ho : o = 1 ∨ o = 0) (e : Entry) :
    e ∈ s.scanFrom o start ↔ e ∈ s.directory.entries ∧ (o = 0 → start < e.code) := by
  unfold State.scanFrom
  obtain rfl | rfl := ho <;> simp

theorem scanFrom_ascending (h : s.directory.Ordered) : (s.scanFrom o start).Pairwise fun e f => e.code < f.code := by
  unfold State.scanFrom
  split
  · exact h.ascending
  · exact h.ascending.filter _

theorem serveScan_eq (ho : o = 1 ∨ (o = 0 ∧ start ≤ 999999)) : serveScan s o start = ⟨s, .done,
    bytesOf 2 s.directory.generation ++ [byteOf ((s.scanFrom o start).take 6).length] ++
      (((s.scanFrom o start).take 6).map fun e => bytesOf 3 e.code ++ bytesOf 4 e.orderRef ++ [byteOf e.bays.length]).flatten ++
      [if (s.scanFrom o start).drop 6 = [] then 0 else 1]⟩ := by
  have hflag : flagByte (decide (6 < (s.scanFrom o start).length)) = if (s.scanFrom o start).drop 6 = [] then 0 else 1 := by
    simp only [flagByte, List.drop_eq_nil_iff, ← Nat.not_lt]
    by_cases h : 6 < (s.scanFrom o start).length <;> simp [h]
  unfold serveScan
  rw [if_neg (by omega)]
  dsimp only
  rw [hflag]
  simp only [List.append_assoc, List.cons_append, List.nil_append, List.flatMap_def]

end Scan

/-- Settles O16: QUERY and SCAN by their checks, and the reports they give. -/
theorem directoryReports : Obligations.DirectoryReports := by
  unfold Obligations.DirectoryReports
  refine ⟨?_, ?_⟩
  · intro s k v hs hk hv c found
    have hw : (Instr.query k v).wellFormed = true := by
      simp only [Instr.wellFormed, Bool.and_eq_true, decide_eq_true_eq]
      omega
    refine ⟨fun h => exec_refused rfl hs hw ?_, fun h => ⟨fun hn => exec_refused rfl hs hw ?_, fun e he => ⟨?_, ?_, ?_⟩⟩⟩
    · change serveQuery _ _ _ = _
      unfold serveQuery
      rw [findKey_bad h]
      rfl
    · change serveQuery _ _ _ = _
      unfold serveQuery
      rw [findKey_none (s := s.joined c) h hn]
      rfl
    · exact exec_served (c := c) (u := s.joined c) rfl hs hw (serveQuery_found (s := s.joined c) (findKey_some (s := s.joined c) h he)) rfl
    · exact fun b p d t => bayReport_holding
    · exact fun b p l x => bayReport_booked
  · intro s o start hs hd ho hstart
    have hw : (Instr.scan o start).wellFormed = true := by
      simp only [Instr.wellFormed, Bool.and_eq_true, decide_eq_true_eq]
      omega
    refine ⟨fun h => exec_refused rfl hs hw (if_pos h), fun h => ⟨(s.scanFrom o start).take 6, (s.scanFrom o start).drop 6, ?_, ?_, ?_, ?_, ?_⟩⟩
    · rw [List.take_append_drop]
      exact mem_scanFrom (h.imp_right And.left)
    · rw [List.take_append_drop]
      exact scanFrom_ascending hd
    · exact List.length_take_le _ _
    · intro hne
      rw [Ne, List.drop_eq_nil_iff] at hne
      rw [List.length_take]
      omega
    · exact exec_served (c := .scan o start) (u := s.joined (.scan o start)) rfl hs hw (serveScan_eq (s := s.joined (.scan o start)) h) rfl

end Sys2Proof.Commands
end

section

-- One proof at a time: the proofs here together ask for more threads than the memory limit leaves room for.
set_option Elab.async false

/-! STATUS (R18, R19, R78, R193, R194). -/

namespace Sys2Proof.Commands

open Sys2Proof Sys2Proof.Machine Sys2Proof.Courses Sys2Proof.Acts Sys2Proof.Budgets

section Status

variable {s : State}

/-- The notice sets once those of a list of bays were given up (R19). -/
def givenUp (s : State) (bs : List Nat) : State := s.forBays bs fun s b => s.setNotices b BayNotices.empty

theorem givenUp_frame (s : State) (bs : List Nat) : givenUp s bs = { s with bayNotices := (givenUp s bs).bayNotices } := by
  induction bs generalizing s with
  | nil => rfl
  | cons b bs ih =>
    have hcons : givenUp s (b :: bs) = givenUp (s.setNotices b BayNotices.empty) bs := rfl
    rw [hcons, ih]
    rfl

theorem givenUp_withLink (s : State) (l : OrderLink) (bs : List Nat) : givenUp (withLink s l) bs = withLink (givenUp s bs) l := by
  induction bs generalizing s with
  | nil => rfl
  | cons b bs ih => exact ih (s.setNotices b BayNotices.empty)

theorem givenUp_notices (s : State) {bs : List Nat} (h : ∀ b ∈ bs, b < 48) (c : Nat) :
    (givenUp s bs).notices c = if c ∈ bs then BayNotices.empty else s.notices c := by
  induction bs generalizing s with
  | nil => rfl
  | cons b bs ih =>
    have hcons : givenUp s (b :: bs) = givenUp (s.setNotices b BayNotices.empty) bs := rfl
    have hb : b < 48 := h b (List.mem_cons_self ..)
    rw [hcons, ih _ fun c hc => h c (List.mem_cons_of_mem _ hc)]
    by_cases hc : c = b
    · subst hc
      simp [State.setNotices_notices_self _ _ _ hb]
    · simp [hc, State.setNotices_notices_ne _ _ _ _ (Ne.symm hc)]

theorem mem_waitingBays {b : Nat} : b ∈ s.waitingBays ↔ b < 48 ∧ s.notices b ≠ BayNotices.empty := by
  simp [State.waitingBays, allBays, BayNotices.isEmpty]

theorem waitingBays_nodup : s.waitingBays.Nodup := List.nodup_range.filter _

/-- R18: ATTN of a powered part whose bank set is empty. -/
theorem attn_iff (vdd : s.pins.vdd = true) (bank : s.bankNotices = BankNotices.empty) : s.attn = true ↔ s.waitingBays ≠ [] := by
  have hbays : s.bayNotices.toList = (List.range 48).map s.notices := toList_eq_map_getD s.bayNotices BayNotices.empty
  have hbank : s.bankNotices.isEmpty = true := by rw [bank]; rfl
  rw [State.attn, vdd, hbank, hbays, Ne, State.waitingBays, List.filter_eq_nil_iff]
  simp [allBays]

/-- R19: after the first twelve sets were given up, a set waits just where there were more. -/
theorem waitingBays_givenUp : (givenUp s (s.waitingBays.take 12)).waitingBays ≠ [] ↔ 12 < s.waitingBays.length := by
  have hmem : ∀ b, b ∈ (givenUp s (s.waitingBays.take 12)).waitingBays ↔ b ∈ s.waitingBays.drop 12 := fun b => by
    have hsplit : b ∈ s.waitingBays ↔ b ∈ s.waitingBays.take 12 ∨ b ∈ s.waitingBays.drop 12 := by
      rw [← List.mem_append, List.take_append_drop]
    have hdisjoint : b ∈ s.waitingBays.take 12 → b ∉ s.waitingBays.drop 12 := fun ht hd =>
      (List.disjoint_take_drop waitingBays_nodup (Nat.le_refl 12)) ht hd
    rw [mem_waitingBays, givenUp_notices s fun c hc => (mem_waitingBays.mp (List.mem_of_mem_take hc)).1]
    rw [mem_waitingBays] at hsplit
    split
    · next ht => simpa using hdisjoint ht
    · next ht => exact hsplit.trans (or_iff_right ht)
  have hempty : (givenUp s (s.waitingBays.take 12)).waitingBays = [] ↔ s.waitingBays.drop 12 = [] := by
    rw [List.eq_nil_iff_forall_not_mem, List.eq_nil_iff_forall_not_mem]
    exact forall_congr' fun b => not_congr (hmem b)
  rw [Ne, hempty, List.drop_eq_nil_iff, Nat.not_le]

/-- The data of a STATUS reply (11.8). -/
def statusData (s : State) : List Byte :=
  [byteOf s.bankNotices.bits, byteOf s.link.stickyBits] ++ bytesOf 2 s.link.truncatedCount ++
    bytesOf 2 s.link.crcCount ++ bytesOf 2 s.link.discardedCount ++ bytesOf 2 s.link.broadcastCount ++
    bytesOf 2 s.scanner.overruns ++ [if s.mains.present then 1 else 0, byteOf s.heater.budget.h, byteOf (s.waitingBays.take 12).length] ++
    ((s.waitingBays.take 12).map s.statusReport).flatten ++ [if 12 < s.waitingBays.length then 1 else 0]

/-- What STATUS leaves. -/
def statusTaken (s : State) (o : Nat) : State :=
  if o = 1 then { givenUp s (s.waitingBays.take 12) with
    bankNotices := BankNotices.empty, link := s.link.cleared, scanner := { s.scanner with overruns := 0 } }
  else { givenUp s (s.waitingBays.take 12) with bankNotices := BankNotices.empty }

theorem serveStatus_eq {o : Nat} (ho : o ≤ 1) : serveStatus s o = ⟨statusTaken s o, .done, statusData s⟩ := by
  have hflag : flagByte (decide (12 < s.waitingBays.length)) = if 12 < s.waitingBays.length then 1 else 0 := by simp [flagByte]
  have hframe := givenUp_frame s (s.waitingBays.take 12)
  have hlink : (givenUp s (s.waitingBays.take 12)).link = s.link := by rw [hframe]
  have hscanner : (givenUp s (s.waitingBays.take 12)).scanner = s.scanner := by rw [hframe]
  unfold serveStatus
  rw [if_neg (by omega)]
  dsimp only
  rw [hflag]
  refine congrArg₂ (Served.mk · .done ·) ?_ ?_
  · rw [statusTaken, ← hlink, ← hscanner]
    rfl
  · simp only [statusData, List.flatMap_def, flagByte]

end Status

/-- The state a STATUS row leaves. -/
def statusState (s : State) (o : Nat) : State :=
  { s.served (.status o) .done (statusData s) with
    bankNotices := BankNotices.empty, bayNotices := (givenUp s (s.waitingBays.take 12)).bayNotices
    link := if o = 1 then (s.answeredLink (.status o) .done (statusData s)).cleared else s.answeredLink (.status o) .done (statusData s)
    scanner := if o = 1 then { s.scanner with overruns := 0 } else s.scanner }

theorem statusState_notices (s : State) (o b : Nat) :
    (statusState s o).notices b = if b ∈ s.waitingBays.take 12 then BayNotices.empty else s.notices b :=
  givenUp_notices s (fun _ hc => (mem_waitingBays.mp (List.mem_of_mem_take hc)).1) b

theorem statusState_attn {s : State} (o : Nat) (vdd : s.pins.vdd = true) :
    (statusState s o).attn = true ↔ 12 < s.waitingBays.length :=
  (attn_iff (s := statusState s o) vdd rfl).trans waitingBays_givenUp

theorem exec_status {s : State} {o : Nat} (hs : s.AtRest) (ho : o ≤ 1) : exec (.status o) s = .next (statusState s o) := by
  have hw : (Instr.status o).wellFormed = true := decide_eq_true (by omega)
  have hserve : carryOut (s.joined (.status o)) (.status o) = _ := serveStatus_eq (s := s.joined (.status o)) ho
  have hgiven : givenUp (s.joined (.status o)) ((s.joined (.status o)).waitingBays.take 12) =
      withLink { s with bayNotices := (givenUp s (s.waitingBays.take 12)).bayNotices } (s.joined (.status o)).link := by
    rw [← givenUp_frame]
    exact givenUp_withLink s _ _
  have hdata : statusData (s.joined (.status o)) = statusData s := rfl
  refine (exec_atRest s _ _ hw rfl hs).trans (congrArg _ ?_)
  rw [State.answer, hserve, hdata, statusTaken, hgiven, statusState]
  split <;> rfl

/-- Settles O55: STATUS by its option. -/
theorem statusGivesUpTheNotices : Obligations.StatusGivesUpTheNotices := by
  unfold Obligations.StatusGivesUpTheNotices
  intro s o hs ho waiting taken data
  have hw : (Instr.status o).wellFormed = true := decide_eq_true ho
  have hwaiting : waiting = s.waitingBays := by
    simp only [waiting, State.waitingBays, BayNotices.isEmpty, decide_not]
  have htaken : taken = s.waitingBays.take 12 := by rw [← hwaiting]
  have hdata : data = statusData s := by
    simp only [data, htaken, hwaiting]
    rfl
  have hvdd : s.pins.vdd = true := by
    have hrunning := hs.running
    simp only [State.running, State.powered, Bool.and_eq_true] at hrunning
    exact hrunning.1.1
  clear_value data taken waiting
  subst hwaiting htaken hdata
  refine ⟨fun h => exec_refused rfl hs hw (if_pos h), fun h => ⟨statusState s o, exec_status hs h, rfl, statusState_notices s o, fun hn => ?_, ?_⟩⟩
  · exact Bool.eq_false_iff.mpr fun ha => absurd ((statusState_attn o hvdd).mp ha) (by omega)
  · exact (statusState_attn o hvdd).mpr

end Sys2Proof.Commands
end

section

-- One proof at a time: the proofs here together ask for more threads than the memory limit leaves room for.
set_option Elab.async false

/-! Fields of a stored record: reading, writing and clamping them (R200, R202). -/

namespace Sys2Proof.Records

open Sys2Proof Sys2Proof.Machine

/-! ### Numbers and bytes -/

theorem numberOf_signedBytesOf (k : Nat) (v : Int) : (numberOf (signedBytesOf k v) : Int) = v % (256 ^ k : Nat) := by
  have hpos : (0 : Int) < (256 ^ k : Nat) := by positivity
  have hlt : (v % (256 ^ k : Nat)).toNat < 256 ^ k := by
    have := Int.emod_lt_of_pos v hpos
    have := Int.emod_nonneg v hpos.ne'
    omega
  rw [signedBytesOf, numberOf_bytesOf, Nat.mod_eq_of_lt hlt, Int.toNat_of_nonneg (Int.emod_nonneg v hpos.ne')]

/-- Two's complement of a number that fits. -/
theorem signedOf_signedBytesOf {k : Nat} {v : Int} (low : -(256 ^ k : Nat) ≤ 2 * v) (high : 2 * v < (256 ^ k : Nat)) :
    signedOf (signedBytesOf k v) = v := by
  have hlength : (signedBytesOf k v).length = k := length_bytesOf _ _
  have hnumber := numberOf_signedBytesOf k v
  have hmod : v % (256 ^ k : Nat) = if 0 ≤ v then v else v + (256 ^ k : Nat) := by
    split
    · exact Int.emod_eq_of_lt (by omega) (by omega)
    · rw [← Int.add_emod_right]
      exact Int.emod_eq_of_lt (by omega) (by omega)
  rw [hmod] at hnumber
  unfold signedOf
  rw [hlength]
  generalize (256 ^ k : Nat) = m at *
  split at hnumber <;> split <;> omega

/-! ### Fields -/

/-- A field stands within `n` bytes and its range within what its bytes can hold. -/
structure Fits (n : Nat) (f : FieldSpec) : Prop where
  inside : f.offset + f.size ≤ n
  ordered : f.low ≤ f.high
  signed : f.signed = true → -(256 ^ f.size : Nat) ≤ 2 * f.low ∧ 2 * f.high < (256 ^ f.size : Nat)
  unsigned : f.signed = false → 0 ≤ f.low ∧ f.high < (256 ^ f.size : Nat)

section Fields

variable {f g : FieldSpec} {r r' : List Byte} {v : Int}

theorem slice_congr {o n : Nat} (h : ∀ i, o ≤ i → i < o + n → r'[i]? = r[i]?) : (r'.drop o).take n = (r.drop o).take n := by
  refine List.ext_getElem? fun i => ?_
  rw [List.getElem?_take, List.getElem?_take, List.getElem?_drop, List.getElem?_drop]
  split
  · exact h _ (by omega) (by omega)
  · rfl

theorem read_congr (h : ∀ i, f.offset ≤ i → i < f.offset + f.size → r'[i]? = r[i]?) : f.read r' = f.read r := by
  simp only [FieldSpec.read, fieldOf, slice_congr h]

theorem length_write (h : f.offset + f.size ≤ r.length) (v : Int) : (f.write r v).length = r.length := by
  simp only [FieldSpec.write, List.length_append, List.length_take, List.length_drop, signedBytesOf, length_bytesOf]
  omega

theorem write_slice (h : f.offset + f.size ≤ r.length) : ((f.write r v).drop f.offset).take f.size = signedBytesOf f.size v := by
  have hlength : (signedBytesOf f.size v).length = f.size := length_bytesOf _ _
  have htake : (r.take f.offset).length = f.offset := by simp; omega
  rw [FieldSpec.write, List.append_assoc, List.drop_left' htake, List.take_left' hlength]

theorem write_getElem?_outside (h : f.offset + f.size ≤ r.length) {i : Nat} (hi : i < f.offset ∨ f.offset + f.size ≤ i) :
    (f.write r v)[i]? = r[i]? := by
  have hlength : (signedBytesOf f.size v).length = f.size := length_bytesOf _ _
  have htake : (r.take f.offset).length = f.offset := by simp; omega
  rw [FieldSpec.write, List.append_assoc]
  obtain hi | hi := hi
  · rw [List.getElem?_append_left (by omega), List.getElem?_take_of_lt hi]
  · rw [List.getElem?_append_right (by omega), List.getElem?_append_right (by omega), List.getElem?_drop, htake, hlength]
    congr 1
    omega

theorem read_write (h : f.offset + f.size ≤ r.length) (fits : Fits r.length f) (low : f.low ≤ v) (high : v ≤ f.high) :
    f.read (f.write r v) = v := by
  unfold FieldSpec.read fieldOf
  rw [write_slice h]
  cases hs : f.signed
  · obtain ⟨hlow, hhigh⟩ := fits.unsigned hs
    rw [if_neg Bool.false_ne_true, numberOf_signedBytesOf]
    exact Int.emod_eq_of_lt (by omega) (by omega)
  · obtain ⟨hlow, hhigh⟩ := fits.signed hs
    rw [if_pos rfl]
    exact signedOf_signedBytesOf (by omega) (by omega)

end Fields

/-! ### Clamping (R200, R202) -/

theorem clampTo_within {x low high : Int} (h : low ≤ high) : low ≤ clampTo x low high ∧ clampTo x low high ≤ high := by
  unfold clampTo
  split
  · omega
  · split <;> omega

theorem eq_clampTo_iff {x low high : Int} (h : low ≤ high) : x = clampTo x low high ↔ low ≤ x ∧ x ≤ high := by
  unfold clampTo
  split
  · omega
  · split <;> omega

/-- The fields of a list that a record holds outside their ranges. -/
def outside (fs : List FieldSpec) (r : List Byte) : List FieldSpec := fs.filter fun f => ¬ (f.low ≤ f.read r ∧ f.read r ≤ f.high)

theorem outside_cons_of_in {f : FieldSpec} {r : List Byte} (fs : List FieldSpec) (h : f.low ≤ f.read r ∧ f.read r ≤ f.high) :
    outside (f :: fs) r = outside fs r := List.filter_cons_of_neg fun hn => absurd h (of_decide_eq_true hn)

theorem outside_cons_of_out {f : FieldSpec} {r : List Byte} (fs : List FieldSpec) (h : ¬ (f.low ≤ f.read r ∧ f.read r ≤ f.high)) :
    outside (f :: fs) r = f :: outside fs r := List.filter_cons_of_pos (decide_eq_true h)

/-- What clamping the fields of a list does to a record. -/
structure Clamped (fs : List FieldSpec) (r r' : List Byte) : Prop where
  length : r'.length = r.length
  fields : ∀ f ∈ fs, f.read r' = clampTo (f.read r) f.low f.high
  rest : ∀ i, (∀ f ∈ fs, i < f.offset ∨ f.offset + f.size ≤ i) → r'[i]? = r[i]?

theorem clampFields_clamped {fs : List FieldSpec} {r : List Byte} (apart : fs.Pairwise fun f g => f.offset + f.size ≤ g.offset)
    (fits : ∀ f ∈ fs, Fits r.length f) :
    Clamped fs r (clampFields fs r).1 ∧ (clampFields fs r).2 = (outside fs r).map FieldSpec.offset := by
  induction fs generalizing r with
  | nil => exact ⟨⟨rfl, fun f hf => absurd hf (List.not_mem_nil), fun _ _ => rfl⟩, rfl⟩
  | cons f fs ih =>
    obtain ⟨hapart, hrest⟩ := List.pairwise_cons.mp apart
    have hf := fits f (List.mem_cons_self ..)
    have hin : ∀ g ∈ fs, Fits r.length g := fun g hg => fits g (List.mem_cons_of_mem _ hg)
    have hafter : ∀ i, i < f.offset + f.size → ∀ g ∈ fs, i < g.offset ∨ g.offset + g.size ≤ i := fun i hi g hg =>
      .inl (Nat.lt_of_lt_of_le hi (hapart g hg))
    by_cases hv : f.read r = clampTo (f.read r) f.low f.high
    · have hstep : clampFields (f :: fs) r = clampFields fs r := if_pos hv
      have hinside : f.low ≤ f.read r ∧ f.read r ≤ f.high := (eq_clampTo_iff hf.ordered).mp hv
      obtain ⟨hc, hoffsets⟩ := ih hrest hin
      rw [hstep]
      refine ⟨⟨hc.length, fun g hg => ?_, fun i hi => hc.rest i fun g hg => hi g (List.mem_cons_of_mem _ hg)⟩, ?_⟩
      · obtain rfl | hg := List.mem_cons.mp hg
        · exact (read_congr fun i _ hi => hc.rest i (hafter i hi)).trans hv
        · exact hc.fields g hg
      · rw [hoffsets, outside_cons_of_in fs hinside]
    · have hstep : clampFields (f :: fs) r = ((clampFields fs (f.write r (clampTo (f.read r) f.low f.high))).1,
          f.offset :: (clampFields fs (f.write r (clampTo (f.read r) f.low f.high))).2) := if_neg hv
      have hlength : (f.write r (clampTo (f.read r) f.low f.high)).length = r.length := length_write hf.inside _
      have hsame : ∀ g ∈ fs, g.read (f.write r (clampTo (f.read r) f.low f.high)) = g.read r := fun g hg =>
        read_congr fun i hi _ => write_getElem?_outside hf.inside (.inr (Nat.le_trans (hapart g hg) hi))
      obtain ⟨hc, hoffsets⟩ := ih hrest (r := f.write r (clampTo (f.read r) f.low f.high)) (by rw [hlength]; exact hin)
      have hwithin := clampTo_within (x := f.read r) hf.ordered
      rw [hstep]
      refine ⟨⟨hc.length.trans hlength, fun g hg => ?_, fun i hi => ?_⟩, ?_⟩
      · obtain rfl | hg := List.mem_cons.mp hg
        · exact (read_congr fun i _ hi => hc.rest i (hafter i hi)).trans (read_write hf.inside hf hwithin.1 hwithin.2)
        · rw [hc.fields g hg, hsame g hg]
      · rw [hc.rest i fun g hg => hi g (List.mem_cons_of_mem _ hg)]
        exact write_getElem?_outside hf.inside (hi f (List.mem_cons_self ..))
      · have hout : ¬ (f.low ≤ f.read r ∧ f.read r ≤ f.high) := fun h => hv ((eq_clampTo_iff hf.ordered).mpr h)
        have hothers : outside fs (f.write r (clampTo (f.read r) f.low f.high)) = outside fs r :=
          List.filter_congr fun g hg => by rw [hsame g hg]
        dsimp only
        rw [hoffsets, hothers, outside_cons_of_out fs hout, List.map_cons]

/-- `Fits`, as a test. -/
def fitsIn (n : Nat) (f : FieldSpec) : Bool :=
  decide (f.offset + f.size ≤ n) && decide (f.low ≤ f.high) &&
    (if f.signed then decide (-(256 ^ f.size : Nat) ≤ 2 * f.low) && decide (2 * f.high < (256 ^ f.size : Nat))
    else decide (0 ≤ f.low) && decide (f.high < (256 ^ f.size : Nat)))

theorem fits_of_fitsIn {n : Nat} {f : FieldSpec} (h : fitsIn n f = true) : Fits n f := by
  simp only [fitsIn, Bool.and_eq_true, decide_eq_true_eq] at h
  obtain ⟨⟨hin, hle⟩, hrange⟩ := h
  refine ⟨hin, hle, fun hs => ?_, fun hs => ?_⟩
  · rw [hs, if_pos rfl, Bool.and_eq_true, decide_eq_true_eq, decide_eq_true_eq] at hrange
    exact hrange
  · rw [hs, if_neg Bool.false_ne_true, Bool.and_eq_true, decide_eq_true_eq, decide_eq_true_eq] at hrange
    exact hrange

theorem profileFields_fit : ∀ f ∈ profileFields, Fits 23 f := fun f hf =>
  fits_of_fitsIn ((show ∀ f ∈ profileFields, fitsIn 23 f = true by decide) f hf)

theorem configFields_fit : ∀ f ∈ configFields, Fits 37 f := fun f hf =>
  fits_of_fitsIn ((show ∀ f ∈ configFields, fitsIn 37 f = true by decide) f hf)

theorem profileFields_apart : profileFields.Pairwise fun f g => f.offset + f.size ≤ g.offset := by decide

theorem configFields_apart : configFields.Pairwise fun f g => f.offset + f.size ≤ g.offset := by decide

/-- R200: the bytes of a profile record that no clamped field stands in. -/
theorem profileFields_skip : ∀ i ∈ [0, 8, 9, 15, 16, 17, 18, 19, 20], ∀ f ∈ profileFields, i < f.offset ∨ f.offset + f.size ≤ i := by
  decide

end Sys2Proof.Records
end

section

-- One proof at a time: the proofs here together ask for more threads than the memory limit leaves room for.
set_option Elab.async false

/-! CONFIGURE, PROFILE_WRITE and PROFILE_READ (R199 to R202). -/

namespace Sys2Proof.Commands

open Sys2Proof Sys2Proof.Machine Sys2Proof.Courses Sys2Proof.Acts Sys2Proof.Records

/-! ### A record of another length (R187, R189) -/

section Misfit

variable {s : State} {command : Byte} {l : Nat}

theorem receiveMisfit_short (hs : s.AtRest) (h : l ≤ 59) :
    s.receiveMisfit command l = s.served (.badLength command) .badLength [] := by
  unfold State.receiveMisfit
  rw [if_pos h, s.receiveCommand_atRest _ hs]
  exact s.joined_refused _ _ _ rfl

theorem receiveMisfit_long (hs : s.AtRest) (h : 59 < l) (hl : l ≤ 255) :
    s.receiveMisfit command l = s.served (.tooLong command) .tooLong [] := by
  unfold State.receiveMisfit
  rw [if_neg (by omega), if_pos hl, s.receiveCommand_atRest _ hs]
  exact s.joined_refused _ _ _ rfl

theorem exec_configure_misfit {bs : List Byte} (h : bs.length ≠ 37) :
    exec (.configure bs) s = .next (s.receiveMisfit 0x40 (1 + bs.length)) := congrArg _ (if_neg h)

theorem exec_profileWrite_misfit {n : Nat} {bs : List Byte} (hn : n < 256) (h : bs.length ≠ 23) :
    exec (.profileWrite n bs) s = .next (s.receiveMisfit 0x41 (2 + bs.length)) := by
  change nextIf _ _ _ = _
  rw [if_neg h, nextIf, decide_eq_true (show n < 2 ^ 8 from hn)]
  rfl

end Misfit

/-! ### The services -/

section Serve

variable {s : State} {n : Nat} {bs : List Byte}

theorem serveConfigure_eq (h : s.store.write = none) : serveConfigure s bs =
    ⟨s.beginWrite .configuration (clampFields configFields bs).1, .done,
      byteOf (clampFields configFields bs).2.length :: (clampFields configFields bs).2.map byteOf⟩ := by
  unfold serveConfigure
  rw [h]
  rfl

theorem serveProfileWrite_free (hn : n ≤ 15) (hw : s.store.write = none) (hu : s.slotInUse n = false) : serveProfileWrite s n bs =
    if bs.head? ≠ some inServiceMarker then ⟨s.beginWrite (.slot n) bs, .done, [byteOf n, byteOf 0]⟩
    else if 3 < fieldOf bs 9 1 then refuse s .badValue
    else if !temperaturesOrdered (clampFields profileFields bs).1 then refuse s .badValue
    else ⟨s.beginWrite (.slot n) (clampFields profileFields bs).1, .done,
      [byteOf n, byteOf (clampFields profileFields bs).2.length] ++ (clampFields profileFields bs).2.map byteOf⟩ := by
  unfold serveProfileWrite
  rw [if_neg (by omega), hw, hu]
  rfl

theorem marker_iff (h : bs.length = 23) : bs.head? ≠ some inServiceMarker ↔ bs.headD 0 ≠ 0x5A := by
  cases bs with
  | nil => cases h
  | cons b bs =>
    simp [inServiceMarker]

theorem slotBeingWritten_iff : s.slotBeingWritten n = true ↔ ∃ w, s.store.write = some w ∧ w.target = .slot n := by
  unfold State.slotBeingWritten
  cases s.store.write <;> simp

theorem slotInUse_eq : s.slotInUse n = allBays.any fun b => (s.bay b).profile = some n := by
  have hbays : s.bays.toList = (List.range 48).map s.bay := Budgets.toList_eq_map_getD s.bays Bay.empty
  rw [State.slotInUse, hbays, List.any_map]
  rfl

theorem temperaturesOrdered_iff : temperaturesOrdered bs = true ↔
    (profileOf bs).floor ≤ (profileOf bs).setpoint ∧ (profileOf bs).setpoint ≤ (profileOf bs).ceiling := by
  rw [temperaturesOrdered, Bool.and_eq_true, decide_eq_true_eq, decide_eq_true_eq]

theorem serveProfileRead_eq (hn : n ≤ 15) (h : s.slotBeingWritten n = false) : serveProfileRead s n = ⟨s, .done, [byteOf n,
      match s.slotCondition n with | .inService => 0 | .empty => 1 | .failed => 2] ++ s.slotRecord n ++
        [if (allBays.any fun b => (s.bay b).profile = some n) then 1 else 0]⟩ := by
  unfold serveProfileRead
  rw [if_neg (by omega), h, slotInUse_eq]
  cases s.slotCondition n <;> rfl

end Serve

/-- Settles O56: the store commands by their checks, on records of the right length and of another. -/
theorem storeCommands : Obligations.StoreCommands := by
  unfold Obligations.StoreCommands
  refine ⟨?_, ?_, ?_, ?_⟩
  · intro s n bs hs hn
    refine ⟨fun h hl => ?_, fun h hl => ?_, fun h hl => ?_, fun h hl => ?_⟩
    · rw [exec_configure_misfit h, receiveMisfit_short hs (by omega)]
    · rw [exec_configure_misfit (by omega), receiveMisfit_long hs (by omega) (by omega)]
    · rw [exec_profileWrite_misfit hn h, receiveMisfit_short hs (by omega)]
    · rw [exec_profileWrite_misfit hn (by omega), receiveMisfit_long hs (by omega) (by omega)]
  · intro s bs hs hl
    have hw : (Instr.configure bs).wellFormed = true := decide_eq_true hl
    refine ⟨fun h => exec_refused rfl hs hw (if_pos h), fun h => ⟨(clampFields configFields bs).1, ?_⟩⟩
    obtain ⟨hclamped, hoffsets⟩ := clampFields_clamped configFields_apart (r := bs) (by rw [hl]; exact configFields_fit)
    refine ⟨hclamped.length.trans hl, hclamped.fields, ?_⟩
    have hserve := serveConfigure_eq (s := s.joined (.configure bs)) (bs := bs) h
    rw [hoffsets, List.length_map, List.map_map] at hserve
    exact exec_served (c := .configure bs) rfl hs hw hserve rfl
  · intro s n bs hs hn hl answers begins free
    have hw : (Instr.profileWrite n bs).wellFormed = true := by
      simp only [Instr.wellFormed, Bool.and_eq_true, decide_eq_true_eq]
      exact ⟨hn, hl⟩
    have refused : ∀ r, serveProfileWrite (s.joined (.profileWrite n bs)) n bs = refuse (s.joined (.profileWrite n bs)) r → answers r [] :=
      fun r h => exec_refused (c := .profileWrite n bs) rfl hs hw h
    have begun : ∀ data bs', serveProfileWrite (s.joined (.profileWrite n bs)) n bs =
        ⟨(s.joined (.profileWrite n bs)).beginWrite (.slot n) bs', .done, data⟩ → begins data bs' :=
      fun data bs' h => exec_served (c := .profileWrite n bs) rfl hs hw h rfl
    have served : free → _ := fun hf =>
      serveProfileWrite_free (s := s.joined (.profileWrite n bs)) (bs := bs) hf.1 hf.2.1 hf.2.2
    refine ⟨fun h => refused _ (if_pos h), fun h hwr => refused _ ?_, fun h hwr hu => refused _ ?_, fun hf hm => begun _ _ ?_,
      fun hf hm hmode => refused _ ?_, fun hf hm hmode => ⟨(clampFields profileFields bs).1, ?_⟩⟩
    · exact (if_neg (by omega)).trans (if_pos hwr)
    · exact (if_neg (by omega)).trans ((if_neg (by
        rw [show (s.joined (.profileWrite n bs)).store.write = none from hwr]
        decide)).trans (if_pos hu))
    · exact (served hf).trans (if_pos ((marker_iff hl).mpr hm))
    · exact (served hf).trans ((if_neg fun hne => (marker_iff hl).mp hne hm).trans (if_pos hmode))
    · obtain ⟨hclamped, hoffsets⟩ := clampFields_clamped profileFields_apart (r := bs) (by rw [hl]; exact profileFields_fit)
      have hserve := (served hf).trans ((if_neg fun hne => (marker_iff hl).mp hne hm).trans (if_neg (by omega)))
      refine ⟨hclamped.length.trans hl, hclamped.fields, fun i hi => ?_, fun ho => begun _ _ ?_, fun ho => refused _ ?_⟩
      · rw [List.getD_eq_getElem?_getD, List.getD_eq_getElem?_getD, hclamped.rest i (profileFields_skip i hi)]
      · refine hserve.trans ((if_neg ?_).trans ?_)
        · rw [temperaturesOrdered_iff.mpr ho]
          decide
        · rw [hoffsets, List.length_map, List.map_map]
          rfl
      · refine hserve.trans (if_pos ?_)
        rw [Bool.eq_false_iff.mpr fun h => ho (temperaturesOrdered_iff.mp h)]
        rfl
  · intro s n hs hn answers written
    have hw : (Instr.profileRead n).wellFormed = true := decide_eq_true hn
    refine ⟨fun h => exec_refused rfl hs hw (if_pos h), fun h hwr => exec_refused rfl hs hw ?_, fun h hwr => ?_⟩
    · exact (if_neg (by omega)).trans (if_pos (slotBeingWritten_iff.mpr hwr))
    · have hfree : (s.joined (.profileRead n)).slotBeingWritten n = false :=
        Bool.eq_false_iff.mpr fun hb => hwr (slotBeingWritten_iff (s := s).mp hb)
      exact exec_served (c := .profileRead n) (u := s.joined (.profileRead n)) rfl hs hw (serveProfileRead_eq h hfree) rfl

end Sys2Proof.Commands
end

section

-- One proof at a time: the proofs here together ask for more threads than the memory limit leaves room for.
set_option Elab.async false

/-! AMEND (R28, R54 to R56, R110, R111). -/

namespace Sys2Proof.Commands

open Sys2Proof Sys2Proof.Machine Sys2Proof.Courses Sys2Proof.Acts Sys2Proof.Entries Sys2Proof.Expiries

/-! ### An operation on each bay of a list -/

section Each

variable {α : Type} {f : State → Nat → State} {π : State → Nat → α}

/-- What is kept of each bay, where an operation on one bay neither touches nor reads it of another. -/
theorem forBays_read (own : ∀ s b c, c ≠ b → π (f s b) c = π s c) (reads : ∀ s b c, c ≠ b → c < 48 → π (f (f s b) c) c = π (f s c) c)
    {bs : List Nat} (distinct : bs.Nodup) (within : ∀ b ∈ bs, b < 48) (s : State) (c : Nat) :
    π (s.forBays bs f) c = if c ∈ bs then π (f s c) c else π s c := by
  induction bs generalizing s with
  | nil => rfl
  | cons b bs ih =>
    obtain ⟨hb, hdistinct⟩ := List.nodup_cons.mp distinct
    have hcons : s.forBays (b :: bs) f = (f s b).forBays bs f := rfl
    rw [hcons, ih hdistinct fun c hc => within c (List.mem_cons_of_mem _ hc)]
    by_cases hc : c = b
    · subst hc
      rw [if_neg hb, if_pos (List.mem_cons_self ..)]
    · by_cases hin : c ∈ bs
      · rw [if_pos hin, if_pos (List.mem_cons_of_mem _ hin), reads s b c hc (within c (List.mem_cons_of_mem _ hin))]
      · rw [if_neg hin, if_neg (by simp [hc, hin]), own s b c hc]

/-- A relation that each operation keeps, kept by all of them. -/
theorem forBays_keeps {R : State → State → Prop} (refl : ∀ s, R s s) (trans : ∀ s t u, R s t → R t u → R s u)
    (step : ∀ s b, R s (f s b)) (bs : List Nat) (s : State) : R s (s.forBays bs f) := by
  induction bs generalizing s with
  | nil => exact refl s
  | cons b bs ih => exact trans _ _ _ (step s b) (ih (f s b))

/-- Only records of bays differ. -/
def OnlyRecords (s t : State) : Prop := t = { s with bays := t.bays }

theorem OnlyRecords.trans {s t u : State} (h : OnlyRecords s t) (h' : OnlyRecords t u) : OnlyRecords s u := by
  unfold OnlyRecords at *
  rw [h', h]

theorem forBays_onlyRecords (step : ∀ s b, OnlyRecords s (f s b)) (bs : List Nat) (s : State) : OnlyRecords s (s.forBays bs f) :=
  forBays_keeps (R := OnlyRecords) (fun _ => rfl) (fun _ _ _ => OnlyRecords.trans) step bs s

end Each

/-- R23: the bays of an entry. -/
theorem entry_bays {d : Directory} (h : d.Ordered) {e : Entry} (he : e ∈ d.entries) : e.bays.Nodup ∧ ∀ b ∈ e.bays, b < 48 := by
  obtain ⟨-, -, hasc, hlt⟩ := h.bays e he
  exact ⟨hasc.imp Nat.ne_of_lt, hlt⟩

/-! ### AMEND's checks (R54) -/

section Checks

variable {s : State} {ref form v : Nat}

theorem serveAmend_bad (h : 2 < form ∨ ref = 0 ∨ ¬ amendValueFits form v) : serveAmend s ref form v = refuse s .badValue := if_pos h

theorem serveAmend_unknown (hf : form ≤ 2) (h0 : 0 < ref) (hv : amendValueFits form v = true) (hn : s.findOrder ref = none) :
    serveAmend s ref form v = refuse s .notFound := by
  unfold serveAmend
  rw [if_neg (by rw [hv]; simp; omega), hn]

theorem serveAmend_found {e : Entry} (hf : form ≤ 2) (h0 : 0 < ref) (hv : amendValueFits form v = true) (he : s.findOrder ref = some e) :
    serveAmend s ref form v = if form = amendFormNewCode then serveNewCode s e v
      else if form = amendFormExtend then serveExtend s e v else serveNewLoad s e v := by
  unfold serveAmend
  rw [if_neg (by rw [hv]; simp; omega), he]

theorem newCode_fits : amendValueFits 0 v = true ↔ v ≤ 999999 := decide_eq_true_iff

theorem extend_fits : amendValueFits 1 v = true ↔ 1 ≤ v ∧ v ≤ 120 := by
  simp [amendValueFits, amendFormNewCode, amendFormExtend]

theorem newLoad_fits : amendValueFits 2 v = true ↔ v ≤ 7200 := by
  simp [amendValueFits, amendFormNewCode, amendFormExtend]

end Checks

theorem wellFormed_amend {ref v : Nat} (hr : ref < 4294967296) (hv : v < 16777216) :
    (Instr.amendNewCode ref v).wellFormed = true ∧ (Instr.amendExtend ref v).wellFormed = true ∧
      (Instr.amendNewLoad ref v).wellFormed = true := by
  simp only [Instr.wellFormed, Bool.and_eq_true, decide_eq_true_eq]
  omega

/-! ### NEW_CODE (R28, R55) -/

/-- The state NEW_CODE leaves. -/
def recoded (s : State) (e : Entry) (code : Nat) : State :=
  ({ s with directory := s.directory.rekey e code } : State).forBays e.bays fun s b => s.setBay b { s.bay b with entry := some code }

theorem recoded_frame (s : State) (e : Entry) (code : Nat) :
    recoded s e code = { s with directory := s.directory.rekey e code, bays := (recoded s e code).bays } :=
  forBays_onlyRecords (f := fun s b => s.setBay b { s.bay b with entry := some code }) (fun _ _ => rfl) e.bays
    { s with directory := s.directory.rekey e code }

/-- Settles O20: NEW_CODE by its checks, and the directory and records it leaves. -/
theorem amendNewCode : Obligations.AmendNewCode := by
  unfold Obligations.AmendNewCode
  refine ⟨fun s ref f v hf => serveAmend_bad (.inl hf), ?_, ?_⟩
  · intro s ref v hs hr hv
    have hw := (wellFormed_amend hr hv).1
    refine ⟨fun h => exec_refused (c := .amend ref 0 v) rfl hs hw (serveAmend_bad (.inr ?_)), fun h0 hle hn =>
      exec_refused (c := .amend ref 0 v) rfl hs hw (serveAmend_unknown (by omega) h0 (newCode_fits.mpr hle) hn)⟩
    rw [newCode_fits]
    omega
  · intro s ref v e hs hd h0 hr hv he
    have hw := (wellFormed_amend (v := v) hr (by omega)).1
    have hin := (findOrder_some he).1
    have hserve : carryOut (s.joined (.amend ref 0 v)) (.amend ref 0 v) = serveNewCode (s.joined (.amend ref 0 v)) e v :=
      serveAmend_found (s := s.joined (.amend ref 0 v)) (by omega) h0 (newCode_fits.mpr hv) he
    refine ⟨fun hc => exec_refused rfl hs hw (hserve.trans (if_pos hc)), fun hc => ?_⟩
    have hfree := findCode_none hc
    have hframe := recoded_frame (s.joined (.amend ref 0 v)) e v
    have hbay : ∀ b, (recoded (s.joined (.amend ref 0 v)) e v).bay b =
        if b ∈ e.bays ∧ b < 48 then { s.bay b with entry := some v } else s.bay b := fun b => renamed_bay e.bays (some v) b
    have hdone : carryOut (s.joined (.amend ref 0 v)) (.amend ref 0 v) =
        ⟨recoded (s.joined (.amend ref 0 v)) e v, .done, bytesOf 3 v⟩ :=
      hserve.trans (if_neg (by rw [show (s.joined (.amend ref 0 v)).findCode v = none from hc]; decide))
    generalize recoded (s.joined (.amend ref 0 v)) e v = u at hframe hbay hdone
    have hdirectory : u.directory = s.directory.rekey e v := (congrArg State.directory hframe).trans rfl
    have hlink : u.link = (s.joined (.amend ref 0 v)).link := (congrArg State.link hframe).trans rfl
    refine ⟨_, exec_served rfl hs hw hdone hlink, ?_, ?_, ?_, fun f => ?_, fun b => ?_⟩
    · rw [hframe]
      rfl
    · refine (congrArg Directory.Ordered hdirectory).mpr ?_
      exact rekey_ordered hd hin hv hfree
    · exact congrArg Directory.generation hdirectory
    · have hmem : f ∈ u.directory.entries ↔ f = { e with code := v } ∨ (f ∈ s.directory.entries ∧ f ≠ e) := by
        rw [hdirectory]
        exact mem_rekey hd hin
      exact hmem.trans or_comm
    · refine (hbay b).trans (if_congr ?_ rfl rfl)
      exact and_iff_left_of_imp ((entry_bays hd hin).2 b)

end Sys2Proof.Commands
end

section

-- One proof at a time: the proofs here together ask for more threads than the memory limit leaves room for.
set_option Elab.async false

/-! AMEND EXTEND and NEW_LOAD (R45, R56, R110, R111). -/

namespace Sys2Proof.Commands

open Sys2Proof Sys2Proof.Machine Sys2Proof.Courses Sys2Proof.Acts Sys2Proof.Entries Sys2Proof.Expiries

/-! ### EXTEND -/

section Extend

variable {s : State} {m b : Nat}

/-- R110: the states EXTEND grants minutes in. -/
def Held (s : State) (b : Nat) : Prop := (s.bay b).state = .holding ∨ (s.bay b).state = .releasing

theorem granted_held (h : Held s b) : s.granted m b = min m ((s.boundProfile b).allowance - (s.bay b).extUsed.getD 0) := by
  unfold State.granted
  obtain h | h := h <;> rw [h]

theorem granted_not_held (h : ¬ Held s b) : s.granted m b = 0 := by
  unfold State.granted
  unfold Held at h
  cases hst : (s.bay b).state <;> simp [hst] at h ⊢

theorem extendRemaining_held (h : Held s b) : s.extendRemaining b = (s.bay b).deadline.map s.secondsUntil := by
  unfold State.extendRemaining
  obtain h | h := h <;> rw [h]

theorem extendRemaining_not_held (h : ¬ Held s b) : s.extendRemaining b = none := by
  unfold State.extendRemaining
  unfold Held at h
  cases hst : (s.bay b).state <;> simp [hst] at h ⊢

theorem extendBay_held (h : Held s b) : s.extendBay m b = s.setBay b { s.bay b with
    extUsed := (s.bay b).extUsed.map (· + min m ((s.boundProfile b).allowance - (s.bay b).extUsed.getD 0))
    deadline := (s.bay b).deadline.map fun d =>
      min (d + 600 * min m ((s.boundProfile b).allowance - (s.bay b).extUsed.getD 0)) 4294967295 } := by
  unfold State.extendBay
  rw [granted_held h]
  dsimp only
  obtain h | h := h <;> rw [h] <;> rfl

theorem extendBay_not_held (h : ¬ Held s b) : s.extendBay m b = s := by
  unfold State.extendBay
  unfold Held at h
  cases hst : (s.bay b).state <;> simp [hst] at h ⊢

theorem extendBay_onlyRecords (s : State) (m b : Nat) : OnlyRecords s (s.extendBay m b) := by
  by_cases h : Held s b
  · rw [extendBay_held h]
    rfl
  · rw [extendBay_not_held h]
    rfl

theorem extendBay_own {c : Nat} (h : c ≠ b) : (s.extendBay m b).bay c = s.bay c := by
  by_cases hh : Held s b
  · rw [extendBay_held hh, State.setBay_bay_ne _ _ _ _ h.symm]
  · rw [extendBay_not_held hh]

/-- EXTEND on one bay reads its record and the profile store. -/
theorem extendBay_congr {t : State} (store : t.store = s.store) (bay : t.bay b = s.bay b) (hb : b < 48) :
    (t.extendBay m b).bay b = (s.extendBay m b).bay b := by
  have hprofile : t.boundProfile b = s.boundProfile b := Completions.boundProfile_congr store (by rw [bay])
  by_cases h : Held s b
  · have ht : Held t b := by unfold Held; rw [bay]; exact h
    rw [extendBay_held h, extendBay_held ht, State.setBay_bay_self _ _ _ hb, State.setBay_bay_self _ _ _ hb, hprofile, bay]
  · have ht : ¬ Held t b := by unfold Held; rw [bay]; exact h
    rw [extendBay_not_held h, extendBay_not_held ht, bay]

theorem extendBays_bay {bs : List Nat} (distinct : bs.Nodup) (within : ∀ b ∈ bs, b < 48) (s : State) (c : Nat) :
    (s.forBays bs fun s b => s.extendBay m b).bay c = if c ∈ bs then (s.extendBay m c).bay c else s.bay c :=
  forBays_read (π := State.bay) (f := fun s b => s.extendBay m b) (fun _ _ _ hc => extendBay_own hc)
    (fun s b _ hc hlt => extendBay_congr ((congrArg State.store (extendBay_onlyRecords s m b)).trans rfl) (extendBay_own hc) hlt)
    distinct within s c

end Extend

/-- Settles O21: EXTEND by its checks, and the grants it makes. -/
theorem amendExtend : Obligations.AmendExtend := by
  unfold Obligations.AmendExtend
  refine ⟨?_, ?_⟩
  · intro s ref m hs hr hm
    have hw := (wellFormed_amend hr hm).2.1
    refine ⟨fun h => exec_refused (c := .amend ref 1 m) rfl hs hw (serveAmend_bad (.inr ?_)), fun h0 h1 hle hn =>
      exec_refused (c := .amend ref 1 m) rfl hs hw (serveAmend_unknown (by omega) h0 (extend_fits.mpr ⟨h1, hle⟩) hn)⟩
    rw [extend_fits]
    omega
  · intro s ref m e hs hd h0 hr h1 hm he held granted
    have hw := (wellFormed_amend (v := m) hr (by omega)).2.1
    obtain ⟨hnodup, hlt⟩ := entry_bays hd (findOrder_some he).1
    have hserve : carryOut (s.joined (.amend ref 1 m)) (.amend ref 1 m) = serveExtend (s.joined (.amend ref 1 m)) e m :=
      serveAmend_found (s := s.joined (.amend ref 1 m)) (by omega) h0 (extend_fits.mpr ⟨h1, hm⟩) he
    have hframe := forBays_onlyRecords (f := fun s b => s.extendBay m b) (fun s b => extendBay_onlyRecords s m b) e.bays
      (s.joined (.amend ref 1 m))
    have hbay := extendBays_bay (m := m) hnodup hlt (s.joined (.amend ref 1 m))
    unfold serveExtend at hserve
    generalize (s.joined (.amend ref 1 m)).forBays e.bays (fun s b => s.extendBay m b) = u at hframe hbay hserve
    have hlink : u.link = (s.joined (.amend ref 1 m)).link := (congrArg State.link hframe).trans rfl
    have hheld : ∀ b ∈ e.bays, held b → u.bay b = { s.bay b with
        extUsed := (s.bay b).extUsed.map (· + granted b)
        deadline := (s.bay b).deadline.map fun d => min (d + 600 * granted b) 4294967295 } := fun b hb hh => by
      rw [hbay b, if_pos hb, extendBay_held (s := s.joined (.amend ref 1 m)) hh]
      exact State.setBay_bay_self _ _ _ (hlt b hb)
    have hkept : ∀ b, ¬ (b ∈ e.bays ∧ held b) → u.bay b = s.bay b := fun b hn => by
      rw [hbay b]
      split
      · next hb => rw [extendBay_not_held (s := s.joined (.amend ref 1 m)) fun hh => hn ⟨hb, hh⟩]; rfl
      · rfl
    dsimp only at hserve
    generalize hdata : byteOf e.bays.length :: List.flatMap _ e.bays = data at hserve
    refine ⟨_, data, exec_served rfl hs hw hserve hlink, ?_, hheld, hkept, ?_⟩
    · rw [hframe]
      rfl
    · rw [← hdata, List.flatMap_def]
      refine congrArg (fun l => byteOf e.bays.length :: List.flatten l) (List.map_congr_left fun b hb => ?_)
      have htime : u.bankTime = s.bankTime := (congrArg State.bankTime hframe).trans rfl
      have hstate : (u.bay b).state = (s.bay b).state := by
        by_cases hh : held b
        · rw [hheld b hb hh]
        · rw [hkept b fun h => hh h.2]
      have hseconds : u.secondsUntil = fun d => (d - s.bankTime) / 10 := by
        funext d
        rw [State.secondsUntil, htime]
      rw [hstate]
      by_cases hh : held b
      · have hu : Held u b := by unfold Held; rw [hstate]; exact hh
        rw [if_pos hh, if_pos hh, granted_held (s := s.joined (.amend ref 1 m)) hh, extendRemaining_held hu, hseconds]
        rfl
      · have hu : ¬ Held u b := by unfold Held; rw [hstate]; exact hh
        rw [if_neg hh, if_neg hh, granted_not_held (s := s.joined (.amend ref 1 m)) hh, extendRemaining_not_held hu]
        rfl

/-! ### NEW_LOAD -/

section Retime

variable {s : State} {v b : Nat}

/-- R56: the record with its new times. -/
def retimed (s : State) (v b : Nat) : Bay :=
  { s.bay b with
      expectedLoad := some (min (s.bankTime + 10 * v) 4294967295)
      lapseAt := some (min (min (s.bankTime + 10 * v) 4294967295 + 10 * s.config.lapseGrace) 4294967295) }

/-- R56: the preheat_start of the new time. -/
def newPreheat (s : State) (v b : Nat) : Nat := min (s.bankTime + 10 * v) 4294967295 - 600 * (s.boundProfile b).lead

theorem retimeBay_eq : s.retimeBay v b = match (s.bay b).state with
    | .booked => (s.setBay b { retimed s v b with preheatStart := some (newPreheat s v b) }).preheatIfReached b
    | .preheating | .ready => s.setBay b (retimed s v b)
    | .vacant | .loading | .holding | .releasing | .collecting | .withdrawn | .outOfService => s := rfl

theorem retimeBay_ahead (h : (s.bay b).state = .booked) (hb : b < 48) (ha : s.bankTime < newPreheat s v b) :
    s.retimeBay v b = s.setBay b { retimed s v b with preheatStart := some (newPreheat s v b) } := by
  rw [retimeBay_eq, h]
  refine if_neg ?_
  rw [State.setBay_bay_self _ _ _ hb]
  exact fun hr => absurd (Completions.reached_some.mp hr) (Nat.not_le.mpr ha)

theorem retimeBay_heats (h : (s.bay b).state = .booked) (hb : b < 48) (ha : newPreheat s v b ≤ s.bankTime) :
    s.retimeBay v b = { s with
      bays := s.bays.setIfInBounds b
        { retimed s v b with state := .preheating, preheatStart := none, lastTemp := none, demand := 16 }
      scanner := { s.scanner with rounds := s.scanner.rounds.setIfInBounds b none } } := by
  have hself := State.setBay_bay_self s b { retimed s v b with preheatStart := some (newPreheat s v b) } hb
  have hretimed : s.retimeBay v b =
      (s.setBay b { retimed s v b with preheatStart := some (newPreheat s v b) }).enterPreheating b := by
    rw [retimeBay_eq, h]
    refine if_pos ?_
    rw [State.setBay_bay_self _ _ _ hb]
    exact Completions.reached_some.mpr ha
  rw [hretimed, enterPreheating_eq (by rw [hself]; exact h), hself]
  simp only [State.setBay, setIfInBounds_twice]

theorem retimeBay_warm (h : (s.bay b).state = .preheating ∨ (s.bay b).state = .ready) :
    s.retimeBay v b = s.setBay b (retimed s v b) := by
  rw [retimeBay_eq]
  obtain h | h := h <;> rw [h]

theorem retimeBay_other (h : (s.bay b).state.retimed = false) : s.retimeBay v b = s := by
  rw [retimeBay_eq]
  cases hst : (s.bay b).state <;> simp [hst, BayState.retimed] at h ⊢

end Retime

end Sys2Proof.Commands
end

section

-- One proof at a time: the proofs here together ask for more threads than the memory limit leaves room for.
set_option Elab.async false

/-! AMEND NEW_LOAD on an order (R56). -/

namespace Sys2Proof.Commands

open Sys2Proof Sys2Proof.Machine Sys2Proof.Courses Sys2Proof.Acts Sys2Proof.Entries Sys2Proof.Expiries

section Retime

variable {s : State} {v b : Nat}

/-- Only records and rounds in progress differ. -/
def OnlyRounds (s t : State) : Prop := t = { s with bays := t.bays, scanner := { s.scanner with rounds := t.scanner.rounds } }

theorem OnlyRounds.trans {s t u : State} (h : OnlyRounds s t) (h' : OnlyRounds t u) : OnlyRounds s u := by
  unfold OnlyRounds at *
  rw [h', h]

/-- What NEW_LOAD changes of a bay. -/
def recordAndRound (s : State) (b : Nat) : Bay × Option Samples := (s.bay b, s.scanner.rounds.getD b none)

/-- The four ways NEW_LOAD treats a bay (R56). -/
inductive Retiming (s : State) (v b : Nat) : Prop where
  | ahead (h : (s.bay b).state = .booked) (hp : s.bankTime < newPreheat s v b)
  | heats (h : (s.bay b).state = .booked) (hp : newPreheat s v b ≤ s.bankTime)
  | warm (h : (s.bay b).state = .preheating ∨ (s.bay b).state = .ready)
  | other (h : (s.bay b).state.retimed = false)

theorem retiming (s : State) (v b : Nat) : Retiming s v b := by
  cases h : (s.bay b).state with
  | booked =>
    obtain hp | hp := Nat.lt_or_ge s.bankTime (newPreheat s v b)
    · exact .ahead h hp
    · exact .heats h hp
  | preheating => exact .warm (.inl h)
  | ready => exact .warm (.inr h)
  | vacant | loading | holding | releasing | collecting | withdrawn | outOfService => exact .other (by rw [h]; rfl)

theorem retimeBay_onlyRounds (s : State) (v b : Nat) : OnlyRounds s (s.retimeBay v b) := by
  cases retiming s v b with
  | ahead h hp => rw [retimeBay_ahead h (lt_of_state h) hp]; rfl
  | heats h hp => rw [retimeBay_heats h (lt_of_state h) hp]; rfl
  | warm h => rw [retimeBay_warm h]; rfl
  | other h => rw [retimeBay_other h]; rfl

theorem retimeBay_own {c : Nat} (hc : c ≠ b) : recordAndRound (s.retimeBay v b) c = recordAndRound s c := by
  have hbay : ∀ r, (s.setBay b r).bay c = s.bay c := fun r => State.setBay_bay_ne _ _ _ _ hc.symm
  cases retiming s v b with
  | ahead h hp =>
    rw [retimeBay_ahead h (lt_of_state h) hp]
    exact Prod.ext (hbay _) rfl
  | heats h hp =>
    rw [retimeBay_heats h (lt_of_state h) hp]
    exact Prod.ext (hbay _) (getD_setIfInBounds_ne _ _ _ _ _ hc.symm)
  | warm h =>
    rw [retimeBay_warm h]
    exact Prod.ext (hbay _) rfl
  | other h => rw [retimeBay_other h]

/-- NEW_LOAD on one bay, by the bay's state. -/
theorem retimeBay_here (hb : b < 48) : recordAndRound (s.retimeBay v b) b =
    if (s.bay b).state = .booked then
      if s.bankTime < newPreheat s v b then
        ({ retimed s v b with preheatStart := some (newPreheat s v b) }, s.scanner.rounds.getD b none)
      else ({ retimed s v b with state := .preheating, preheatStart := none, lastTemp := none, demand := 16 }, none)
    else if (s.bay b).state = .preheating ∨ (s.bay b).state = .ready then (retimed s v b, s.scanner.rounds.getD b none)
    else recordAndRound s b := by
  have hself : ∀ r, (s.setBay b r).bay b = r := fun r => State.setBay_bay_self _ _ _ hb
  cases retiming s v b with
  | ahead h hp =>
    rw [if_pos h, if_pos hp, retimeBay_ahead h hb hp]
    exact Prod.ext (hself _) rfl
  | heats h hp =>
    rw [if_pos h, if_neg (Nat.not_lt.mpr hp), retimeBay_heats h hb hp]
    exact Prod.ext (hself _) (getD_setIfInBounds_self _ _ _ _ hb)
  | warm h =>
    rw [if_neg (by obtain h | h := h <;> rw [h] <;> decide), if_pos h, retimeBay_warm h]
    exact Prod.ext (hself _) rfl
  | other h =>
    rw [if_neg (fun hn => by rw [hn] at h; cases h), if_neg (fun hn => by obtain hn | hn := hn <;> rw [hn] at h <;> cases h),
      retimeBay_other h]

theorem retimeBay_congr {t : State} (frame : OnlyRounds s t) (same : recordAndRound t b = recordAndRound s b) (hb : b < 48) :
    recordAndRound (t.retimeBay v b) b = recordAndRound (s.retimeBay v b) b := by
  have hbay : t.bay b = s.bay b := congrArg Prod.fst same
  have hround : t.scanner.rounds.getD b none = s.scanner.rounds.getD b none := congrArg Prod.snd same
  have htime : t.bankTime = s.bankTime := (congrArg State.bankTime frame).trans rfl
  have hconfig : t.config = s.config := (congrArg State.config frame).trans rfl
  have hprofile : t.boundProfile b = s.boundProfile b :=
    Completions.boundProfile_congr ((congrArg State.store frame).trans rfl) (by rw [hbay])
  have hretimed : retimed t v b = retimed s v b := by simp only [retimed, hbay, htime, hconfig]
  have hpreheat : newPreheat t v b = newPreheat s v b := by simp only [newPreheat, hprofile, htime]
  rw [retimeBay_here hb, retimeBay_here hb, hretimed, hpreheat, htime, hbay, hround, same]

theorem retimeBays_here {bs : List Nat} (distinct : bs.Nodup) (within : ∀ b ∈ bs, b < 48) (s : State) (c : Nat) :
    recordAndRound (s.forBays bs fun s b => s.retimeBay v b) c =
      if c ∈ bs then recordAndRound (s.retimeBay v c) c else recordAndRound s c :=
  forBays_read (π := recordAndRound) (f := fun s b => s.retimeBay v b) (fun _ _ _ hc => retimeBay_own hc)
    (fun s b _ hc hlt => retimeBay_congr (retimeBay_onlyRounds s v b) (retimeBay_own hc) hlt) distinct within s c

end Retime

/-- Settles O22: NEW_LOAD by its checks, and the times it sets. -/
theorem amendNewLoad : Obligations.AmendNewLoad := by
  unfold Obligations.AmendNewLoad
  refine ⟨?_, ?_⟩
  · intro s ref v hs hr hv
    have hw := (wellFormed_amend hr hv).2.2
    refine ⟨fun h => exec_refused (c := .amend ref 2 v) rfl hs hw (serveAmend_bad (.inr ?_)), fun h0 hle hn =>
      exec_refused (c := .amend ref 2 v) rfl hs hw (serveAmend_unknown (by omega) h0 (newLoad_fits.mpr hle) hn)⟩
    rw [newLoad_fits]
    omega
  · intro s ref v e hs hd h0 hr hv he expected lapse preheat timed
    have hw := (wellFormed_amend (v := v) hr (by omega)).2.2
    obtain ⟨hnodup, hlt⟩ := entry_bays hd (findOrder_some he).1
    have hserve : carryOut (s.joined (.amend ref 2 v)) (.amend ref 2 v) = serveNewLoad (s.joined (.amend ref 2 v)) e v :=
      serveAmend_found (s := s.joined (.amend ref 2 v)) (by omega) h0 (newLoad_fits.mpr hv) he
    have hframe := forBays_keeps (f := fun s b => s.retimeBay v b) (R := OnlyRounds) (fun _ => rfl) (fun _ _ _ => OnlyRounds.trans)
      (fun s b => retimeBay_onlyRounds s v b) e.bays (s.joined (.amend ref 2 v))
    have hread := retimeBays_here (v := v) hnodup hlt (s.joined (.amend ref 2 v))
    unfold serveNewLoad at hserve
    generalize (s.joined (.amend ref 2 v)).forBays e.bays (fun s b => s.retimeBay v b) = u at hframe hread hserve
    have hlink : u.link = (s.joined (.amend ref 2 v)).link := (congrArg State.link hframe).trans rfl
    have hhere : ∀ b ∈ e.bays, recordAndRound u b = _ := fun b hb =>
      (hread b).trans ((if_pos hb).trans (retimeBay_here (s := s.joined (.amend ref 2 v)) (hlt b hb)))
    have haway : ∀ b, b ∉ e.bays → recordAndRound u b = recordAndRound s b := fun b hb => (hread b).trans (if_neg hb)
    dsimp only at hserve
    generalize hdata : byteOf e.bays.length :: List.flatMap _ e.bays = data at hserve
    refine ⟨_, data, exec_served rfl hs hw hserve hlink, ?_, fun b hb => ⟨fun hst hp => ?_, fun hst hp => ?_, fun hst => ?_,
      fun h1 h2 h3 => ?_⟩, fun b hb => congrArg Prod.fst (haway b hb), fun b hb => ?_, ?_⟩
    · rw [hframe]
      rfl
    · exact congrArg Prod.fst ((hhere b hb).trans ((if_pos hst).trans (if_pos hp)))
    · have h := (hhere b hb).trans ((if_pos hst).trans (if_neg (Nat.not_lt.mpr hp)))
      exact ⟨congrArg Prod.fst h, congrArg Prod.snd h⟩
    · exact congrArg Prod.fst ((hhere b hb).trans ((if_neg (by
        change (s.bay b).state ≠ .booked
        obtain h | h := hst <;> rw [h] <;> decide)).trans (if_pos hst)))
    · exact congrArg Prod.fst ((hhere b hb).trans ((if_neg h1).trans (if_neg (not_or.mpr ⟨h2, h3⟩))))
    · by_cases hin : b ∈ e.bays
      · obtain hb | hb := hb
        · exact absurd hin hb
        · refine (congrArg Prod.snd (hhere b hin)).trans ?_
          split
          · next hst =>
            exact congrArg Prod.snd (if_pos (hb.resolve_left fun h => h hst))
          · split <;> rfl
      · exact congrArg Prod.snd (haway b hin)
    · rw [← hdata, List.flatMap_def]
      refine congrArg (fun l => byteOf e.bays.length :: List.flatten l) (List.map_congr_left fun b hb => ?_)
      have hflag : flagByte ((s.joined (.amend ref 2 v)).bay b).state.retimed =
          if (s.bay b).state = .booked ∨ (s.bay b).state = .preheating ∨ (s.bay b).state = .ready then 1 else 0 := by
        change flagByte (s.bay b).state.retimed = _
        cases (s.bay b).state <;> simp [flagByte, BayState.retimed]
      rw [hflag]
      rfl

end Sys2Proof.Commands
end

section

-- One proof at a time: the proofs here together ask for more threads than the memory limit leaves room for.
set_option Elab.async false

/-! BOOK: its checks and the choice of bays (R39 to R42). -/

namespace Sys2Proof.Commands

open Sys2Proof Sys2Proof.Machine Sys2Proof.Courses Sys2Proof.Acts Sys2Proof.Entries

/-! ### The checks (R39, R40) -/

section Checks

variable {s : State} {ref code offset : Nat} {slots : List Nat}

/-- R39: a value out of range. -/
def BadBook (ref code : Nat) (slots : List Nat) (offset : Nat) : Prop :=
  ref = 0 ∨ 999999 < code ∨ slots.length = 0 ∨ 4 < slots.length ∨ (∃ n ∈ slots, 15 < n) ∨ 7200 < offset

theorem badBook_iff : BadBook ref code slots offset ↔
    (ref = 0 ∨ 999999 < code ∨ slots.length = 0 ∨ 4 < slots.length ∨ slots.any (15 < ·) ∨ 7200 < offset) := by
  simp only [BadBook, List.any_eq_true, decide_eq_true_eq]

theorem serveBook_bad (h : BadBook ref code slots offset) : serveBook s ref code slots offset = refuse s .badValue :=
  if_pos (badBook_iff.mp h)

theorem serveBook_orderInUse (h : ¬ BadBook ref code slots offset) (ho : (s.findOrder ref).isSome = true) :
    serveBook s ref code slots offset = refuse s .orderInUse :=
  (if_neg fun hn => h (badBook_iff.mpr hn)).trans (if_pos ho)

theorem serveBook_codeInUse (h : ¬ BadBook ref code slots offset) (ho : s.findOrder ref = none) (hc : (s.findCode code).isSome = true) :
    serveBook s ref code slots offset = refuse s .codeInUse :=
  (if_neg fun hn => h (badBook_iff.mpr hn)).trans ((if_neg (by rw [ho]; decide)).trans (if_pos hc))

/-- R40: the check of the slots' conditions, and the one of the write in flight. -/
theorem serveBook_slots (h : ¬ BadBook ref code slots offset) (ho : s.findOrder ref = none) (hc : s.findCode code = none) :
    serveBook s ref code slots offset = match slots.findIdx? fun n => s.slotCondition n ≠ .inService with
      | some i => refuse s .profileInvalid [byteOf (i + 1)]
      | none => match slots.findIdx? s.slotBeingWritten with
        | some i => refuse s .storeBusy [byteOf (i + 1)]
        | none =>
          if (s.chooseBays slots.length).length < slots.length then refuse s .noBays
          else ⟨bookedState s ref code slots offset, .done, byteOf (s.chooseBays slots.length).length ::
            ((s.chooseBays slots.length).zip slots).flatMap fun p =>
              [byteOf p.1, byteOf p.2, stateByte ((bookedState s ref code slots offset).bay p.1).state]⟩ :=
  (if_neg fun hn => h (badBook_iff.mpr hn)).trans
    ((if_neg (by rw [ho]; decide)).trans ((if_neg (by rw [hc]; decide)).trans rfl))

/-- The first place of a list with a property. -/
theorem findIdx?_first {p : Nat → Bool} {i : Nat} (hi : i < slots.length) (here : p (slots.getD i 0) = true)
    (before : ∀ j < i, p (slots.getD j 0) = false) : slots.findIdx? p = some i := by
  rw [List.findIdx?_eq_some_iff_getElem]
  refine ⟨hi, ?_, fun j hj => ?_⟩
  · rwa [List.getD_eq_getElem _ _ hi] at here
  · have := before j hj
    rw [List.getD_eq_getElem _ _ (by omega)] at this
    rw [this]
    decide

theorem findIdx?_nowhere {p : Nat → Bool} (h : ∀ n ∈ slots, p n = false) : slots.findIdx? p = none :=
  List.findIdx?_eq_none_iff.mpr h

end Checks

/-- Settles O19: the checks of BOOK, each where those before it pass. -/
theorem bookRefusals : Obligations.BookRefusals := by
  unfold Obligations.BookRefusals
  refine ⟨?_, ?_⟩
  · intro s ref code offset slots hs hw answers bad
    have refused : ∀ r data, serveBook (s.joined (.book ref code slots offset)) ref code slots offset =
        refuse (s.joined (.book ref code slots offset)) r data → answers r data :=
      fun r data h => exec_refused (c := .book ref code slots offset) rfl hs hw h
    refine ⟨fun h => refused _ _ (serveBook_bad h), fun h ho => refused _ _ (serveBook_orderInUse h ho),
      fun h ho hc => refused _ _ (serveBook_codeInUse h ho hc), fun i hi h ho hc hslot hfirst => refused _ _ ?_,
      fun i hi h ho hc hslots hslot hfirst => refused _ _ ?_⟩
    · have hidx : (slots.findIdx? fun n => (s.joined (.book ref code slots offset)).slotCondition n ≠ .inService) = some i :=
        findIdx?_first hi (decide_eq_true hslot) fun j hj => decide_eq_false (not_not.mpr (hfirst j hj))
      rw [serveBook_slots (s := s.joined (.book ref code slots offset)) h ho hc, hidx]
    · have hnone : (slots.findIdx? fun n => (s.joined (.book ref code slots offset)).slotCondition n ≠ .inService) = none :=
        findIdx?_nowhere fun n hn => decide_eq_false (not_not.mpr (hslots n hn))
      have hidx : slots.findIdx? (s.joined (.book ref code slots offset)).slotBeingWritten = some i := findIdx?_first hi hslot hfirst
      rw [serveBook_slots (s := s.joined (.book ref code slots offset)) h ho hc, hnone, hidx]
  · intro s ref code offset slots hs hw hslots hlong hshort
    have hall : slots.all (· < 2 ^ 8) = true := List.all_eq_true.mpr fun n hn => decide_eq_true (hslots n hn)
    have hexec : exec (.book ref code slots offset) s = .next (s.receiveMisfit 0x10 (11 + slots.length)) := by
      refine (if_pos hlong).trans ?_
      rw [hw, hall]
      rfl
    rw [hexec, receiveMisfit_long hs (by omega) (by omega)]

/-! ### The choice (R41, R42) -/

section Choice

variable {p : Nat → Prop} {k : Nat} {l : List Nat}

/-- The lowest `k` of an ascending list of all numbers with a property. -/
theorem lowestOf_take (asc : l.Pairwise (· < ·)) (mem : ∀ b, b ∈ l ↔ p b) (h : k ≤ l.length) : LowestOf p k (l.take k) where
  length := List.length_take_of_le h
  ascending := asc.sublist (List.take_sublist k l)
  members b hb := (mem b).mp (List.mem_of_mem_take hb)
  lowest c hc hout b hb := by
    have hdrop : c ∈ l.drop k := by
      have hin := (mem c).mpr hc
      rw [← List.take_append_drop k l, List.mem_append] at hin
      exact hin.resolve_left hout
    have hsplit : (l.take k ++ l.drop k).Pairwise (· < ·) := by
      rw [List.take_append_drop]
      exact asc
    exact (List.pairwise_append.mp hsplit).2.2 b hb c hdrop

theorem lowestOf_iff (asc : l.Pairwise (· < ·)) (mem : ∀ b, b ∈ l ↔ p b) : (∃ l', LowestOf p k l') ↔ k ≤ l.length := by
  refine ⟨fun ⟨l', h⟩ => ?_, fun h => ⟨_, lowestOf_take asc mem h⟩⟩
  have hsub : l'.Subperm l := List.Nodup.subperm (h.ascending.imp Nat.ne_of_lt) fun b hb => (mem b).mpr (h.members b hb)
  rw [← h.length]
  exact hsub.length_le

variable {s : State}

theorem lockedAtRest_iff {d : Nat} :
    s.lockedAtRest d = true ↔ s.latchPosition d = .locked ∧ ∀ r ∈ s.latch.queue, r.door ≠ d := by
  unfold State.lockedAtRest State.pendingFor
  simp

theorem mem_candidates {b : Nat} : b ∈ s.candidates ↔ IsCandidate s b := by
  have hdoors : doorOf b .front = 2 * b ∧ doorOf b .rear = 2 * b + 1 := ⟨rfl, rfl⟩
  unfold State.candidates State.candidate
  simp only [List.mem_filter, Bool.and_eq_true, decide_eq_true_eq, lockedAtRest_iff, Bool.not_eq_true', hdoors.1, hdoors.2, allBays,
    List.mem_range, moduleOf]
  constructor
  · rintro ⟨hb, ⟨⟨⟨⟨hv, hu⟩, hc⟩, hd⟩, hf, hqf⟩, hr, hqr⟩
    have hclosed : (s.door (2 * b)).closed = true ∧ (s.door (2 * b + 1)).closed = true := by
      simpa [State.doorsClosed, hdoors.1, hdoors.2] using hd
    exact ⟨hb, hv, hu, hc, hclosed, ⟨hf, hr⟩, fun r hr => ⟨hqf r hr, hqr r hr⟩⟩
  · rintro ⟨hb, hv, hu, hc, hclosed, ⟨hf, hr⟩, hq⟩
    have hd : s.doorsClosed b = true := by simpa [State.doorsClosed, hdoors.1, hdoors.2] using hclosed
    exact ⟨hb, ⟨⟨⟨⟨hv, hu⟩, hc⟩, hd⟩, hf, fun r hr => (hq r hr).1⟩, hr, fun r hr => (hq r hr).2⟩

theorem candidates_ascending : s.candidates.Pairwise (· < ·) := List.Pairwise.filter _ List.pairwise_lt_range

theorem mem_candidatesIn {m b : Nat} : b ∈ s.candidatesIn m ↔ IsCandidate s b ∧ b / 4 = m := by
  rw [State.candidatesIn, List.mem_filter, mem_candidates, decide_eq_true_eq]
  exact Iff.rfl

theorem candidatesIn_ascending (m : Nat) : (s.candidatesIn m).Pairwise (· < ·) := candidates_ascending.filter _

/-- R42: a module below the twelfth, or none at all, holds candidates. -/
theorem module_lt {m : Nat} (hk : 1 ≤ k) (h : k ≤ (s.candidatesIn m).length) : m < 12 := by
  obtain ⟨b, hb⟩ := List.exists_mem_of_length_pos (by omega : 0 < (s.candidatesIn m).length)
  obtain ⟨hc, rfl⟩ := mem_candidatesIn.mp hb
  have := hc.exists'
  omega

theorem inModule_iff {m : Nat} : (∃ l, LowestOf (fun b => IsCandidate s b ∧ b / 4 = m) k l) ↔ k ≤ (s.candidatesIn m).length :=
  lowestOf_iff (candidatesIn_ascending m) fun _ => mem_candidatesIn

theorem inBank_iff : (∃ l, LowestOf (IsCandidate s) k l) ↔ k ≤ s.candidates.length :=
  lowestOf_iff candidates_ascending fun _ => mem_candidates

theorem chooseBays_module {m : Nat} (hk : 1 ≤ k) (h : k ≤ (s.candidatesIn m).length)
    (before : ∀ m' < m, ¬ k ≤ (s.candidatesIn m').length) : s.chooseBays k = (s.candidatesIn m).take k := by
  have hfind : ((List.range 12).find? fun m => decide (k ≤ (s.candidatesIn m).length)) = some m := by
    rw [List.find?_range_eq_some]
    exact ⟨decide_eq_true h, List.mem_range.mpr (module_lt hk h), fun j hj => by simpa using before j hj⟩
  rw [State.chooseBays, hfind]

theorem chooseBays_bank (h : ∀ m, ¬ k ≤ (s.candidatesIn m).length) : s.chooseBays k = s.candidates.take k := by
  have hfind : ((List.range 12).find? fun m => decide (k ≤ (s.candidatesIn m).length)) = none :=
    List.find?_eq_none.mpr fun m _ => by simpa using h m
  rw [State.chooseBays, hfind]

/-- R42: enough bays are chosen just where the bank has enough candidates. -/
theorem chooseBays_short (h : ¬ k ≤ s.candidates.length) : (s.chooseBays k).length < k := by
  have hmodules : ∀ m, ¬ k ≤ (s.candidatesIn m).length := fun m hm =>
    h (Nat.le_trans hm List.filter_sublist.length_le)
  rw [chooseBays_bank hmodules, List.length_take]
  omega

theorem not_bad_of_passes {ref code offset : Nat} {slots : List Nat} (h : BookPasses s ref code slots offset) :
    ¬ BadBook ref code slots offset := by
  rintro (h0 | hc | h0 | h4 | ⟨n, hn, h15⟩ | ho)
  · exact absurd h.reference.1 (by omega)
  · exact absurd h.codeRange (by omega)
  · exact absurd h.meals.1 (by omega)
  · exact absurd h.meals.2 (by omega)
  · exact absurd (h.slots n hn).1 (by omega)
  · exact absurd h.offset (by omega)

/-- A BOOK that passes its checks binds its bays, or is refused for want of them. -/
theorem serveBook_passes {ref code offset : Nat} {slots : List Nat} (h : BookPasses s ref code slots offset) :
    serveBook s ref code slots offset =
      if (s.chooseBays slots.length).length < slots.length then refuse s .noBays
      else ⟨bookedState s ref code slots offset, .done, byteOf (s.chooseBays slots.length).length ::
        ((s.chooseBays slots.length).zip slots).flatMap fun p =>
          [byteOf p.1, byteOf p.2, stateByte ((bookedState s ref code slots offset).bay p.1).state]⟩ := by
  have hservice : (slots.findIdx? fun n => s.slotCondition n ≠ .inService) = none :=
    findIdx?_nowhere fun n hn => decide_eq_false (not_not.mpr (h.slots n hn).2.1)
  have hwritten : slots.findIdx? s.slotBeingWritten = none := findIdx?_nowhere fun n hn => (h.slots n hn).2.2
  rw [serveBook_slots (not_bad_of_passes h) h.orderFree h.codeFree, hservice, hwritten]

theorem wellFormed_book {ref code offset : Nat} {slots : List Nat} (h : BookPasses s ref code slots offset) :
    (Instr.book ref code slots offset).wellFormed = true := by
  have hslots : ∀ n ∈ slots, n < 256 := fun n hn => Nat.lt_of_le_of_lt (h.slots n hn).1 (by decide)
  have hreference := h.reference
  have hcode := h.codeRange
  have hoffset := h.offset
  have hmeals := h.meals
  simp only [Instr.wellFormed, Bool.and_eq_true, decide_eq_true_eq, List.all_eq_true]
  exact ⟨⟨⟨⟨by omega, by omega⟩, by omega⟩, hslots⟩, by omega⟩

end Choice

/-- Settles O17: the bays by module and bank, and the refusal for want of them. -/
theorem bookChoosesBays : Obligations.BookChoosesBays := by
  unfold Obligations.BookChoosesBays
  intro s k hk1 hk4 inModule
  refine ⟨fun m hm before => ?_, fun hm hbank => ?_, fun ref code offset slots hs hp hlen hnone => ?_⟩
  · have h := inModule_iff.mp hm
    rw [chooseBays_module hk1 h fun m' hlt hle => before m' hlt (inModule_iff.mpr hle)]
    exact lowestOf_take (candidatesIn_ascending m) (fun _ => mem_candidatesIn) h
  · rw [chooseBays_bank fun m hle => hm m (inModule_iff.mpr hle)]
    exact lowestOf_take candidates_ascending (fun _ => mem_candidates) (inBank_iff.mp hbank)
  · have hpj : BookPasses (s.joined (.book ref code slots offset)) ref code slots offset :=
      ⟨hp.reference, hp.codeRange, hp.meals, hp.slots, hp.offset, hp.orderFree, hp.codeFree⟩
    refine exec_refused (c := .book ref code slots offset) rfl hs (wellFormed_book hp) ((serveBook_passes hpj).trans (if_pos ?_))
    rw [hlen]
    exact chooseBays_short (s := s.joined (.book ref code slots offset)) fun hle => hnone (inBank_iff.mpr hle)

end Sys2Proof.Commands
end

section

-- One proof at a time: the proofs here together ask for more threads than the memory limit leaves room for.
set_option Elab.async false

/-! BOOK binds its bays (R43 to R45). -/

namespace Sys2Proof.Commands

open Sys2Proof Sys2Proof.Machine Sys2Proof.Courses Sys2Proof.Acts Sys2Proof.Entries Sys2Proof.Expiries

/-! ### One bay bound -/

section Bind

variable {s : State} {code offset b slot : Nat}

/-- R43, R45: preheat_start of a meal of a slot, and whether it is reached. -/
def bookedPreheat (s : State) (offset slot : Nat) : Nat :=
  min (s.bankTime + 10 * offset) 4294967295 - 600 * (s.profile slot).lead

def Heats (s : State) (offset slot : Nat) : Prop := bookedPreheat s offset slot ≤ s.bankTime

/-- R43: the record of a bay bound, before its preheat_start is looked at. -/
def bookedRecord (s : State) (code offset b slot : Nat) : Bay :=
  { s.bay b with
      state := .booked, entry := some code, profile := some slot, expectedLoad := some (s.expectedLoadFor offset)
      preheatStart := some (bookedPreheat s offset slot), lapseAt := some (s.lapseAtFor (s.expectedLoadFor offset)), demand := 0 }

theorem bindBay_booked (hst : (s.bay b).state = .vacant) :
    s.bindBay code offset b slot = (s.setBay b (bookedRecord s code offset b slot)).preheatIfReached b := by
  unfold State.bindBay
  dsimp only
  refine congrArg (fun u : State => u.preheatIfReached b) ?_
  rw [State.changeBay_frame, hst]
  rfl

theorem boundRecord_heats (h : Heats s offset slot) : boundRecord s code offset (s.bay b) slot =
    { bookedRecord s code offset b slot with state := .preheating, preheatStart := none, lastTemp := none, demand := 16 } := by
  have h' : preheatStartFor (s.expectedLoadFor offset) (s.profile slot).lead ≤ s.bankTime := h
  simp only [boundRecord, if_pos h']
  rfl

theorem boundRecord_cold (h : ¬ Heats s offset slot) : boundRecord s code offset (s.bay b) slot = bookedRecord s code offset b slot := by
  have h' : ¬ preheatStartFor (s.expectedLoadFor offset) (s.profile slot).lead ≤ s.bankTime := h
  simp only [boundRecord, if_neg h']
  rfl

theorem bindBay_eq (hb : b < 48) (hst : (s.bay b).state = .vacant) [Decidable (Heats s offset slot)] :
    s.bindBay code offset b slot = { s with
      bays := s.bays.setIfInBounds b (boundRecord s code offset (s.bay b) slot)
      scanner := if Heats s offset slot then { s.scanner with rounds := s.scanner.rounds.setIfInBounds b none } else s.scanner } := by
  have hself : (s.setBay b (bookedRecord s code offset b slot)).bay b = bookedRecord s code offset b slot :=
    State.setBay_bay_self _ _ _ hb
  rw [bindBay_booked hst, State.preheatIfReached, hself]
  by_cases h : Heats s offset slot
  · rw [if_pos h, boundRecord_heats h]
    refine (if_pos (Completions.reached_some.mpr h)).trans ?_
    rw [enterPreheating_eq (by rw [hself]; rfl), hself]
    simp only [State.setBay, setIfInBounds_twice]
  · rw [if_neg h, boundRecord_cold h]
    exact if_neg fun hr => h (Completions.reached_some.mp hr)

end Bind

/-! ### All of them -/

section Bound

variable {s : State} {code offset : Nat}

theorem heats_congr {t : State} (h : OnlyRounds s t) (slot : Nat) : Heats t offset slot ↔ Heats s offset slot := by
  have htime : t.bankTime = s.bankTime := (congrArg State.bankTime h).trans rfl
  have hprofile : t.profile slot = s.profile slot := by
    unfold State.profile State.slotRecord
    rw [(congrArg State.store h).trans rfl]
  simp only [Heats, bookedPreheat, htime, hprofile]

theorem bindBay_onlyRounds {b slot : Nat} (hb : b < 48) (hst : (s.bay b).state = .vacant) :
    OnlyRounds s (s.bindBay code offset b slot) := by
  classical
  rw [bindBay_eq hb hst]
  unfold OnlyRounds
  split <;> rfl

theorem bindBay_round {b slot : Nat} (hb : b < 48) (hst : (s.bay b).state = .vacant) :
    (Heats s offset slot → (s.bindBay code offset b slot).scanner.rounds.getD b none = none) ∧
      (¬ Heats s offset slot → (s.bindBay code offset b slot).scanner.rounds.getD b none = s.scanner.rounds.getD b none) ∧
      ∀ c, c ≠ b → (s.bindBay code offset b slot).scanner.rounds.getD c none = s.scanner.rounds.getD c none := by
  classical
  rw [bindBay_eq hb hst]
  refine ⟨fun h => ?_, fun h => ?_, fun c hc => ?_⟩
  · rw [if_pos h]
    exact getD_setIfInBounds_self _ _ _ _ hb
  · rw [if_neg h]
  · split
    · exact getD_setIfInBounds_ne _ _ _ _ _ hc.symm
    · rfl

/-- Slots bound to distinct VACANT bays: the rounds in progress. -/
theorem bindBays_rounds {bound : List (Nat × Nat)} (distinct : (bound.map Prod.fst).Nodup)
    (vacant : ∀ p ∈ bound, p.1 < 48 ∧ (s.bay p.1).state = .vacant) :
    OnlyRounds s (bindBays s code offset bound) ∧
      (∀ c, c ∉ bound.map Prod.fst →
        (bindBays s code offset bound).scanner.rounds.getD c none = s.scanner.rounds.getD c none) ∧
      ∀ p ∈ bound, (Heats s offset p.2 → (bindBays s code offset bound).scanner.rounds.getD p.1 none = none) ∧
        (¬ Heats s offset p.2 →
          (bindBays s code offset bound).scanner.rounds.getD p.1 none = s.scanner.rounds.getD p.1 none) := by
  induction bound generalizing s with
  | nil => exact ⟨rfl, fun _ _ => rfl, fun p hp => absurd hp List.not_mem_nil⟩
  | cons q qs ih =>
    obtain ⟨hq, hdistinct⟩ := List.nodup_cons.mp distinct
    obtain ⟨hqb, hqv⟩ := vacant q (List.mem_cons_self ..)
    have hframe : OnlyRounds s (s.bindBay code offset q.1 q.2) := bindBay_onlyRounds hqb hqv
    obtain ⟨hheats, hcold, hothers⟩ := bindBay_round (code := code) (offset := offset) (slot := q.2) hqb hqv
    have hne : ∀ p ∈ qs, p.1 ≠ q.1 := fun p hp h => hq (h ▸ List.mem_map_of_mem hp)
    have hvacant : ∀ p ∈ qs, p.1 < 48 ∧ ((s.bindBay code offset q.1 q.2).bay p.1).state = .vacant := fun p hp => by
      obtain ⟨hb, hv⟩ := vacant p (List.mem_cons_of_mem _ hp)
      rw [bindBay_bay_ne _ _ _ _ _ _ (hne p hp).symm]
      exact ⟨hb, hv⟩
    obtain ⟨hall, hout, hin⟩ := ih hdistinct hvacant
    have hstep : bindBays s code offset (q :: qs) = bindBays (s.bindBay code offset q.1 q.2) code offset qs := rfl
    rw [hstep]
    refine ⟨hframe.trans hall, fun c hc => ?_, fun p hp => ?_⟩
    · rw [List.map_cons, List.mem_cons, not_or] at hc
      rw [hout c hc.2, hothers c hc.1]
    · obtain rfl | hp := List.mem_cons.mp hp
      · rw [hout p.1 hq]
        exact ⟨hheats, hcold⟩
      · rw [← hothers p.1 (hne p hp), ← heats_congr hframe]
        exact hin p hp

theorem chooseBays_enough {k : Nat} (h : k ≤ s.candidates.length) : (s.chooseBays k).length = k := by
  unfold State.chooseBays
  cases hm : (List.range 12).find? fun m => decide (k ≤ (s.candidatesIn m).length) with
  | none => exact List.length_take_of_le h
  | some m => exact List.length_take_of_le (of_decide_eq_true (List.find?_some (p := fun m => decide (k ≤ (s.candidatesIn m).length)) hm))

/-- The pairs of two lists of one length, by place. -/
theorem zip_eq_map_range {bs ss : List Nat} (h : bs.length = ss.length) :
    bs.zip ss = (List.range bs.length).map fun i => (bs.getD i 0, ss.getD i 0) := by
  refine List.ext_getElem (by simp [h]) fun i hi _ => ?_
  have hb : i < bs.length := by simp at hi; omega
  have hs : i < ss.length := by omega
  simp [List.getElem_zip, hb, hs]

end Bound

/-- Settles O18: a BOOK that passes its checks at a bank with enough candidates. -/
theorem bookBindsBays : Obligations.BookBindsBays := by
  unfold Obligations.BookBindsBays
  intro s ref code offset slots hs hp hbank bays expected preheat heats data
  have hw := wellFormed_book hp
  have hpj : BookPasses (s.joined (.book ref code slots offset)) ref code slots offset :=
    ⟨hp.reference, hp.codeRange, hp.meals, hp.slots, hp.offset, hp.orderFree, hp.codeFree⟩
  have hlength : bays.length = slots.length := chooseBays_enough (inBank_iff.mp hbank)
  have hfst : (bays.zip slots).map Prod.fst = bays := List.map_fst_zip (Nat.le_of_eq hlength)
  have hdistinct : ((bays.zip slots).map Prod.fst).Nodup := by
    rw [hfst]
    exact chooseBays_nodup s _
  have hvacant : ∀ p ∈ bays.zip slots, p.1 < 48 ∧ (s.bay p.1).state = .vacant := fun p hp =>
    vacant_of_mem_chooseBays s (List.of_mem_zip hp).1
  have hbound : ∀ i < bays.length, (bays.getD i 0, slots.getD i 0) ∈ bays.zip slots := fun i hi => by
    rw [zip_eq_map_range hlength]
    exact List.mem_map_of_mem (List.mem_range.mpr hi)
  have hserve : carryOut (s.joined (.book ref code slots offset)) (.book ref code slots offset) = _ :=
    (serveBook_passes hpj).trans (if_neg (by
      rw [show (s.joined (.book ref code slots offset)).chooseBays slots.length = bays from rfl]
      omega))
  obtain ⟨hrounds, hout, hin⟩ := bindBays_rounds (s := s.joined (.book ref code slots offset)) (code := code) (offset := offset)
    hdistinct hvacant
  have hrecord : ∀ p ∈ bays.zip slots, (bindBays (s.joined (.book ref code slots offset)) code offset (bays.zip slots)).bay p.1 =
      boundRecord s code offset (s.bay p.1) p.2 := fun p hp =>
    bindBays_bay_of_mem (s.joined (.book ref code slots offset)) code offset hdistinct (fun q hq => (hvacant q hq).1) hp
  have hothers : ∀ c, c ∉ bays → (bindBays (s.joined (.book ref code slots offset)) code offset (bays.zip slots)).bay c = s.bay c :=
    fun c hc => bindBays_bay_of_notMem (s.joined (.book ref code slots offset)) code offset (by rw [hfst]; exact hc)
  have hdirectory := bindBays_directory (s.joined (.book ref code slots offset)) code offset (bays.zip slots)
  have hbooked : bookedState (s.joined (.book ref code slots offset)) ref code slots offset =
      { bindBays (s.joined (.book ref code slots offset)) code offset (bays.zip slots) with
        directory := (bindBays (s.joined (.book ref code slots offset)) code offset (bays.zip slots)).directory.add
          { code := code, orderRef := ref, bays := bays, created := s.bankTime } } := rfl
  rw [hbooked] at hserve
  generalize bindBays (s.joined (.book ref code slots offset)) code offset (bays.zip slots) = u at *
  have hdata : byteOf bays.length :: (bays.zip slots).flatMap (fun p => [byteOf p.1, byteOf p.2, stateByte (u.bay p.1).state]) = data := by
    refine congrArg (byteOf bays.length :: ·) ?_
    rw [List.flatMap_def, zip_eq_map_range hlength, List.map_map]
    refine congrArg List.flatten (List.map_congr_left fun i hi => ?_)
    have hstate : stateByte (boundRecord s code offset (s.bay (bays.getD i 0)) (slots.getD i 0)).state =
        if preheat i ≤ s.bankTime then 2 else 1 := by
      by_cases h : Heats s offset (slots.getD i 0)
      · rw [boundRecord_heats h]
        exact (if_pos h).symm
      · rw [boundRecord_cold h]
        exact (if_neg h).symm
    dsimp only [Function.comp]
    rw [hrecord _ (hbound i (List.mem_range.mp hi)), hstate]
  have hserve' : carryOut (s.joined (.book ref code slots offset)) (.book ref code slots offset) =
      ⟨{ u with directory := u.directory.add { code := code, orderRef := ref, bays := bays, created := s.bankTime } }, .done, data⟩ := by
    rw [← hdata]
    exact hserve
  have hlink : u.link = (s.joined (.book ref code slots offset)).link := (congrArg State.link hrounds).trans rfl
  have hdir : u.directory = s.directory := hdirectory
  clear_value data
  refine ⟨_, exec_served rfl hs hw hserve' hlink, ?_, hlength, fun i hi => ?_, fun i hi => ?_, fun b hb => ⟨hothers b hb, ?_⟩, ?_, fun e => ?_⟩
  · rw [hrounds]
    rfl
  · refine (hrecord _ (hbound i hi)).trans ?_
    by_cases h : Heats s offset (slots.getD i 0)
    · have h' : heats i := h
      rw [boundRecord_heats h]
      simp only [if_pos h']
      rfl
    · have h' : ¬ heats i := h
      rw [boundRecord_cold h]
      simp only [if_neg h']
      rfl
  · obtain ⟨hwarm, hcold⟩ := hin _ (hbound i hi)
    split
    · next h => exact hwarm h
    · next h => exact hcold h
  · exact hout b (by rw [hfst]; exact hb)
  · rw [← hdir]
    rfl
  · rw [← hdir]
    exact mem_insertEntry.trans or_comm

end Sys2Proof.Commands
end

section

-- One proof at a time: the proofs here together ask for more threads than the memory limit leaves room for.
set_option Elab.async false

/-! Releases and the release timer (R160 to R164). -/

namespace Sys2Proof.Releases

open Sys2Proof Sys2Proof.Machine Sys2Proof.Courses Sys2Proof.Acts Sys2Proof.Latches Sys2Proof.Expiries Sys2Proof.Closings
  Sys2Proof.Commands

section Release

variable {s : State} {b : Nat}

/-- A held bay in one of the two heated states of a hold, its demand kept. -/
def heldAs (s : State) (b : Nat) (st : BayState) (timer : Option Nat) : State :=
  s.setBay b { s.bay b with state := st, timer := timer }

theorem changeBay_releasing (h : (s.bay b).state = .holding) :
    s.changeBay b (fun r => { r with state := .releasing }) = heldAs s b .releasing (s.bay b).timer := by
  rw [State.changeBay_frame, h]
  rfl

theorem changeBay_holding (h : (s.bay b).state = .releasing) :
    s.changeBay b (fun r => { r with state := .holding, timer := none }) = heldAs s b .holding none := by
  rw [State.changeBay_frame, h]
  rfl

/-- R160: with the front door closed. -/
theorem releaseBay_closed (h : (s.bay b).state = .holding) (hd : (s.door (2 * b)).closed = true) :
    s.releaseBay b = (heldAs s b .releasing (s.bay b).timer).request (2 * b) .unlock .collection := by
  unfold State.releaseBay
  rw [changeBay_releasing h]
  exact if_pos hd

theorem releaseBay_open (h : (s.bay b).state = .holding) (hd : (s.door (2 * b)).closed = false) :
    s.releaseBay b = (heldAs s b .releasing (s.bay b).timer).beginCollection b := by
  unfold State.releaseBay
  rw [changeBay_releasing h]
  refine if_neg ?_
  rw [show (heldAs s b .releasing (s.bay b).timer).door (doorOf b .front) = s.door (2 * b) from rfl, hd]
  exact Bool.false_ne_true

theorem heldAs_bay (hb : b < 48) (st : BayState) (timer : Option Nat) :
    (heldAs s b st timer).bay b = { s.bay b with state := st, timer := timer } := State.setBay_bay_self _ _ _ hb

/-- R162: a RELEASING bay enters COLLECTING. -/
theorem beginCollection_eq (h : (s.bay b).state = .releasing) : s.beginCollection b =
    (s.setBay b { s.bay b with state := .collecting, timer := none, restartPenaltyPending := 0, demand := 0 }).cutRun b := by
  rw [State.beginCollection, State.changeBay_frame, h]
  rfl

/-- R160: with the front door open. -/
theorem releaseBay_collecting (h : (s.bay b).state = .holding) (hd : (s.door (2 * b)).closed = false) : s.releaseBay b =
    (s.setBay b { s.bay b with state := .collecting, timer := none, restartPenaltyPending := 0, demand := 0 }).cutRun b := by
  have hb : b < 48 := lt_of_state h
  rw [releaseBay_open h hd, beginCollection_eq (by rw [heldAs_bay hb]), heldAs_bay hb]
  simp only [heldAs, Completions.setBay_setBay]

/-- R161: the completion that finds the bay RELEASING with no timer starts the release timer. -/
theorem released_completion (hb : b < 48) (ht : (s.bay b).timer = none) :
    ((heldAs s b .releasing (s.bay b).timer).dropRequest (2 * b)).unlockCompletion (2 * b) = { s.dropRequest (2 * b) with
      bays := s.bays.setIfInBounds b { s.bay b with state := .releasing, timer := some (s.after s.config.releaseTimeout) } } := by
  have hbay : ((heldAs s b .releasing (s.bay b).timer).dropRequest (2 * b)).bay b =
      { s.bay b with state := .releasing, timer := (s.bay b).timer } := heldAs_bay hb _ _
  rw [Pulses.unlockCompletion_front, hbay, if_pos ⟨rfl, ht⟩]
  simp only [heldAs, State.setBay, State.dropRequest, State.setLatchQueue, setIfInBounds_twice]
  rfl

/-! ### The release timer (R164) -/

/-- R164: the bay back in HOLDING, before its deadline is looked at. -/
def rehold (s : State) (b : Nat) : State :=
  withLatch ((heldAs s b .holding none).raiseBay b .releaseTimeout) (s.requestLock (2 * b)).latch

theorem rehold_bay (hb : b < 48) : (rehold s b).bay b = { s.bay b with state := .holding, timer := none } := heldAs_bay hb _ _

theorem rehold_notices (hb : b < 48) : (rehold s b).notices b = { s.notices b with releaseTimeout := true } :=
  State.setNotices_notices_self _ _ _ hb

theorem releaseTimerEnds_eq (h : (s.bay b).state = .releasing) : s.releaseTimerEnds b =
    if s.reached (s.bay b).deadline then (rehold s b).withdrawHeld b .deadline else rehold s b := by
  have hb : b < 48 := lt_of_state h
  have hback : ((s.requestLock (2 * b)).raiseBay b .releaseTimeout).changeBay b (fun r => { r with state := .holding, timer := none }) =
      rehold s b := by
    rw [requestLock_eq_withLatch]
    exact changeBay_holding (s := (withLatch s (s.requestLock (2 * b)).latch).raiseBay b .releaseTimeout) h
  have hdeadline : (rehold s b).reached ((rehold s b).bay b).deadline = s.reached (s.bay b).deadline := by
    rw [rehold_bay hb]
    rfl
  unfold State.releaseTimerEnds
  dsimp only
  rw [show doorOf b .front = 2 * b from rfl, hback, hdeadline]

end Release

/-- Settles O50: a release by its front door and latch, and the release timer's expiry. -/
theorem releasesAndTheirTimer : Obligations.ReleasesAndTheirTimer := by
  unfold Obligations.ReleasesAndTheirTimer
  intro s b hr hb d st late
  have hexec : exec (.releaseTimerExpiry b) s = .next (s.takeReleaseTimer b) := Completions.exec_expiry hr hb _
  refine ⟨fun h hd hp hl => ?_, fun h hd hu hpulse ht => ?_, fun h hd => ⟨?_, ?_, (releaseBay_course (g := ⟨True, False⟩) h).onlyBays⟩,
    fun e h ht he => ?_, fun h => ?_⟩
  · rw [releaseBay_closed h hd, request_of_free (s := heldAs s b .releasing (s.bay b).timer) .collection ?_ hp]
    · rfl
    · rw [show (heldAs s b .releasing (s.bay b).timer).latchPosition (2 * b) = s.latchPosition d from rfl, side_lock hl]
      decide
  · rw [releaseBay_closed h hd, request_unlock_done (s := heldAs s b .releasing (s.bay b).timer) (side_unlock (.inl hu)) hpulse,
      released_completion hb ht]
    rfl
  · rw [releaseBay_collecting h hd]
    exact State.setBay_bay_self _ _ _ hb
  · rw [releaseBay_collecting h hd]
    rfl
  · have htaken : s.takeReleaseTimer b = s.releaseTimerEnds b := if_pos ⟨h, by rw [ht]; exact Completions.reached_some.mpr he⟩
    have honly : OnlyBays s (s.releaseTimerEnds b) [b] := (releaseTimerEnds_course (g := ⟨True, False⟩) h False.elim).onlyBays
    rw [hexec, htaken]
    refine ⟨_, rfl, honly, ?_⟩
    rw [releaseTimerEnds_eq h]
    by_cases hl : s.reached (s.bay b).deadline = true
    · have hlate : late := reached_iff.mp hl
      have hstate : ((rehold s b).bay b).state = .holding := by rw [rehold_bay hb]
      have hw := Completions.withdrawHeld_withdrawn (s := rehold s b) .deadline (.inl hstate)
      rw [if_pos hl]
      refine ⟨?_, ?_, fun hn => absurd hlate hn, fun _ => ⟨?_, ?_, ?_⟩⟩
      · rw [Completions.withdrawHeld_latch_of_holding .deadline hstate]
        rfl
      · rw [hw.directory]
        rfl
      · rw [hw.record, rehold_bay hb]
      · rw [hw.notice, rehold_notices hb]
      · exact Bool.and_eq_false_iff.mpr (.inr hw.gate)
    · have hlate : ¬ late := fun hn => hl (reached_iff.mpr hn)
      rw [if_neg hl]
      exact ⟨rfl, rfl, fun _ => ⟨rehold_bay hb, rfl, rfl, rehold_notices hb⟩, fun hn => absurd hn hlate⟩
  · rw [hexec]
    refine congrArg _ (if_neg fun hn => ?_)
    obtain h | h := h
    · exact h hn.1
    · rw [Completions.not_reached_of_ahead h] at hn
      exact Bool.false_ne_true hn.2

end Sys2Proof.Releases
end

section

-- One proof at a time: the proofs here together ask for more threads than the memory limit leaves room for.
set_option Elab.async false

/-! The releases of an entry: OPEN and a code entry (R157 to R160). -/

namespace Sys2Proof.Releases

open Sys2Proof Sys2Proof.Machine Sys2Proof.Courses Sys2Proof.Acts Sys2Proof.Gates Sys2Proof.Entries Sys2Proof.Commands

/-! ### The bays of an entry released -/

/-- What a release leaves of the bank. -/
structure ReleaseKept (s t : State) : Prop where
  directory : t.directory = s.directory
  notices : t.bayNotices = s.bayNotices
  doors : t.doors = s.doors
  link : t.link = s.link

section Entry

variable {s : State} {b : Nat}

/-- R157: a HOLDING bay of the entry is released. -/
def releaseHeld (s : State) (b : Nat) : State := if (s.bay b).state = .holding then s.releaseBay b else s

theorem releaseBay_kept (h : (s.bay b).state = .holding) : ReleaseKept s (s.releaseBay b) := by
  cases hd : (s.door (2 * b)).closed with
  | true =>
    rw [releaseBay_closed h hd, State.request_frame]
    exact ⟨rfl, rfl, rfl, rfl⟩
  | false =>
    rw [releaseBay_collecting h hd]
    exact ⟨rfl, rfl, rfl, rfl⟩

theorem releaseHeld_kept (s : State) (b : Nat) : ReleaseKept s (releaseHeld s b) := by
  unfold releaseHeld
  split
  · next h => exact releaseBay_kept h
  · exact ⟨rfl, rfl, rfl, rfl⟩

theorem releaseEntry_kept (s : State) (bs : List Nat) : ReleaseKept s (s.forBays bs releaseHeld) :=
  forBays_keeps (R := ReleaseKept) (fun _ => ⟨rfl, rfl, rfl, rfl⟩)
    (fun _ _ _ h h' => ⟨h'.directory.trans h.directory, h'.notices.trans h.notices, h'.doors.trans h.doors, h'.link.trans h.link⟩)
    releaseHeld_kept bs s

theorem releaseHeld_own {c : Nat} (hc : c ≠ b) : (releaseHeld s b).bay c = s.bay c := by
  unfold releaseHeld
  split
  · next h => exact (releaseBay_course (g := ⟨True, False⟩) h).bay_of_notMem (by simpa using hc)
  · rfl

/-- R160: the state a release moves its bay to. -/
theorem releaseBay_state (h : (s.bay b).state = .holding) :
    ((s.releaseBay b).bay b).state = if (s.door (2 * b)).closed then .releasing else .collecting := by
  have hb : b < 48 := lt_of_state h
  cases hd : (s.door (2 * b)).closed with
  | true =>
    rw [releaseBay_closed h hd, request_bay_state, heldAs_bay hb]
    rfl
  | false =>
    rw [releaseBay_collecting h hd]
    exact congrArg Bay.state (State.setBay_bay_self s b _ hb)

theorem releaseEntry_bay_of_ne (bs : List Nat) (s : State) (h : (s.bay b).state ≠ .holding) :
    (s.forBays bs releaseHeld).bay b = s.bay b := by
  induction bs generalizing s with
  | nil => rfl
  | cons c cs ih =>
    have hstep : (releaseHeld s c).bay b = s.bay b := by
      by_cases hc : b = c
      · rw [releaseHeld, if_neg (by rw [← hc]; exact h)]
      · exact releaseHeld_own hc
    exact (ih (releaseHeld s c) (by rw [hstep]; exact h)).trans hstep

theorem releaseEntry_state_of_holding {bs : List Nat} (hin : b ∈ bs) (s : State) (h : (s.bay b).state = .holding) :
    ((s.forBays bs releaseHeld).bay b).state = if (s.door (2 * b)).closed then .releasing else .collecting := by
  induction bs generalizing s with
  | nil => cases hin
  | cons c cs ih =>
    have hcons : s.forBays (c :: cs) releaseHeld = (releaseHeld s c).forBays cs releaseHeld := rfl
    have hdoor : (releaseHeld s c).door (2 * b) = s.door (2 * b) := by
      simp only [State.door, (releaseHeld_kept s c).doors]
    rw [hcons]
    by_cases hc : b = c
    · subst hc
      have hreleased : ((releaseHeld s b).bay b).state = if (s.door (2 * b)).closed then .releasing else .collecting := by
        rw [releaseHeld, if_pos h]
        exact releaseBay_state h
      rw [releaseEntry_bay_of_ne _ _ (by rw [hreleased]; split <;> decide), hreleased]
    · have hbay : (releaseHeld s c).bay b = s.bay b := releaseHeld_own hc
      rw [ih ((List.mem_cons.mp hin).resolve_left hc) _ (by rw [hbay]; exact h), hdoor]

/-- R157: the releases of distinct bays are those of the bays that hold at the outset. -/
theorem releaseEntry_eq_foldl {bs : List Nat} (distinct : bs.Nodup) (s : State) :
    s.forBays bs releaseHeld = (bs.filter fun b => (s.bay b).state = .holding).foldl State.releaseBay s := by
  induction bs generalizing s with
  | nil => rfl
  | cons b bs ih =>
    obtain ⟨hb, hdistinct⟩ := List.nodup_cons.mp distinct
    have hcons : s.forBays (b :: bs) releaseHeld = (releaseHeld s b).forBays bs releaseHeld := rfl
    have hfilter : (bs.filter fun c => ((releaseHeld s b).bay c).state = .holding) = bs.filter fun c => (s.bay c).state = .holding :=
      List.filter_congr fun c hc => by
        have hne : c ≠ b := fun h => hb (h ▸ hc)
        rw [releaseHeld_own hne]
    rw [hcons, ih hdistinct, hfilter]
    by_cases h : (s.bay b).state = .holding
    · rw [List.filter_cons_of_pos (by simpa using h), List.foldl_cons, releaseHeld, if_pos h]
    · rw [List.filter_cons_of_neg (by simpa using h), releaseHeld, if_neg h]

/-! ### The reply (R157, R158) -/

/-- A bay that an entry's reply counts as opening. -/
abbrev BayState.opens (st : BayState) : Prop := st = .releasing ∨ st = .collecting

theorem opens_after_release {bs : List Nat} (hin : b ∈ bs) : BayState.opens ((s.forBays bs releaseHeld).bay b).state ↔
    (s.bay b).state.countsAs = .released ∨ (s.bay b).state.countsAs = .opening := by
  by_cases h : (s.bay b).state = .holding
  · rw [releaseEntry_state_of_holding hin s h, h]
    refine iff_of_true ?_ (.inl rfl)
    split
    · exact .inl rfl
    · exact .inr rfl
  · rw [releaseEntry_bay_of_ne bs s h]
    unfold BayState.opens
    cases hst : (s.bay b).state <;> simp [hst, BayState.countsAs] at h ⊢

theorem withdrawn_after_release {bs : List Nat} (hin : b ∈ bs) :
    ((s.forBays bs releaseHeld).bay b).state = .withdrawn ↔ (s.bay b).state.countsAs = .withdrawn := by
  by_cases h : (s.bay b).state = .holding
  · rw [releaseEntry_state_of_holding hin s h, h]
    split <;> decide
  · rw [releaseEntry_bay_of_ne bs s h]
    cases hst : (s.bay b).state <;> simp [BayState.countsAs]

/-- R158: the reply read from the bays after the releases. -/
theorem entryResult_eq (s : State) (e : Entry) [Decidable (∃ b ∈ e.bays, BayState.opens ((s.forBays e.bays releaseHeld).bay b).state)]
    [Decidable (∃ b ∈ e.bays, ((s.forBays e.bays releaseHeld).bay b).state ≠ .withdrawn)] : s.entryResult e =
    if ∃ b ∈ e.bays, BayState.opens ((s.forBays e.bays releaseHeld).bay b).state then .opened
    else if ∃ b ∈ e.bays, ((s.forBays e.bays releaseHeld).bay b).state ≠ .withdrawn then .notReady else .withdrawn := by
  have hopened : (((e.bays.map fun b => (s.bay b).state.countsAs).contains .released ||
      (e.bays.map fun b => (s.bay b).state.countsAs).contains .opening) = true) ↔
      ∃ b ∈ e.bays, BayState.opens ((s.forBays e.bays releaseHeld).bay b).state := by
    simp only [Bool.or_eq_true, List.contains_iff_mem, List.mem_map]
    constructor
    · rintro (⟨b, hb, h⟩ | ⟨b, hb, h⟩)
      · exact ⟨b, hb, (opens_after_release hb).mpr (.inl h)⟩
      · exact ⟨b, hb, (opens_after_release hb).mpr (.inr h)⟩
    · rintro ⟨b, hb, h⟩
      exact ((opens_after_release hb).mp h).imp (fun h => ⟨b, hb, h⟩) fun h => ⟨b, hb, h⟩
  unfold State.entryResult
  dsimp only
  by_cases ho : ∃ b ∈ e.bays, BayState.opens ((s.forBays e.bays releaseHeld).bay b).state
  · rw [if_pos ho, if_pos (hopened.mpr ho)]
  · have hnot : (e.bays.map fun b => (s.bay b).state.countsAs).contains .notReady = true ↔
        ∃ b ∈ e.bays, ((s.forBays e.bays releaseHeld).bay b).state ≠ .withdrawn := by
      simp only [List.contains_iff_mem, List.mem_map]
      constructor
      · rintro ⟨b, hb, h⟩
        refine ⟨b, hb, fun hw => ?_⟩
        rw [(withdrawn_after_release hb).mp hw] at h
        cases h
      · rintro ⟨b, hb, h⟩
        refine ⟨b, hb, ?_⟩
        have hopen : ¬ ((s.bay b).state.countsAs = .released ∨ (s.bay b).state.countsAs = .opening) := fun hn =>
          ho ⟨b, hb, (opens_after_release hb).mpr hn⟩
        have hwith : (s.bay b).state.countsAs ≠ .withdrawn := fun hn => h ((withdrawn_after_release hb).mpr hn)
        cases hc : (s.bay b).state.countsAs <;> simp [hc] at hopen hwith ⊢
    rw [if_neg ho, if_neg fun h => ho (hopened.mp h)]
    by_cases hn : ∃ b ∈ e.bays, ((s.forBays e.bays releaseHeld).bay b).state ≠ .withdrawn
    · rw [if_pos hn, if_pos (hnot.mpr hn)]
    · rw [if_neg hn, if_neg fun h => hn (hnot.mp h)]

end Entry

/-! ### OPEN (R159) -/

section Open

variable {s : State} {k v : Nat}

theorem serveOpen_found {e : Entry} (h : s.findKey k v = .ok e) : serveOpen s k v = ⟨s.forBays e.bays releaseHeld, .done,
    byteOf (s.entryResult e).openCode :: byteOf e.bays.length ::
      e.bays.flatMap fun b => [byteOf b, stateByte ((s.forBays e.bays releaseHeld).bay b).state]⟩ := by
  unfold serveOpen
  rw [h]
  rfl

theorem entry_mem_of_found {e : Entry} (h : (if k = 0 then s.findCode v else s.findOrder v) = some e) : e ∈ s.directory.entries := by
  split at h
  · exact (findCode_some h).1
  · exact (findOrder_some h).1

theorem unlockCompletion_withLink (s : State) (l : OrderLink) (d : Nat) :
    (withLink s l).unlockCompletion d = withLink (s.unlockCompletion d) l := by
  unfold State.unlockCompletion
  cases sideOfDoor d
  · dsimp only
    rw [show (withLink s l).bay (bayOfDoor d) = s.bay (bayOfDoor d) from rfl]
    split <;> rfl
  · dsimp only
    rw [show (withLink s l).bay (bayOfDoor d) = s.bay (bayOfDoor d) from rfl]
    split
    · rfl
    · split <;> rfl

/-- R141: a request neither reads nor writes the Order Link. -/
theorem request_withLink (s : State) (l : OrderLink) (d : Nat) (a : LatchAction) (c : RequestClass) :
    (withLink s l).request d a c = withLink (s.request d a c) l := by
  have satisfied : ∀ u : State, (withLink u l).satisfied d a = withLink (u.satisfied d a) l := fun u => by
    cases a
    · rfl
    · exact unlockCompletion_withLink u l d
  unfold State.request
  rw [show (withLink s l).pendingFor d = s.pendingFor d from rfl, show (withLink s l).latchPosition d = s.latchPosition d from rfl,
    show (withLink s l).pulseRuns d = s.pulseRuns d from rfl]
  cases s.pendingFor d with
  | none =>
    dsimp only
    split
    · split
      · rfl
      · exact satisfied s
    · rfl
  | some r =>
    dsimp only
    split
    · split
      · rfl
      · exact satisfied (s.dropRequest d)
    · rfl

/-- Releases leave the Order Link alone, whatever it holds. -/
theorem releaseHeld_withLink (s : State) (l : OrderLink) (b : Nat) : releaseHeld (withLink s l) b = withLink (releaseHeld s b) l := by
  by_cases h : (s.bay b).state = .holding
  · rw [releaseHeld, releaseHeld, if_pos h, if_pos (show ((withLink s l).bay b).state = .holding from h)]
    cases hd : (s.door (2 * b)).closed with
    | true =>
      rw [releaseBay_closed h hd, releaseBay_closed (s := withLink s l) h hd]
      exact request_withLink (heldAs s b .releasing (s.bay b).timer) l _ _ _
    | false =>
      rw [releaseBay_collecting h hd, releaseBay_collecting (s := withLink s l) h hd]
      rfl
  · rw [releaseHeld, releaseHeld, if_neg h, if_neg (show ¬ ((withLink s l).bay b).state = .holding from h)]

theorem releaseEntry_withLink (bs : List Nat) (s : State) (l : OrderLink) :
    (withLink s l).forBays bs releaseHeld = withLink (s.forBays bs releaseHeld) l := by
  induction bs generalizing s with
  | nil => rfl
  | cons b bs ih =>
    refine Eq.trans ?_ (ih (releaseHeld s b))
    exact congrArg (fun u : State => u.forBays bs releaseHeld) (releaseHeld_withLink s l b)

end Open

/-- Settles O51: OPEN by its key, and the releases and the reply of an order found. -/
theorem openReleases : Obligations.OpenReleases := by
  unfold Obligations.OpenReleases
  intro s k v hs hk hv c found valid
  have hw : (Instr.openOrder k v).wellFormed = true := by
    simp only [Instr.wellFormed, Bool.and_eq_true, decide_eq_true_eq]
    omega
  refine ⟨fun h => exec_refused rfl hs hw ?_, fun h hn => exec_refused rfl hs hw ?_, fun e h he => ?_⟩
  · change serveOpen _ _ _ = _
    unfold serveOpen
    rw [findKey_bad (by simp only [valid] at h; omega)]
  · change serveOpen _ _ _ = _
    unfold serveOpen
    rw [findKey_none (s := s.joined c) h hn]
  · have hserve : carryOut (s.joined c) c = _ := serveOpen_found (findKey_some (s := s.joined c) h he)
    have hkept := releaseEntry_kept (s.joined c) e.bays
    have honly : OnlyBays (s.joined c) ((s.joined c).forBays e.bays releaseHeld) e.bays :=
      (releaseEntry_course (g := ⟨True, False⟩) e).onlyBays
    have hstill : ∀ b, (s.bay b).state ≠ .holding → ((s.joined c).forBays e.bays releaseHeld).bay b = s.bay b := fun b hne =>
      releaseEntry_bay_of_ne e.bays (s.joined c) hne
    have hreleased : ∀ b ∈ e.bays, (s.bay b).state = .holding → (((s.joined c).forBays e.bays releaseHeld).bay b).state =
        if (s.door (2 * b)).closed then .releasing else .collecting := fun b hb hh =>
      releaseEntry_state_of_holding hb (s.joined c) hh
    have hfold : ∀ l, s.directory.Ordered → withLink ((s.joined c).forBays e.bays releaseHeld) l =
        (e.bays.filter fun b => (s.bay b).state = .holding).foldl State.releaseBay (withLink s l) := fun l ho => by
      rw [← releaseEntry_withLink]
      exact releaseEntry_eq_foldl (entry_bays ho (entry_mem_of_found he)).1 (withLink s l)
    have hresult := entryResult_eq (s.joined c) e
    generalize (s.joined c).forBays e.bays releaseHeld = u at *
    generalize hdata : byteOf ((s.joined c).entryResult e).openCode :: _ = data at hserve
    refine ⟨_, data, exec_served rfl hs hw hserve hkept.link, onlyBays_served honly, hkept.directory, hkept.notices, hfold _,
      fun b hb _ => ⟨hstill b, hreleased b hb⟩, ?_⟩
    have hcode : byteOf ((s.joined c).entryResult e).openCode =
        if ∃ b ∈ e.bays, (u.bay b).state = .releasing ∨ (u.bay b).state = .collecting then 0
        else if ∃ b ∈ e.bays, (u.bay b).state ≠ .withdrawn then 1 else 2 := by
      rw [hresult]
      split
      · rfl
      · split <;> rfl
    rw [← hdata, hcode, List.flatMap_def]
    rfl

end Sys2Proof.Releases
end

section

-- One proof at a time: the proofs here together ask for more threads than the memory limit leaves room for.
set_option Elab.async false

/-! A code entry on a kiosk line (R155 to R158). -/

namespace Sys2Proof.Releases

open Sys2Proof Sys2Proof.Machine Sys2Proof.Courses Sys2Proof.Acts Sys2Proof.Entries Sys2Proof.Commands

section Entry

variable {s : State} {l : KioskLine}

theorem setPort_port (s : State) (l : KioskLine) (q : KioskPort) : (s.setPort l q).port l = q := by cases l <;> rfl

theorem onlyBays_setPort {t : State} {bs : List Nat} (l : KioskLine) (q : KioskPort) (h : OnlyBays s t bs) :
    OnlyBays (s.setPort l q) (t.setPort l q) bs := by
  obtain ⟨hall, hkept, hmark⟩ := h
  refine ⟨?_, fun b hb => ?_, ?_⟩
  · unfold BaysOnly at hall ⊢
    refine (congrArg (fun u : State => u.setPort l q) hall).trans ?_
    cases l <;> rfl
  · obtain ⟨h1, h2, h3, h4, h5, h6⟩ := hkept b hb
    cases l <;> exact ⟨h1, h2, h3, h4, h5, h6⟩
  · cases l <;> exact hmark

theorem exec_kioskEntry (hr : s.running = true) (hp : (s.port l).phase = .receiving) : exec (.kioskEntry l) s = .next (s.takeEntry l) := by
  refine congrArg Host.Outcome.next ((s.whenRunning_of_running _ hr).trans ?_)
  exact if_pos hp

/-- The port as the carriage return finds it, a lockout that has run out removed. -/
def heardPort (s : State) (l : KioskLine) : KioskPort := { s.port l with lastCharacter := s.bankTime, lockout := none }

theorem takeEntry_locked {e : Nat} (h : (s.port l).lockout = some e) (he : s.bankTime < e) : s.takeEntry l =
    s.setPort l ({ s.port l with lastCharacter := s.bankTime }.replyWith (kioskReply .lockedOut [] 0)) := by
  refine if_pos ?_
  rw [KioskPort.lockedOutAt, h]
  exact decide_eq_true he

theorem takeEntry_free (h : ∀ e, (s.port l).lockout = some e → e ≤ s.bankTime) : s.takeEntry l =
    if !(s.port l).wellFormed then s.setPort l (((heardPort s l).failed s.bankTime).replyWith (kioskReply .malformed [] 0))
    else match s.findCode (codeOf (s.port l).digits) with
      | none => s.setPort l (((heardPort s l).failed s.bankTime).replyWith (kioskReply .unknown [] 0))
      | some e => (s.releaseEntry e).setPort l ({ heardPort s l with failures := [] }.replyWith (kioskReply (s.entryResult e)
          (if s.entryResult e = EntryResult.opened then (s.releaseEntry e).openingBays e else []) ((s.releaseEntry e).withdrawnCount e))) := by
  refine (if_neg ?_).trans rfl
  rw [KioskPort.lockedOutAt]
  cases hl : (s.port l).lockout with
  | none => simp
  | some e => simpa using h e hl

theorem wellFormed_iff {p : KioskPort} : p.wellFormed = true ↔ p.digits.length = 6 ∧ p.malformed = false := by
  simp [KioskPort.wellFormed]

theorem takeEntry_found {e : Entry} (h : ∀ e, (s.port l).lockout = some e → e ≤ s.bankTime) (hw : (s.port l).wellFormed = true)
    (hc : s.findCode (codeOf (s.port l).digits) = some e) : s.takeEntry l =
      (s.forBays e.bays releaseHeld).setPort l ({ heardPort s l with failures := [] }.replyWith (kioskReply (s.entryResult e)
        (if s.entryResult e = EntryResult.opened then (s.forBays e.bays releaseHeld).openingBays e else [])
        ((s.forBays e.bays releaseHeld).withdrawnCount e))) := by
  rw [takeEntry_free h, hw, hc]
  rfl

/-- R156: a failure recorded. -/
theorem failed_eq {p : KioskPort} {now : Nat} (hlength : p.failures.length ≤ 5) : p.failed now =
    if (recordFailure p.failures now).length = 5 ∧ now - (recordFailure p.failures now).headD 0 ≤ 600 then
      { p with failures := [], lockout := some (min (now + 1200) 4294967295) }
    else { p with failures := recordFailure p.failures now } := by
  have hlast : (recordFailure p.failures now).getLastD 0 = now := by simp [recordFailure]
  have hle : (recordFailure p.failures now).length ≤ 5 := by
    simp only [recordFailure, List.length_append, List.length_singleton]
    split
    · omega
    · rw [List.length_drop]
      omega
  have hlocks : locksOut (recordFailure p.failures now) = true ↔
      (recordFailure p.failures now).length = 5 ∧ now - (recordFailure p.failures now).headD 0 ≤ 600 := by
    rw [locksOut, hlast, Bool.and_eq_true, decide_eq_true_eq, decide_eq_true_eq]
    omega
  unfold KioskPort.failed
  by_cases h : (recordFailure p.failures now).length = 5 ∧ now - (recordFailure p.failures now).headD 0 ≤ 600
  · rw [if_pos h]
    exact if_pos (hlocks.mpr h)
  · rw [if_neg h]
    exact if_neg fun hn => h (hlocks.mp hn)

/-- R158: the bays a reply lists, and those it counts as withdrawn. -/
theorem kioskReply_eq (t : State) (e : Entry) (result : EntryResult) (hresult : result =
      if ∃ b ∈ e.bays, BayState.opens (t.bay b).state then .opened
      else if ∃ b ∈ e.bays, (t.bay b).state ≠ .withdrawn then .notReady else .withdrawn) :
    let opening := e.bays.filter fun b => (t.bay b).state = .releasing ∨ (t.bay b).state = .collecting
    let withdrawn := e.bays.filter fun b => (t.bay b).state = .withdrawn
    let letter := if opening ≠ [] then 0x4F else if withdrawn.length < e.bays.length then 0x4E else 0x57
    kioskReply result (if result = .opened then t.openingBays e else []) (t.withdrawnCount e) =
      [0x41, letter, byteOf (0x30 + opening.length)] ++
        (opening.map fun b => [byteOf (0x30 + b / 10), byteOf (0x30 + b % 10)]).flatten ++
        [byteOf (0x30 + withdrawn.length), 0x0D] := by
  intro opening withdrawn letter
  have hopening : t.openingBays e = opening := List.filter_congr fun b _ => by simp
  have hcount : t.withdrawnCount e = withdrawn.length := List.countP_eq_length_filter
  have hopens : (∃ b ∈ e.bays, BayState.opens (t.bay b).state) ↔ opening ≠ [] := by
    rw [Ne, List.filter_eq_nil_iff]
    simp [or_iff_not_imp_left]
  have hleft : (∃ b ∈ e.bays, (t.bay b).state ≠ .withdrawn) ↔ withdrawn.length < e.bays.length := by
    rw [List.length_filter_lt_length_iff_exists]
    simp
  have hlisted : (if result = .opened then t.openingBays e else []) = opening := by
    rw [hopening]
    by_cases ho : opening = []
    · rw [ho]
      split <;> rfl
    · rw [hresult, if_pos (hopens.mpr ho)]
      rfl
  have hletter : result.letter = letter := by
    rw [hresult]
    by_cases ho : opening = []
    · rw [if_neg fun h => hopens.mp h ho]
      by_cases hl : withdrawn.length < e.bays.length
      · rw [if_pos (hleft.mpr hl)]
        simp only [letter, ho, ne_eq, not_true_eq_false, if_false, if_pos hl]
        rfl
      · rw [if_neg fun h => hl (hleft.mp h)]
        simp only [letter, ho, ne_eq, not_true_eq_false, if_false, if_neg hl]
        rfl
    · rw [if_pos (hopens.mpr ho)]
      simp only [letter, ne_eq, ho, not_false_eq_true, if_true]
      rfl
  rw [hlisted, hcount, kioskReply, hletter, List.flatMap_def]
  rfl

end Entry

/-- Settles O49: a code entry by the lockout, the form of the entry and the directory. -/
theorem kioskEntries : Obligations.KioskEntries := by
  unfold Obligations.KioskEntries
  intro s l hr hp hlength p now free code formed replies list failed
  have hexec := exec_kioskEntry (s := s) (l := l) hr hp
  have hfailed : ∀ letter : Byte, ((heardPort s l).failed s.bankTime).replyWith [0x41, letter, 0x30, 0x30, 0x0D] = failed letter := by
    intro letter
    rw [failed_eq (p := heardPort s l) hlength]
    by_cases h : list.length = 5 ∧ now - list.headD 0 ≤ 600
    · refine (congrArg (fun q : KioskPort => q.replyWith [0x41, letter, 0x30, 0x30, 0x0D]) (if_pos h)).trans ?_
      exact (if_pos h).symm
    · refine (congrArg (fun q : KioskPort => q.replyWith [0x41, letter, 0x30, 0x30, 0x0D]) (if_neg h)).trans ?_
      exact (if_neg h).symm
  refine ⟨fun e he hlt => ?_, fun hf hn => ?_, fun hf hw hc => ?_, fun e hf hw hc => ?_⟩
  · rw [hexec, takeEntry_locked he hlt]
    rfl
  · rw [hexec, takeEntry_free hf, if_pos, ← hfailed]
    · rfl
    · rw [Bool.not_eq_true', Bool.eq_false_iff]
      exact fun h => hn (wellFormed_iff.mp h)
  · rw [hexec, takeEntry_free hf, wellFormed_iff.mpr hw, show s.findCode (codeOf (s.port l).digits) = none from hc, ← hfailed]
    rfl
  · have htaken := takeEntry_found hf (wellFormed_iff.mpr hw) hc
    have hkept := releaseEntry_kept s e.bays
    have honly : OnlyBays s (s.forBays e.bays releaseHeld) e.bays := (releaseEntry_course (g := ⟨True, False⟩) e).onlyBays
    have hstill : ∀ b, (s.bay b).state ≠ .holding → (s.forBays e.bays releaseHeld).bay b = s.bay b := fun b hne =>
      releaseEntry_bay_of_ne e.bays s hne
    have hreleased : ∀ b ∈ e.bays, (s.bay b).state = .holding → ((s.forBays e.bays releaseHeld).bay b).state =
        if (s.door (2 * b)).closed then .releasing else .collecting := fun b hb hh => releaseEntry_state_of_holding hb s hh
    have hfold : s.directory.Ordered → s.forBays e.bays releaseHeld =
        (e.bays.filter fun b => (s.bay b).state = .holding).foldl State.releaseBay s := fun ho =>
      releaseEntry_eq_foldl (entry_bays ho (findCode_some hc).1).1 s
    have hreply := kioskReply_eq (s.forBays e.bays releaseHeld) e (s.entryResult e) (entryResult_eq s e)
    generalize s.forBays e.bays releaseHeld = u at *
    refine ⟨_, hexec.trans (congrArg _ htaken), ?_⟩
    rw [setPort_port]
    have hport : ∀ (q : KioskPort) (b : Nat), (u.setPort l q).bay b = u.bay b := fun q b => by cases l <;> rfl
    refine ⟨onlyBays_setPort l _ honly, ?_, ?_, fun ho => ?_, fun b hb _ => ⟨fun hne => ?_, fun hh => ?_⟩, ?_⟩
    · cases l <;> exact hkept.directory
    · cases l <;> exact hkept.notices
    · rw [hfold ho]
    · rw [hport]
      exact hstill b hne
    · rw [hport]
      exact hreleased b hb hh
    · simp only [hport]
      exact congrArg (fun r => ({ heardPort s l with failures := [] } : KioskPort).replyWith r) hreply

end Sys2Proof.Releases
end

section

-- One proof at a time: the proofs here together ask for more threads than the memory limit leaves room for.
set_option Elab.async false

/-! LOCKOUT and RESTORE (R9 to R14, R76). -/

namespace Sys2Proof.Modules

open Sys2Proof Sys2Proof.Machine Sys2Proof.Courses Sys2Proof.Acts Sys2Proof.Entries Sys2Proof.Commands

section Bays

variable {s : State} {b : Nat}

/-- R12: the record of a bay locked out. -/
def lockedOutRecord (r : Bay) : Bay :=
  match r.state with
  | .vacant => r.outOfService .lockout
  | .outOfService => r
  | .booked | .preheating | .ready | .loading | .holding | .releasing | .collecting | .withdrawn => { r with draining := true }

/-- R14: the record of a bay restored. -/
def restoredRecord (r : Bay) : Bay :=
  let r' := { r with draining := false, sensorFault := false, faultStreak := 0 }
  if r.state = .outOfService then r'.vacated else r'

theorem lockedOutRecord_of_live {r : Bay} (hv : r.state ≠ .vacant) (ho : r.state ≠ .outOfService) :
    lockedOutRecord r = { r with draining := true } := by
  unfold lockedOutRecord
  cases hst : r.state with
  | vacant => exact absurd hst hv
  | outOfService => exact absurd hst ho
  | _ => rfl

theorem lockOutBay_of_vacant (h : (s.bay b).state = .vacant) : s.lockOutBay b = s.enterOutOfService b .lockout := by
  unfold State.lockOutBay
  rw [h]

theorem lockOutBay_of_outOfService (h : (s.bay b).state = .outOfService) : s.lockOutBay b = s := by
  unfold State.lockOutBay
  rw [h]

theorem lockOutBay_of_live (hv : (s.bay b).state ≠ .vacant) (ho : (s.bay b).state ≠ .outOfService) :
    s.lockOutBay b = s.setBay b { s.bay b with draining := true } := by
  unfold State.lockOutBay
  cases hst : (s.bay b).state with
  | vacant => exact absurd hst hv
  | outOfService => exact absurd hst ho
  | _ => rfl

theorem lockOutBay_bay (hb : b < 48) : (s.lockOutBay b).bay b = lockedOutRecord (s.bay b) := by
  by_cases hv : (s.bay b).state = .vacant
  · rw [lockOutBay_of_vacant hv, enterOutOfService_bay_self hb, lockedOutRecord, hv]
  · by_cases ho : (s.bay b).state = .outOfService
    · rw [lockOutBay_of_outOfService ho, lockedOutRecord, ho]
    · rw [lockOutBay_of_live hv ho, s.setBay_bay_self b _ hb, lockedOutRecord_of_live hv ho]

theorem lockOutBay_bay_of_ne {c : Nat} (h : c ≠ b) : (s.lockOutBay b).bay c = s.bay c :=
  (lockOutBay_course (g := ⟨True, False⟩)).bay_of_notMem (by simpa using h)

/-- A bay restored, its flags cleared. -/
def unflagged (s : State) (b : Nat) : State := s.setBay b { s.bay b with draining := false, sensorFault := false, faultStreak := 0 }

theorem unflagged_bay (hb : b < 48) :
    (unflagged s b).bay b = { s.bay b with draining := false, sensorFault := false, faultStreak := 0 } := s.setBay_bay_self b _ hb

theorem restoreBay_of_outOfService (hb : b < 48) (h : (s.bay b).state = .outOfService) : s.restoreBay b = (unflagged s b).enterVacant b :=
  if_pos (by rw [s.setBay_bay_self b _ hb]; exact h)

theorem restoreBay_of_other (hb : b < 48) (h : (s.bay b).state ≠ .outOfService) : s.restoreBay b = unflagged s b :=
  if_neg (by rw [s.setBay_bay_self b _ hb]; exact h)

theorem restoreBay_bay (hb : b < 48) : (s.restoreBay b).bay b = restoredRecord (s.bay b) := by
  by_cases h : (s.bay b).state = .outOfService
  · rw [restoreBay_of_outOfService hb h, enterVacant_bay_self hb, unflagged_bay hb]
    exact (if_pos h).symm
  · rw [restoreBay_of_other hb h, unflagged_bay hb]
    exact (if_neg h).symm

theorem restoreBay_bay_of_ne {c : Nat} (h : c ≠ b) : (s.restoreBay b).bay c = s.bay c :=
  (restoreBay_course (g := ⟨True, False⟩)).bay_of_notMem (by simpa using h)

end Bays

/-! ### What the other parts see -/

/-- The part of R24 that LOCKOUT and RESTORE need: an idle bay belongs to no entry. -/
def RestingFree (s : State) : Prop := ∀ b < 48, (s.bay b).state.resting = true → (s.bay b).entry = none

/-- Nothing but records, rounds and the mark on the conversion changes. -/
structure Quiet (s t : State) : Prop where
  directory : t.directory = s.directory
  notices : t.bayNotices = s.bayNotices
  latch : t.latch = s.latch
  heater : t.heater = s.heater
  conversion : t.scanner.conversion = s.scanner.conversion

theorem Quiet.refl (s : State) : Quiet s s := ⟨rfl, rfl, rfl, rfl, rfl⟩

theorem Quiet.trans {s t u : State} (h : Quiet s t) (h' : Quiet t u) : Quiet s u :=
  ⟨h'.directory.trans h.directory, h'.notices.trans h.notices, h'.latch.trans h.latch, h'.heater.trans h.heater,
    h'.conversion.trans h.conversion⟩

section Steps

variable {s : State} {b : Nat}

theorem leaveEntry_of_none (h : (s.bay b).entry = none) : s.leaveEntry b = s := by
  unfold State.leaveEntry
  rw [h]

/-- A change of a bay that does not heat cuts no run. -/
theorem changeBay_quiet {f : Bay → Bay} (h : (s.bay b).state.heating = false) : Quiet s (s.changeBay b f) := by
  unfold State.changeBay
  simp only [h, Bool.false_and, Bool.false_eq_true, if_false]
  split <;> exact ⟨rfl, rfl, rfl, rfl, rfl⟩

theorem markDiscard_quiet : Quiet s (s.markDiscard b) := by
  rw [State.markDiscard_frame]
  exact ⟨rfl, rfl, rfl, rfl, rfl⟩

theorem enterOutOfService_quiet (why : OosReason) (hst : (s.bay b).state = .vacant) (he : (s.bay b).entry = none) :
    Quiet s (s.enterOutOfService b why) := by
  unfold State.enterOutOfService
  rw [leaveEntry_of_none he]
  exact (changeBay_quiet (by rw [hst]; rfl)).trans markDiscard_quiet

theorem lockOutBay_quiet (hb : b < 48) (h : RestingFree s) : Quiet s (s.lockOutBay b) := by
  by_cases hv : (s.bay b).state = .vacant
  · rw [lockOutBay_of_vacant hv]
    exact enterOutOfService_quiet _ hv (h b hb (by rw [hv]; rfl))
  · by_cases ho : (s.bay b).state = .outOfService
    · rw [lockOutBay_of_outOfService ho]
      exact Quiet.refl s
    · rw [lockOutBay_of_live hv ho]
      exact ⟨rfl, rfl, rfl, rfl, rfl⟩

theorem restoreBay_quiet (hb : b < 48) (h : RestingFree s) : Quiet s (s.restoreBay b) := by
  by_cases ho : (s.bay b).state = .outOfService
  · have hnone : ((unflagged s b).bay b).entry = none := by
      rw [unflagged_bay hb]
      exact h b hb (by rw [ho]; rfl)
    rw [restoreBay_of_outOfService hb ho, State.enterVacant, leaveEntry_of_none hnone]
    have hset : Quiet s (unflagged s b) := ⟨rfl, rfl, rfl, rfl, rfl⟩
    exact hset.trans (changeBay_quiet (by rw [unflagged_bay hb]; exact (congrArg BayState.heating ho).trans rfl))
  · rw [restoreBay_of_other hb ho]
    exact ⟨rfl, rfl, rfl, rfl, rfl⟩

theorem lockOutBay_restingFree (hb : b < 48) (h : RestingFree s) : RestingFree (s.lockOutBay b) := by
  intro c hc hrest
  by_cases hcb : c = b
  · subst hcb
    rw [lockOutBay_bay hc] at hrest ⊢
    by_cases hv : (s.bay c).state = .vacant
    · rw [lockedOutRecord, hv]
      rfl
    · by_cases ho : (s.bay c).state = .outOfService
      · rw [lockedOutRecord, ho]
        exact h c hc (by rw [ho]; rfl)
      · rw [lockedOutRecord_of_live hv ho] at hrest ⊢
        exact h c hc hrest
  · rw [lockOutBay_bay_of_ne hcb] at hrest ⊢
    exact h c hc hrest

theorem restoreBay_restingFree (hb : b < 48) (h : RestingFree s) : RestingFree (s.restoreBay b) := by
  intro c hc hrest
  by_cases hcb : c = b
  · subst hcb
    rw [restoreBay_bay hc] at hrest ⊢
    unfold restoredRecord at hrest ⊢
    dsimp only at hrest ⊢
    split
    · rfl
    · next ho =>
      rw [if_neg ho] at hrest
      exact h c hc hrest
  · rw [restoreBay_bay_of_ne hcb] at hrest ⊢
    exact h c hc hrest

end Steps

/-- Operations on the bays of a module, each quiet where idle bays belong to no entry. -/
theorem forBays_quiet {f : State → Nat → State} (step : ∀ s b, b < 48 → RestingFree s → Quiet s (f s b))
    (kept : ∀ s b, b < 48 → RestingFree s → RestingFree (f s b)) {bs : List Nat} (within : ∀ b ∈ bs, b < 48) {s : State}
    (h : RestingFree s) : Quiet s (s.forBays bs f) := by
  induction bs generalizing s with
  | nil => exact Quiet.refl s
  | cons b bs ih =>
    have hb := within b (List.mem_cons_self ..)
    exact (step s b hb h).trans (ih (fun c hc => within c (List.mem_cons_of_mem _ hc)) (kept s b hb h))

/-! ### The mark on the conversion (R76) -/

section Mark

theorem markDiscard_discard {s : State} {b : Nat} : (s.markDiscard b).scanner.discard = true ↔
    s.scanner.discard = true ∨ ∃ c, s.scanner.conversion = some c ∧ c.bay = b := by
  unfold State.markDiscard
  cases hc : s.scanner.conversion with
  | none => simp
  | some c =>
    by_cases hb : c.bay = b <;> simp [hb]

theorem enterOutOfService_discard {s : State} {b : Nat} (why : OosReason) : (s.enterOutOfService b why).scanner.discard = true ↔
    s.scanner.discard = true ∨ ∃ c, s.scanner.conversion = some c ∧ c.bay = b := by
  unfold State.enterOutOfService
  obtain ⟨hd, hc⟩ := changeBay_discard (s.leaveEntry b) b (·.outOfService why)
  rw [markDiscard_discard, hd, hc, State.leaveEntry_frame]

theorem lockOutBay_discard {s : State} {b : Nat} : (s.lockOutBay b).scanner.discard = true ↔
    s.scanner.discard = true ∨ ∃ c, s.scanner.conversion = some c ∧ c.bay = b ∧ (s.bay b).state = .vacant := by
  by_cases hv : (s.bay b).state = .vacant
  · simp only [lockOutBay_of_vacant hv, enterOutOfService_discard, hv, and_true]
  · have hkept : (s.lockOutBay b).scanner = s.scanner := by
      by_cases ho : (s.bay b).state = .outOfService
      · rw [lockOutBay_of_outOfService ho]
      · rw [lockOutBay_of_live hv ho]
        rfl
    simp only [hkept, hv, and_false, exists_false, or_false]

theorem lockOutBay_conversion {s : State} {b : Nat} : (s.lockOutBay b).scanner.conversion = s.scanner.conversion :=
  ((lockOutBay_course (g := ⟨True, False⟩) (s := s) (b := b)).onlyBays).1.conversion

/-- R76: the mark is set where the bay in conversion is among those that enter OUT_OF_SERVICE. -/
theorem lockOut_discard {bs : List Nat} (distinct : bs.Nodup) (s : State) : (s.forBays bs State.lockOutBay).scanner.discard = true ↔
    s.scanner.discard = true ∨ ∃ c, s.scanner.conversion = some c ∧ c.bay ∈ bs ∧ (s.bay c.bay).state = .vacant := by
  induction bs generalizing s with
  | nil => simp [State.forBays]
  | cons b bs ih =>
    obtain ⟨hb, hdistinct⟩ := List.nodup_cons.mp distinct
    have hcons : s.forBays (b :: bs) State.lockOutBay = (s.lockOutBay b).forBays bs State.lockOutBay := rfl
    rw [hcons, ih hdistinct, lockOutBay_discard, lockOutBay_conversion, or_assoc]
    refine or_congr_right ?_
    rw [← exists_or]
    refine exists_congr fun c => ?_
    rw [← and_or_left]
    refine and_congr_right fun _ => ?_
    by_cases hc : c.bay = b
    · simp [hc, hb]
    · rw [lockOutBay_bay_of_ne hc]
      simp [hc]

theorem restoreBay_discard {s : State} {b : Nat} : (s.restoreBay b).scanner.discard = s.scanner.discard := by
  unfold State.restoreBay
  dsimp only
  split
  · unfold State.enterVacant
    rw [(changeBay_discard ..).1, State.leaveEntry_frame]
    rfl
  · rfl

end Mark

/-! ### The module -/

section Module

variable {s : State} {m : Nat}

theorem bays_of_module (hm : m < 12) : (baysOfModule m).Nodup ∧ ∀ b ∈ baysOfModule m, b < 48 := by
  refine ⟨by simp [baysOfModule], fun b hb => ?_⟩
  simp only [baysOfModule, List.mem_cons, List.not_mem_nil, or_false] at hb
  omega

theorem onlyBays_setLockedOut {t : State} {bs : List Nat} (m : Nat) (v : Bool) (h : OnlyBays s t bs) :
    OnlyBays (s.setLockedOut m v) (t.setLockedOut m v) bs := by
  obtain ⟨hall, hkept, hmark⟩ := h
  refine ⟨?_, fun b hb => ?_, hmark⟩
  · unfold BaysOnly at hall ⊢
    exact congrArg (fun u : State => u.setLockedOut m v) hall
  · obtain ⟨h1, h2, h3, h4, h5, h6⟩ := hkept b hb
    exact ⟨h1, h2, h3, h4, h5, h6⟩

theorem lockOut_bay (hm : m < 12) {b : Nat} (hb : b ∈ baysOfModule m) (s : State) :
    (s.forBays (baysOfModule m) State.lockOutBay).bay b = lockedOutRecord (s.bay b) := by
  obtain ⟨hdistinct, hwithin⟩ := bays_of_module hm
  have hread := forBays_read (f := State.lockOutBay) (π := State.bay) (fun s b c h => lockOutBay_bay_of_ne h)
    (fun s b c h hc => by rw [lockOutBay_bay hc, lockOutBay_bay hc, lockOutBay_bay_of_ne h]) hdistinct hwithin s b
  rw [hread, if_pos hb, lockOutBay_bay (hwithin b hb)]

theorem restore_bay (hm : m < 12) {b : Nat} (hb : b ∈ baysOfModule m) (s : State) :
    (s.forBays (baysOfModule m) State.restoreBay).bay b = restoredRecord (s.bay b) := by
  obtain ⟨hdistinct, hwithin⟩ := bays_of_module hm
  have hread := forBays_read (f := State.restoreBay) (π := State.bay) (fun s b c h => restoreBay_bay_of_ne h)
    (fun s b c h hc => by rw [restoreBay_bay hc, restoreBay_bay hc, restoreBay_bay_of_ne h]) hdistinct hwithin s b
  rw [hread, if_pos hb, restoreBay_bay (hwithin b hb)]

/-- R76: LOCKOUT and the conversion in progress. -/
theorem lockOut_discard_served {c : Command} (hm : m < 12) :
    ((s.joined c).forBays (baysOfModule m) State.lockOutBay).scanner.discard = true ↔
      s.scanner.discard = true ∨
        ∃ c, s.scanner.conversion = some c ∧ c.bay ∈ baysOfModule m ∧ (s.bay c.bay).state = .vacant :=
  lockOut_discard (bays_of_module hm).1 (s.joined c)

theorem restore_discard (bs : List Nat) (s : State) : (s.forBays bs State.restoreBay).scanner.discard = s.scanner.discard :=
  forBays_keeps (R := fun s t => t.scanner.discard = s.scanner.discard) (fun _ => rfl) (fun _ _ _ h h' => h'.trans h)
    (fun _ _ => restoreBay_discard) bs s

/-- R12, R14: the reply. -/
def moduleData (s : State) (m : Nat) : List Byte :=
  byteOf m :: ((baysOfModule m).map fun b => [stateByte (s.bay b).state] ++ oosBytes (s.bay b).oosReason).flatten

theorem moduleReport_setLockedOut (v : Bool) : (s.setLockedOut m v).moduleReport m = moduleData s m := by
  rw [State.moduleReport, List.flatMap_def]
  rfl

end Module

theorem serveLockout_range {s : State} {n : Nat} (h : 47 < n) : serveLockout s n = refuse s .badValue := if_pos h

theorem serveRestore_range {s : State} {n : Nat} (h : 47 < n) : serveRestore s n = refuse s .badValue := if_pos h

theorem serveLockout_eq {s : State} {n : Nat} (h : n < 48) : serveLockout s n =
    ⟨(s.forBays (baysOfModule (n / 4)) State.lockOutBay).setLockedOut (n / 4) true, .done,
      moduleData (s.forBays (baysOfModule (n / 4)) State.lockOutBay) (n / 4)⟩ := by
  rw [← moduleReport_setLockedOut true]
  exact if_neg (by omega)

theorem serveRestore_eq {s : State} {n : Nat} (h : n < 48) : serveRestore s n =
    ⟨(s.forBays (baysOfModule (n / 4)) State.restoreBay).setLockedOut (n / 4) false, .done,
      moduleData (s.forBays (baysOfModule (n / 4)) State.restoreBay) (n / 4)⟩ := by
  rw [← moduleReport_setLockedOut false]
  exact if_neg (by omega)

/-- Settles O54: each bay of the module by its state, and the frame of the two commands. -/
theorem modulesLockedOutAndRestored : Obligations.ModulesLockedOutAndRestored := by
  unfold Obligations.ModulesLockedOutAndRestored
  intro s n hs hn m four report kept
  refine ⟨fun h => ⟨?_, ?_⟩, fun h hagrees => ?_, fun h hagrees => ?_⟩
  · exact exec_refused rfl hs (by simpa [Instr.wellFormed] using hn) (serveLockout_range h)
  · exact exec_refused rfl hs (by simpa [Instr.wellFormed] using hn) (serveRestore_range h)
  · have hm : m < 12 := by omega
    have hserve := serveLockout_eq (s := s.joined (.lockout n)) h
    have honly : OnlyBays (s.joined (.lockout n)) ((s.joined (.lockout n)).forBays four State.lockOutBay) four :=
      Course.onlyBays (g := ⟨True, False⟩) (Course.forBays' _ fun _ _ _ => lockOutBay_course)
    have hquiet : Quiet (s.joined (.lockout n)) ((s.joined (.lockout n)).forBays four State.lockOutBay) :=
      forBays_quiet (fun _ _ => lockOutBay_quiet) (fun _ _ => lockOutBay_restingFree) (bays_of_module hm).2 hagrees.resting
    have hmark : ((s.joined (.lockout n)).forBays four State.lockOutBay).scanner.discard = true ↔ s.scanner.discard = true ∨
        ∃ c, s.scanner.conversion = some c ∧ c.bay ∈ four ∧ (s.bay c.bay).state = .vacant := lockOut_discard_served hm
    have hbay : ∀ b ∈ four, ((s.joined (.lockout n)).forBays four State.lockOutBay).bay b = lockedOutRecord (s.bay b) :=
      fun b hb => lockOut_bay hm hb (s.joined (.lockout n))
    change serveLockout _ _ = ⟨State.setLockedOut (State.forBays _ four _) m true, .done, moduleData (State.forBays _ four _) m⟩ at hserve
    generalize (s.joined (.lockout n)).forBays four State.lockOutBay = u at *
    refine ⟨_, _, exec_served (c := .lockout n) rfl hs (by simpa [Instr.wellFormed] using hn) (u := u.setLockedOut m true) hserve
      honly.1.link, onlyBays_setLockedOut m true (onlyBays_served honly), rfl, hquiet.directory, hquiet.notices, hquiet.latch, hquiet.heater,
      hmark, fun b hb => ⟨fun hst => ?_, fun hst => ?_, fun hv ho => ?_⟩⟩
    · refine (hbay b hb).trans ?_
      rw [lockedOutRecord, hst]
      rfl
    · refine (hbay b hb).trans ?_
      rw [lockedOutRecord, hst]
    · exact (hbay b hb).trans (lockedOutRecord_of_live hv ho)
  · have hm : m < 12 := by omega
    have hserve := serveRestore_eq (s := s.joined (.restore n)) h
    have honly : OnlyBays (s.joined (.restore n)) ((s.joined (.restore n)).forBays four State.restoreBay) four :=
      Course.onlyBays (g := ⟨True, False⟩) (Course.forBays' _ fun _ _ _ => restoreBay_course)
    have hquiet : Quiet (s.joined (.restore n)) ((s.joined (.restore n)).forBays four State.restoreBay) :=
      forBays_quiet (fun _ _ => restoreBay_quiet) (fun _ _ => restoreBay_restingFree) (bays_of_module hm).2 hagrees.resting
    have hmark := restore_discard four (s.joined (.restore n))
    have hbay : ∀ b ∈ four, ((s.joined (.restore n)).forBays four State.restoreBay).bay b = restoredRecord (s.bay b) :=
      fun b hb => restore_bay hm hb (s.joined (.restore n))
    change serveRestore _ _ = ⟨State.setLockedOut (State.forBays _ four _) m false, .done, moduleData (State.forBays _ four _) m⟩ at hserve
    generalize (s.joined (.restore n)).forBays four State.restoreBay = u at *
    refine ⟨_, _, exec_served (c := .restore n) rfl hs (by simpa [Instr.wellFormed] using hn) (u := u.setLockedOut m false) hserve
      honly.1.link, onlyBays_setLockedOut m false (onlyBays_served honly), rfl, hquiet.directory, hquiet.notices, hquiet.latch, hquiet.heater,
      hmark, fun b hb => ⟨fun hst => ?_, fun hst => ?_⟩⟩
    · exact (hbay b hb).trans (if_pos hst)
    · exact (hbay b hb).trans (if_neg hst)

end Sys2Proof.Modules
end

section

-- One proof at a time: the proofs here together ask for more threads than the memory limit leaves room for.
set_option Elab.async false

/-! CANCEL (R31, R174 to R176). -/

namespace Sys2Proof.Cancelling

open Sys2Proof Sys2Proof.Machine Sys2Proof.Courses Sys2Proof.Acts Sys2Proof.Entries Sys2Proof.Expiries Sys2Proof.Pulses
  Sys2Proof.Commands

/-! ### One bay among those of a list -/

theorem latchPosition_of_baysOnly {s t : State} (h : BaysOnly s t) (d : Nat) : t.latchPosition d = s.latchPosition d :=
  (congrArg (fun u : State => u.latchPosition d) (show t = _ from h)).trans rfl

theorem pulseRuns_of_baysOnly {s t : State} (h : BaysOnly s t) (d : Nat) : t.pulseRuns d = s.pulseRuns d :=
  (congrArg (fun u : State => u.pulseRuns d) (show t = _ from h)).trans rfl

/-- What an operation goes over, bay after bay, it finds as it was, and leaves as it leaves it alone. -/
theorem forBays_at {f : State → Nat → State} (step : ∀ s b, OnlyBays s (f s b) [b]) {bs : List Nat} (distinct : bs.Nodup) {b : Nat}
    (hb : b ∈ bs) (s : State) : ∃ v, BaysOnly s v ∧ BayKept s v b ∧ BayKept (f v b) (s.forBays bs f) b := by
  have listed : ∀ (l : List Nat) (u : State), OnlyBays u (u.forBays l f) l := fun l => by
    induction l with
    | nil => exact fun u => onlyBays_refl u []
    | cons c l ih =>
      intro u
      have hwider : ∀ {x y : State} {l l' : List Nat}, OnlyBays x y l → (∀ c ∈ l, c ∈ l') → OnlyBays x y l' :=
        fun ⟨h1, h2, h3⟩ hsub => ⟨h1, fun c hc => h2 c fun h => hc (hsub c h), fun h => h3 fun c hc h' => h c hc (hsub _ h')⟩
      exact onlyBays_trans (hwider (step u c) (by simp)) (hwider (ih (f u c)) fun d hd => List.mem_cons_of_mem _ hd)
  obtain ⟨before, after, rfl⟩ := List.append_of_mem hb
  have hout : b ∉ before ∧ b ∉ after := by
    rw [List.nodup_append] at distinct
    exact ⟨fun h => distinct.2.2 b h b (List.mem_cons_self ..) rfl, (List.nodup_cons.mp distinct.2.1).1⟩
  have hsplit : s.forBays (before ++ b :: after) f = (f (s.forBays before f) b).forBays after f := by
    simp only [State.forBays, List.foldl_append, List.foldl_cons]
  refine ⟨s.forBays before f, (listed before s).1, (listed before s).2.1 b hout.1, ?_⟩
  rw [hsplit]
  exact (listed after _).2.1 b hout.2

/-! ### The bay by its state -/

section Bay

variable {s : State} {b : Nat}

theorem cancelBay_onlyBays (s : State) (b : Nat) : OnlyBays s (s.cancelBay b) [b] :=
  (cancelBay_course (g := ⟨False, False⟩)).onlyBays

theorem cancelBay_of_waiting (h : (s.bay b).state = .booked ∨ (s.bay b).state = .preheating ∨ (s.bay b).state = .ready) :
    s.cancelBay b = s.sendToVacant b := by
  unfold State.cancelBay
  obtain h | h | h := h <;> rw [h]

theorem cancelBay_of_holding (h : (s.bay b).state = .holding) : s.cancelBay b = s.enterWithdrawn b .cancelled := by
  unfold State.cancelBay
  rw [h]

theorem cancelBay_of_withdrawn (h : (s.bay b).state = .withdrawn) : s.cancelBay b = s := by
  unfold State.cancelBay
  rw [h]

/-- R176: a bay withdrawn from LOADING, its clearing begun. -/
def clearingBegun (s : State) (b : Nat) : State :=
  (s.enterWithdrawn b .cancelled).setBay b { (s.enterWithdrawn b .cancelled).bay b with clearing := true }

theorem cancelBay_of_opened (h : (s.bay b).state = .loading) (ho : (s.bay b).rearOpened = true) :
    s.cancelBay b = (clearingBegun s b).request (2 * b + 1) .unlock .service := by
  unfold State.cancelBay
  rw [h]
  exact if_pos ho

theorem cancelBay_of_unopened (h : (s.bay b).state = .loading) (ho : (s.bay b).rearOpened = false) :
    s.cancelBay b = (s.returnRearLatch b).sendToVacant b := by
  unfold State.cancelBay
  rw [h]
  exact if_neg (by rw [ho]; exact Bool.false_ne_true)

theorem clearingBegun_bay (hb : b < 48) : (clearingBegun s b).bay b =
    { (s.bay b).withdrawnFor .cancelled with demand := 0, clearing := true } := by
  rw [clearingBegun, State.setBay_bay_self _ _ _ hb, State.enterWithdrawn_bay_self _ _ _ hb]

theorem clearingBegun_latch : (clearingBegun s b).latch = s.latch := enterWithdrawn_latch s b _

theorem enterWithdrawn_notices (hb : b < 48) (why : WithdrawReason) :
    (s.enterWithdrawn b why).notices b = { s.notices b with withdrawn := some why } := by
  refine (State.setNotices_notices_self _ b _ hb).trans ?_
  rw [changeBay_notices]
  rfl

/-- R176, R180: the record of a LOADING bay withdrawn with its clearing begun. -/
theorem openedCancelled_bay (hb : b < 48) : ((clearingBegun s b).request (2 * b + 1) .unlock .service).bay b =
    { (s.bay b).withdrawnFor .cancelled with
      demand := 0, clearing := true
      timer := if (s.latchPosition (2 * b + 1) = .unlocked ∨ s.latchPosition (2 * b + 1) = .unlocking) ∧ s.pulseRuns (2 * b + 1) = false then
        some (s.after s.config.clearingWindow) else none } := by
  have hposition : (clearingBegun s b).latchPosition (2 * b + 1) = s.latchPosition (2 * b + 1) :=
    latchPosition_congr clearingBegun_latch _
  have hpulse : (clearingBegun s b).pulseRuns (2 * b + 1) = s.pulseRuns (2 * b + 1) := pulseRuns_congr clearingBegun_latch _
  have hbay := clearingBegun_bay (s := s) hb
  have hafter : (clearingBegun s b).after (clearingBegun s b).config.clearingWindow = s.after s.config.clearingWindow := by
    rw [clearingBegun, State.enterWithdrawn, State.changeBay_frame]
    rfl
  have untimed : ∀ v : State, v.bays = (clearingBegun s b).bays →
      v.bay b = { (s.bay b).withdrawnFor .cancelled with demand := 0, clearing := true, timer := none } := fun v hv =>
    ((show v.bay b = (clearingBegun s b).bay b by simp only [State.bay, hv]).trans hbay).trans rfl
  cases hside : (s.latchPosition (2 * b + 1)).side with
  | lock =>
    rw [if_neg]
    · exact untimed _ (request_bays_away (by rw [hposition, hside]; decide))
    · rintro ⟨hu, -⟩
      rw [Completions.side_eq_unlock_iff.mpr hu] at hside
      cases hside
  | unlock =>
    cases hp : s.pulseRuns (2 * b + 1) with
    | true =>
      rw [if_neg (by simp)]
      exact untimed _ ((request_bays_here (by rw [hposition, hside])).trans (if_pos (.inl (hpulse.trans hp))))
    | false =>
      rw [if_pos ⟨Completions.side_eq_unlock_iff.mp hside, rfl⟩, request_unlock_done (by rw [hposition, hside]) (hpulse.trans hp)]
      have hdropped : ((clearingBegun s b).dropRequest (2 * b + 1)).bay b = _ := hbay
      rw [unlockCompletion_rear, hdropped, if_neg (by simp [Bay.withdrawnFor]), if_pos (by simp [Bay.withdrawnFor]),
        State.setBay_bay_self _ _ _ hb]
      exact congrArg (fun t => { (s.bay b).withdrawnFor .cancelled with demand := 0, clearing := true, timer := some t }) hafter

end Bay

/-! ### The latch requests -/

section Latches

variable {s : State}

/-- R141, R142, R176: what CANCEL asks of the latch of the rear door of bay `b`, as it finds the bay in `s`. -/
def relatched (s u : State) (b : Nat) : State :=
  if (s.bay b).state ≠ .loading then u
  else if (s.bay b).rearOpened then u.request (2 * b + 1) .unlock .service
  else if (s.latchPosition (2 * b + 1) = .unlocked ∨ s.latchPosition (2 * b + 1) = .unlocking) ∧ (s.door (2 * b + 1)).closed = true then
    (u.withdrawRequest (2 * b + 1) .unlock).request (2 * b + 1) .lock .lock
  else u.withdrawRequest (2 * b + 1) .unlock

theorem cancelBay_latch_of_other {v : State} {b : Nat} (h : (v.bay b).state ≠ .loading) : (v.cancelBay b).latch = v.latch := by
  unfold State.cancelBay
  cases hst : (v.bay b).state with
  | booked | preheating | ready => exact sendToVacant_latch v b
  | loading => exact absurd hst h
  | holding => exact enterWithdrawn_latch v b _
  | vacant | releasing | collecting | withdrawn | outOfService => rfl

/-- The latches after the cancellation of one bay. -/
theorem cancelBay_latch {u v : State} {b : Nat} (latch : v.latch = u.latch)
    (position : v.latchPosition (2 * b + 1) = s.latchPosition (2 * b + 1)) (door : v.door (2 * b + 1) = s.door (2 * b + 1))
    (state : (v.bay b).state = (s.bay b).state) (opened : (v.bay b).rearOpened = (s.bay b).rearOpened) :
    (v.cancelBay b).latch = (relatched s u b).latch := by
  unfold relatched
  by_cases hst : (s.bay b).state = .loading
  · rw [if_neg (not_not_intro hst)]
    have hloading := state.trans hst
    cases ho : (s.bay b).rearOpened with
    | true =>
      rw [if_pos rfl, cancelBay_of_opened hloading (opened.trans ho)]
      exact request_latch_congr (s := clearingBegun v b) (t := u) (clearingBegun_latch.trans latch) _ _ _
    | false =>
      rw [cancelBay_of_unopened hloading (opened.trans ho), sendToVacant_latch, if_neg Bool.false_ne_true]
      have hdropped := withdrawRequest_latch_congr (s := v) (t := u) latch (2 * b + 1) .unlock
      have hside : ((v.withdrawRequest (2 * b + 1) .unlock).latchPosition (2 * b + 1)).side = .unlock ↔
          s.latchPosition (2 * b + 1) = .unlocked ∨ s.latchPosition (2 * b + 1) = .unlocking := by
        rw [withdrawRequest_position, position]
        exact Completions.side_eq_unlock_iff
      have hclosed : (v.withdrawRequest (2 * b + 1) .unlock).door (2 * b + 1) = s.door (2 * b + 1) := by
        rw [withdrawRequest_eq_withLatch]
        exact door
      unfold State.returnRearLatch
      dsimp only [doorOf]
      by_cases hc : (s.latchPosition (2 * b + 1) = .unlocked ∨ s.latchPosition (2 * b + 1) = .unlocking) ∧
          (s.door (2 * b + 1)).closed = true
      · rw [if_pos hc, if_pos ⟨hside.mpr hc.1, (congrArg Door.closed hclosed).trans hc.2⟩]
        exact requestLock_latch_congr (s := v.withdrawRequest (2 * b + 1) .unlock) (t := u.withdrawRequest (2 * b + 1) .unlock) hdropped _
      · rw [if_neg hc, if_neg fun h => hc ⟨hside.mp h.1, (congrArg Door.closed hclosed).symm.trans h.2⟩]
        exact hdropped
  · rw [if_pos hst, cancelBay_latch_of_other (by rw [state]; exact hst)]
    exact latch

/-- The latches after the cancellation of the bays of a list. -/
theorem cancelBays_latch {bs : List Nat} (distinct : bs.Nodup) {u v : State} (latch : v.latch = u.latch)
    (position : ∀ d, v.latchPosition d = s.latchPosition d) (door : ∀ d, v.door d = s.door d)
    (bays : ∀ b ∈ bs, (v.bay b).state = (s.bay b).state ∧ (v.bay b).rearOpened = (s.bay b).rearOpened) :
    (v.forBays bs State.cancelBay).latch = (bs.foldl (relatched s) u).latch := by
  induction bs generalizing u v with
  | nil => exact latch
  | cons b bs ih =>
    obtain ⟨hb, hdistinct⟩ := List.nodup_cons.mp distinct
    obtain ⟨hall, hkept, -⟩ := cancelBay_onlyBays v b
    obtain ⟨hstate, hopened⟩ := bays b (List.mem_cons_self ..)
    refine ih hdistinct (cancelBay_latch latch (position _) (door _) hstate hopened) (fun d => ?_) (fun d => ?_) fun c hc => ?_
    · exact (latchPosition_of_baysOnly hall d).trans (position d)
    · rw [← door d, State.door, State.door, hall.doors]
    · rw [(hkept c (by simp only [List.mem_singleton]; exact fun h => hb (h ▸ hc))).record]
      exact bays c (List.mem_cons_of_mem _ hc)

end Latches

/-! ### The entry -/

section Entry

variable {s : State} {e : Entry}

theorem removeEntry_bay (h : ∀ b ∈ e.bays, b < 48) {b : Nat} (hb : b ∈ e.bays) : (s.removeEntry e).bay b = { s.bay b with entry := none } :=
  (renamed_bay (s := { s with directory := s.directory.remove e.code }) e.bays none b).trans (if_pos ⟨hb, h b hb⟩)

theorem removeEntry_directory : (s.removeEntry e).directory = s.directory.remove e.code :=
  renamed_directory (s := { s with directory := s.directory.remove e.code }) e.bays none

theorem removeEntry_onlyRecords : OnlyRecords { s with directory := s.directory.remove e.code } (s.removeEntry e) :=
  forBays_onlyRecords (f := fun s b => s.setBay b { s.bay b with entry := none }) (fun _ _ => rfl) e.bays
    { s with directory := s.directory.remove e.code }

theorem removeEntry_onlyBays : OnlyBays s (s.removeEntry e) e.bays := by
  have hremoved : OnlyBays s { s with directory := s.directory.remove e.code } e.bays :=
    ⟨rfl, fun _ _ => ⟨rfl, rfl, rfl, rfl, rfl, rfl⟩, fun _ => rfl⟩
  refine onlyBays_trans hremoved (Course.onlyBays (g := ⟨False, False⟩) (Course.forBays' _ fun b _ s => ?_))
  have hmove : Move ⟨False, False⟩ b s (s.setBay b { s.bay b with entry := none }) :=
    Move.write _ rfl (fun h => h.elim) fun hr => ⟨hr.streak, hr.demand, hr.unheated, hr.cold, hr.hot, hr.uncharged⟩
  exact hmove.course

theorem cancelBays_directory {bs : List Nat} (distinct : bs.Nodup) (within : ∀ b ∈ bs, b < 48) {v : State}
    (bays : ∀ b ∈ bs, (v.bay b).entry = none ∧ (v.bay b).state ≠ .releasing ∧ (v.bay b).state ≠ .collecting) :
    (v.forBays bs State.cancelBay).directory = v.directory := by
  induction bs generalizing v with
  | nil => rfl
  | cons b bs ih =>
    obtain ⟨hb, hdistinct⟩ := List.nodup_cons.mp distinct
    obtain ⟨hentry, hst⟩ := bays b (List.mem_cons_self ..)
    refine (ih hdistinct (fun c hc => within c (List.mem_cons_of_mem _ hc)) fun c hc => ?_).trans
      (cancelBay_ended (within b (List.mem_cons_self ..)) hentry hst).1
    rw [((cancelBay_onlyBays v b).2.1 c (by simp only [List.mem_singleton]; exact fun h => hb (h ▸ hc))).record]
    exact bays c (List.mem_cons_of_mem _ hc)

theorem serveCancel_none {ref : Nat} (h : 0 < ref) (hf : s.findOrder ref = none) : serveCancel s ref = refuse s .notFound := by
  unfold serveCancel
  rw [if_neg (by omega), hf]

theorem serveCancel_going {ref b : Nat} (h : 0 < ref) (hf : s.findOrder ref = some e) (ho : s.directory.Ordered) (hb : b ∈ e.bays)
    (hgoing : (s.bay b).state = .releasing ∨ (s.bay b).state = .collecting)
    (lowest : ∀ b' ∈ e.bays, b' < b → ¬ ((s.bay b').state = .releasing ∨ (s.bay b').state = .collecting)) :
    serveCancel s ref = refuse s .releaseInProgress [byteOf b, stateByte (s.bay b).state] := by
  obtain ⟨-, -, hasc, -⟩ := ho.bays e (findOrder_some hf).1
  have hfind : (e.bays.find? fun b => (s.bay b).state = .releasing || (s.bay b).state = .collecting) = some b := by
    obtain ⟨before, after, hsplit⟩ := List.append_of_mem hb
    refine List.find?_eq_some_iff_append.mpr ⟨by simpa using hgoing, before, after, hsplit, fun a ha => ?_⟩
    rw [hsplit, List.pairwise_append] at hasc
    have := lowest a (by rw [hsplit]; exact List.mem_append_left _ ha) (hasc.2.2 a ha b (List.mem_cons_self ..))
    simpa using this
  unfold serveCancel
  rw [if_neg (by omega), hf]
  dsimp only
  rw [hfind]

theorem serveCancel_accepted {ref : Nat} (h : 0 < ref) (hf : s.findOrder ref = some e)
    (hgoing : ∀ b ∈ e.bays, ¬ ((s.bay b).state = .releasing ∨ (s.bay b).state = .collecting)) : serveCancel s ref =
    ⟨(s.removeEntry e).forBays e.bays State.cancelBay, .done, byteOf e.bays.length ::
      (e.bays.map fun b => [byteOf b, stateByte (((s.removeEntry e).forBays e.bays State.cancelBay).bay b).state]).flatten⟩ := by
  have hfind : (e.bays.find? fun b => (s.bay b).state = .releasing || (s.bay b).state = .collecting) = none := by
    simpa using hgoing
  unfold serveCancel
  rw [if_neg (by omega), hf]
  dsimp only
  rw [hfind, List.flatMap_def]

end Entry

/-! ### What a cancelled order leaves of one of its bays -/

section Left

variable {s t : State} {b : Nat}

/-- The bay as CANCEL finds it, its entry gone, and as CANCEL leaves it. -/
structure Passed (s t v : State) (b : Nat) : Prop where
  record : v.bay b = { s.bay b with entry := none }
  notices : v.notices b = s.notices b
  queue : (v.latch.queue.filter fun r => bayOfDoor r.door = b) = s.latch.queue.filter fun r => bayOfDoor r.door = b
  position : v.latchPosition (2 * b + 1) = s.latchPosition (2 * b + 1)
  pulse : v.pulseRuns (2 * b + 1) = s.pulseRuns (2 * b + 1)
  window : v.after v.config.clearingWindow = s.after s.config.clearingWindow
  left : BayKept (v.cancelBay b) t b

theorem cancelled_passed {e : Entry} (distinct : e.bays.Nodup) (within : ∀ b ∈ e.bays, b < 48) (hb : b ∈ e.bays) :
    ∃ v, Passed s ((s.removeEntry e).forBays e.bays State.cancelBay) v b := by
  obtain ⟨v, hall, hkept, hleft⟩ := forBays_at cancelBay_onlyBays distinct hb (s.removeEntry e)
  have hremoved := (removeEntry_onlyRecords (s := s) (e := e))
  have hrecord := removeEntry_bay (s := s) within hb
  generalize s.removeEntry e = u at *
  unfold OnlyRecords at hremoved
  refine ⟨v, hkept.record.trans hrecord, hkept.notices.trans ?_, hkept.requests.trans ?_, ?_, ?_, ?_, hleft⟩
  · rw [hremoved]
    rfl
  · rw [hremoved]
  · refine (latchPosition_of_baysOnly hall _).trans ?_
    rw [hremoved]
    rfl
  · refine (pulseRuns_of_baysOnly hall _).trans ?_
    rw [hremoved]
    rfl
  · rw [State.after, hall.bankTime, hall.config, hremoved]
    rfl

variable {v : State}

theorem Passed.requests (h : Passed s t v b) (hst : (s.bay b).state ≠ .loading) :
    (t.latch.queue.filter fun r => bayOfDoor r.door = b) = s.latch.queue.filter fun r => bayOfDoor r.door = b := by
  rw [h.left.requests, cancelBay_latch_of_other (by rw [h.record]; exact hst)]
  exact h.queue

theorem Passed.withdrawn (h : Passed s t v b) (hst : (s.bay b).state = .withdrawn) :
    t.bay b = { s.bay b with entry := none } ∧ t.notices b = s.notices b := by
  have hleft := h.left
  rw [cancelBay_of_withdrawn (by rw [h.record]; exact hst)] at hleft
  exact ⟨hleft.record.trans h.record, hleft.notices.trans h.notices⟩

theorem Passed.holding (h : Passed s t v b) (hst : (s.bay b).state = .holding) :
    t.bay b = { s.bay b with
      state := .withdrawn, withdrawReason := some .cancelled, entry := none, expectedLoad := none, lapseAt := none
      restartPenaltyPending := 0, demand := 0, timer := none, rearOpened := false } ∧
    t.notices b = { s.notices b with withdrawn := some .cancelled } ∧ t.gate b = false := by
  have hheld : (v.bay b).state = .holding := by rw [h.record]; exact hst
  have hleft := h.left
  rw [cancelBay_of_holding hheld] at hleft
  have hw := enterWithdrawn_withdrawn (s := v) (b := b) .cancelled (.inl hheld)
  refine ⟨hleft.record.trans (hw.record.trans ?_), hleft.notices.trans (hw.notice.trans ?_), ?_⟩
  · rw [h.record]
  · rw [h.notices]
  · exact Bool.and_eq_false_iff.mpr (.inr (hleft.gate.trans hw.gate))

theorem Passed.opened (h : Passed s t v b) (hb : b < 48) (hst : (s.bay b).state = .loading) (ho : (s.bay b).rearOpened = true) :
    t.bay b = { s.bay b with
      state := .withdrawn, withdrawReason := some .cancelled, entry := none, expectedLoad := none, lapseAt := none
      restartPenaltyPending := 0, demand := 0, rearOpened := false, clearing := true
      timer := if (s.latchPosition (2 * b + 1) = .unlocked ∨ s.latchPosition (2 * b + 1) = .unlocking) ∧
          s.pulseRuns (2 * b + 1) = false then
        some (min (s.bankTime + 10 * s.config.clearingWindow) 4294967295) else none } ∧
    t.notices b = { s.notices b with withdrawn := some .cancelled } := by
  have hleft := h.left
  rw [cancelBay_of_opened (by rw [h.record]; exact hst) (by rw [h.record]; exact ho)] at hleft
  refine ⟨hleft.record.trans ((openedCancelled_bay hb).trans ?_), hleft.notices.trans ?_⟩
  · rw [h.record, h.position, h.pulse, h.window]
    rfl
  · rw [← h.notices, State.request_frame]
    exact enterWithdrawn_notices hb .cancelled

theorem returnRearLatch_notices (s : State) (b c : Nat) : (s.returnRearLatch b).notices c = s.notices c := by
  unfold State.returnRearLatch
  dsimp only
  split
  · rw [requestLock_eq_withLatch, withdrawRequest_eq_withLatch]
    rfl
  · rw [withdrawRequest_eq_withLatch]
    rfl

/-- R7, R175, R176: a waiting bay, or a LOADING one whose rear was not opened, ends its course. -/
theorem Passed.sent (h : Passed s t v b)
    (hst : (s.bay b).state = .loading ∧ (s.bay b).rearOpened = false ∨ (s.bay b).state = .booked ∨ (s.bay b).state = .preheating ∨
      (s.bay b).state = .ready) : ∃ w : State, w.bay b = v.bay b ∧ w.notices b = v.notices b ∧ v.cancelBay b = w.sendToVacant b := by
  obtain ⟨hl, ho⟩ | hw := hst
  · exact ⟨v.returnRearLatch b, returnRearLatch_bay b, returnRearLatch_notices v b b,
      cancelBay_of_unopened (by rw [h.record]; exact hl) (by rw [h.record]; exact ho)⟩
  · exact ⟨v, rfl, rfl, cancelBay_of_waiting (by rw [h.record]; exact hw)⟩

theorem Passed.ended (h : Passed s t v b) (hb : b < 48)
    (hst : (s.bay b).state = .loading ∧ (s.bay b).rearOpened = false ∨ (s.bay b).state = .booked ∨ (s.bay b).state = .preheating ∨
      (s.bay b).state = .ready) :
    (t.bay b).state = (if (s.bay b).draining = true ∨ (s.bay b).sensorFault = true then .outOfService else .vacant) ∧
    (t.bay b).oosReason = (if (s.bay b).draining then some .lockout else if (s.bay b).sensorFault then some .sensor else none) ∧
    (t.bay b).entry = none ∧ (t.bay b).profile = none ∧ (t.bay b).qCold = 0 ∧ (t.bay b).qHot = 0 ∧ (t.bay b).demand = 0 ∧
    (t.bay b).lapseAt = none ∧ (t.bay b).faultStreak = (s.bay b).faultStreak ∧ t.notices b = s.notices b ∧
    ((s.bay b).clearing = false → (t.bay b).timer = none) := by
  obtain ⟨w, hwb, hwn, hsent⟩ := h.sent hst
  have hleft := h.left
  rw [hsent] at hleft
  have hretired := (sendToVacant_retired (s := w) hb).record
  rw [hwb, h.record] at hretired
  have hbay := hleft.record.trans hretired
  have hnotices : t.notices b = s.notices b := hleft.notices.trans ((sendToVacant_notices b).trans (hwn.trans h.notices))
  rw [hbay]
  refine ⟨?_, rfl, rfl, rfl, rfl, rfl, rfl, rfl, rfl, hnotices, fun hc => if_neg ?_⟩
  · simp only [Bool.or_eq_true]
  · dsimp only
    rw [hc]
    exact Bool.false_ne_true

end Left

/-- Settles O52: the refusals, and an accepted CANCEL by the state of each bay of the order. -/
theorem cancelEndsTheOrder : Obligations.CancelEndsTheOrder := by
  unfold Obligations.CancelEndsTheOrder
  intro s ref hs hagrees href c going released latched
  have hw : (Instr.cancel ref).wellFormed = true := by simpa [Instr.wellFormed] using href
  refine ⟨fun h => ?_, fun h hf => ?_, fun e b h hf hb hg hlow => ?_, fun e h hf hg => ?_⟩
  · exact exec_refused (c := c) rfl hs hw (if_pos h)
  · exact exec_refused (c := c) rfl hs hw (serveCancel_none (s := s.joined c) h hf)
  · exact exec_refused (c := c) rfl hs hw (serveCancel_going (s := s.joined c) h hf hagrees.ordered hb hg hlow)
  · have hmem := (findOrder_some hf).1
    obtain ⟨hdistinct, hwithin⟩ := entry_bays hagrees.ordered hmem
    have hserve := serveCancel_accepted (s := s.joined c) h hf hg
    have honly : OnlyBays (s.joined c) (((s.joined c).removeEntry e).forBays e.bays State.cancelBay) e.bays :=
      onlyBays_trans removeEntry_onlyBays (Course.onlyBays (g := ⟨False, False⟩) (Course.forBays' _ fun _ _ _ => cancelBay_course))
    have hfound : ∀ b ∈ e.bays, ((s.joined c).removeEntry e).bay b = { s.bay b with entry := none } := fun b hb =>
      removeEntry_bay (s := s.joined c) hwithin hb
    have hdirectory : (((s.joined c).removeEntry e).forBays e.bays State.cancelBay).directory = s.directory.remove e.code :=
      (cancelBays_directory hdistinct hwithin fun b hb => by
        rw [hfound b hb]
        exact ⟨rfl, fun h => hg b hb (.inl h), fun h => hg b hb (.inr h)⟩).trans removeEntry_directory
    have hlatch : (((s.joined c).removeEntry e).forBays e.bays State.cancelBay).latch = (e.bays.foldl latched s).latch := by
      have hrecords : OnlyRecords { s.joined c with directory := s.directory.remove e.code } ((s.joined c).removeEntry e) :=
        removeEntry_onlyRecords
      refine cancelBays_latch (s := s) (u := s) hdistinct ?_ (fun d => ?_) (fun d => ?_) fun b hb => ?_
      · exact (congrArg State.latch hrecords).trans rfl
      · exact (congrArg (fun u : State => u.latchPosition d) hrecords).trans rfl
      · exact (congrArg (fun u : State => u.door d) hrecords).trans rfl
      · rw [hfound b hb]
        exact ⟨rfl, rfl⟩
    have hpassed : ∀ b ∈ e.bays, ∃ v, Passed (s.joined c) (((s.joined c).removeEntry e).forBays e.bays State.cancelBay) v b :=
      fun b hb => cancelled_passed hdistinct hwithin hb
    generalize ((s.joined c).removeEntry e).forBays e.bays State.cancelBay = u at *
    refine ⟨_, _, exec_served (c := c) (u := u) rfl hs hw hserve honly.1.link, onlyBays_served honly, ?_, fun f => ?_, rfl, hlatch,
      fun b hb => ?_⟩
    · exact congrArg Directory.generation hdirectory
    · change f ∈ u.directory.entries ↔ _
      rw [hdirectory, Directory.remove, List.mem_filter, decide_eq_true_eq]
      exact and_congr_right fun hin => ⟨fun h heq => h (heq ▸ rfl), fun h heq => h (eq_of_code_eq hagrees.ordered hin hmem heq)⟩
    · obtain ⟨v, hp⟩ := hpassed b hb
      have hlt := hwithin b hb
      exact ⟨hp.requests, hp.withdrawn, hp.holding, hp.opened hlt, hp.ended hlt⟩

end Sys2Proof.Cancelling
end

section

-- One proof at a time: the proofs here together ask for more threads than the memory limit leaves room for.
set_option Elab.async false

/-! Door-opened events (R64, R136, R147, R162, R163). -/

namespace Sys2Proof.Openings

open Sys2Proof Sys2Proof.Machine Sys2Proof.Courses Sys2Proof.Acts Sys2Proof.Closings Sys2Proof.Pulses

/-! ### The step of an opening (R136) -/

section Opening

variable {s : State} {d : Nat}

/-- The doors once an opening's step is over. -/
def openedDoors (s : State) (d : Nat) : Vector Door 96 :=
  s.doors.setIfInBounds d { closed := false, candidate := none, alarm := some (s.after (s.alarmSeconds (sideOfDoor d))) }

/-- R136, R147: the Hold Table's part of an opening. -/
def taken (s : State) (d : Nat) : State :=
  if s.latchPosition d = .locked then (openedDoor s d).forcedDoor (bayOfDoor d) (sideOfDoor d)
  else (openedDoor s d).openedUnforced (bayOfDoor d) (sideOfDoor d)

theorem taken_course (s : State) (d : Nat) : Course ⟨True, False⟩ [bayOfDoor d] (openedDoor s d) (taken s d) := by
  unfold taken
  split
  · exact forcedDoor_course _ False.elim
  · exact openedUnforced_course _

theorem doorOpenedStep_eq (hd : d < 96) : s.doorOpenedStep d = withDoors ((taken s d).cutRun (bayOfDoor d)) (openedDoors s d) := by
  have hcourse : BaysOnly (openedDoor s d) ((taken s d).cutRun (bayOfDoor d)) :=
    ((taken_course s d).trans (Move.cut (g := ⟨True, False⟩) (s := taken s d)).course).baysOnly
  have hstep : s.doorOpenedStep d = ((taken s d).cutRun (bayOfDoor d)).setDoor d { ((taken s d).cutRun (bayOfDoor d)).door d with
      alarm := some (((taken s d).cutRun (bayOfDoor d)).after (((taken s d).cutRun (bayOfDoor d)).alarmSeconds (sideOfDoor d))) } := rfl
  rw [hstep]
  generalize (taken s d).cutRun (bayOfDoor d) = w at hcourse ⊢
  have hdoor : w.door d = { s.door d with closed := false, candidate := none } := by
    rw [hcourse.door]
    exact State.setDoor_door_self _ d _ hd
  have hafter : w.after (w.alarmSeconds (sideOfDoor d)) = s.after (s.alarmSeconds (sideOfDoor d)) :=
    (congrArg (fun u : State => u.after (u.alarmSeconds (sideOfDoor d))) (show w = _ from hcourse)).trans rfl
  rw [hdoor, hafter, State.setDoor, hcourse.doors]
  simp only [openedDoor, State.setDoor, setIfInBounds_twice]
  rfl

/-- An opening that has stood its 40 ms. -/
theorem exec_doorOpened {x : Nat} (t : Nat) (hr : s.running = true) (hd : d < 96)
    (hc : (s.door d).candidate = some { closed := false, since := x }) (hx : x + 40000 ≤ max s.clock t) :
    exec (.doorOpened d t) s = .next (withDoors ((taken (s.advance t) d).cutRun (bayOfDoor d)) (openedDoors s d)) := by
  have hsettled : (s.advance t).settled d false = true := by
    rw [State.settled, State.advance_door, hc, Option.any_some,
      (Rows.elapsed_iff (s := s.advance t) (n := debounceTime)).mpr hx]
    rfl
  refine (Rows.exec_doorAt t hr hd fun s => if s.settled d false then s.doorOpenedStep d else s).trans (congrArg _ ?_)
  rw [if_pos hsettled, doorOpenedStep_eq hd]
  rfl

theorem openedDoors_eq (s : State) (d : Nat) : openedDoors s d = s.doors.setIfInBounds d
    { closed := false, candidate := none
      alarm := some (min (s.bankTime + 10 * (if d % 2 = 0 then s.config.alarmFront else s.config.alarmRear)) 4294967295) } := by
  unfold openedDoors sideOfDoor
  split <;> rfl

/-- What an opening touches. -/
theorem opened_onlyBays (t : Nat) (hd : d < 96) : OnlyBays { s with clock := max s.clock t, doors := openedDoors s d }
    (withDoors ((taken (s.advance t) d).cutRun (bayOfDoor d)) (openedDoors s d)) [bayOfDoor d] := by
  have hbase : withDoors (openedDoor (s.advance t) d) (openedDoors s d) = { s with clock := max s.clock t, doors := openedDoors s d } := by
    simp only [openedDoor, State.setDoor, withDoors]
    rfl
  rw [← hbase]
  exact onlyBays_withDoors _ ((taken_course (s.advance t) d).trans
    (Move.cut (g := ⟨True, False⟩) (s := taken (s.advance t) d)).course).onlyBays

end Opening

/-! ### The rear latch of a bay withdrawn from LOADING (R176) -/

section Rear

variable {u v : State} {b : Nat}

theorem returnRearLatch_of_locked (h : v.latch = u.latch) (hp : (u.latchPosition (2 * b + 1)).side = .lock) :
    (v.returnRearLatch b).latch = (u.withdrawRequest (2 * b + 1) .unlock).latch := by
  unfold State.returnRearLatch
  dsimp only [doorOf]
  rw [if_neg]
  · exact withdrawRequest_latch_congr (s := v) (t := u) h _ _
  · rw [withdrawRequest_position, latchPosition_congr (s := v) (t := u) h, hp]
    exact fun hn => absurd hn.1 (by decide)

theorem returnRearLatch_of_unlocked (h : v.latch = u.latch) (hp : (u.latchPosition (2 * b + 1)).side = .unlock)
    (hc : (v.door (2 * b + 1)).closed = true) :
    (v.returnRearLatch b).latch = ((u.withdrawRequest (2 * b + 1) .unlock).requestLock (2 * b + 1)).latch := by
  unfold State.returnRearLatch
  dsimp only [doorOf]
  rw [if_pos]
  · exact requestLock_latch_congr (s := v.withdrawRequest (2 * b + 1) .unlock) (t := u.withdrawRequest (2 * b + 1) .unlock)
      (withdrawRequest_latch_congr (s := v) (t := u) h _ _) _
  · rw [withdrawRequest_position, latchPosition_congr (s := v) (t := u) h, hp, withdrawRequest_eq_withLatch]
    exact ⟨rfl, hc⟩

theorem returnRearLatch_eq_withLatch (v : State) (b : Nat) : v.returnRearLatch b = withLatch v (v.returnRearLatch b).latch := by
  unfold State.returnRearLatch
  dsimp only
  split
  · rw [requestLock_eq_withLatch, withdrawRequest_eq_withLatch]
    rfl
  · exact withdrawRequest_eq_withLatch _ _ _

end Rear

/-! ### A forced door (R147) -/

section Forced

variable {v : State} {b : Nat} {side : Side}

/-- R147: with the notice of the forced door. -/
def noted (v : State) (b : Nat) (side : Side) : State := v.raiseBay b (.doorForced side)

theorem forcedDoor_of_held (h : (v.bay b).state = .holding ∨ (v.bay b).state = .releasing) :
    v.forcedDoor b side = (noted v b side).withdrawHeld b .forced := by
  unfold State.forcedDoor
  dsimp only
  obtain h | h := h <;> rw [show ((v.raiseBay b (.doorForced side)).bay b).state = _ from h] <;> rfl

theorem forcedDoor_of_loading (h : (v.bay b).state = .loading) :
    v.forcedDoor b side = ((noted v b side).enterWithdrawn b .forced).returnRearLatch b := by
  unfold State.forcedDoor
  dsimp only
  rw [show ((v.raiseBay b (.doorForced side)).bay b).state = _ from h]
  rfl

theorem forcedDoor_of_other (hh : (v.bay b).state ≠ .holding) (hr : (v.bay b).state ≠ .releasing) (hl : (v.bay b).state ≠ .loading) :
    v.forcedDoor b side = noted v b side := by
  unfold State.forcedDoor
  have hsame : ((v.raiseBay b (.doorForced side)).bay b).state = (v.bay b).state := rfl
  cases hst : (v.bay b).state with
  | holding => exact absurd hst hh
  | releasing => exact absurd hst hr
  | loading => exact absurd hst hl
  | vacant | booked | preheating | ready | collecting | withdrawn | outOfService =>
    rw [hst] at hsame
    dsimp only
    rw [hsame]
    rfl

theorem noted_notices (hb : b < 48) : (noted v b side).notices b = (v.notices b).raise (.doorForced side) :=
  State.setNotices_notices_self _ _ _ hb

/-- R171: what a forced door leaves of a bay with a meal. -/
structure Forced (v t : State) (b : Nat) (side : Side) : Prop where
  record : t.bay b = { v.bay b with
    state := .withdrawn, withdrawReason := some .forced, expectedLoad := none, lapseAt := none, restartPenaltyPending := 0
    demand := 0, timer := none, rearOpened := false }
  notices : t.notices b = { (v.notices b).raise (.doorForced side) with withdrawn := some .forced }
  round : t.scanner.rounds.getD b none = none
  directory : t.directory = v.directory

theorem forcedDoor_forced (hb : b < 48)
    (h : (v.bay b).state = .holding ∨ (v.bay b).state = .releasing ∨ (v.bay b).state = .loading) :
    Forced v (v.forcedDoor b side) b side := by
  have held : (v.bay b).state = .holding ∨ (v.bay b).state = .releasing → Forced v (v.forcedDoor b side) b side := fun h => by
    have hw := Completions.withdrawHeld_withdrawn (s := noted v b side) (b := b) .forced h
    rw [forcedDoor_of_held h]
    refine ⟨hw.record, hw.notice.trans ?_, hw.round, hw.directory⟩
    rw [noted_notices hb]
  obtain h | h | h := h
  · exact held (.inl h)
  · exact held (.inr h)
  · rw [forcedDoor_of_loading h, returnRearLatch_eq_withLatch]
    refine ⟨State.enterWithdrawn_bay_self _ _ _ hb, ?_, ?_, changeBay_directory _⟩
    · refine (Cancelling.enterWithdrawn_notices hb .forced).trans ?_
      rw [noted_notices hb]
    · refine (changeBay_round (s := noted v b side) _ hb).trans (if_neg ?_)
      rw [show ((noted v b side).bay b).state = _ from h]
      simp [Bay.withdrawnFor, BayState.group]

theorem forcedDoor_latch_of_other (hr : (v.bay b).state ≠ .releasing) (hl : (v.bay b).state ≠ .loading) :
    (v.forcedDoor b side).latch = v.latch := by
  by_cases hh : (v.bay b).state = .holding
  · rw [forcedDoor_of_held (.inl hh)]
    exact Completions.withdrawHeld_latch_of_holding (s := noted v b side) .forced hh
  · rw [forcedDoor_of_other hh hr hl]
    rfl

theorem raise_doorForced (n : BayNotices) (d : Nat) : n.raise (.doorForced (sideOfDoor d)) =
    if d % 2 = 0 then { n with doorForcedFront := true } else { n with doorForcedRear := true } := by
  unfold sideOfDoor
  split <;> rfl

end Forced

section ForcedRow

variable {s : State} {b d : Nat}

/-- The latches after a forced door, by the bay's state, of a state with the latches of `s`. -/
theorem forcedDoor_latches {v : State} {side : Side} (latch : v.latch = s.latch) (bay : v.bay b = s.bay b)
    (door : (s.latchPosition (2 * b + 1)).side = .unlock → v.door (2 * b + 1) = s.door (2 * b + 1)) :
    ((s.bay b).state ≠ .releasing → (s.bay b).state ≠ .loading → (v.forcedDoor b side).latch = s.latch) ∧
    ((s.bay b).state = .releasing → FrontReturned s (v.forcedDoor b side) b) ∧
    ((s.bay b).state = .loading → (s.latchPosition (2 * b + 1)).side = .lock →
      (v.forcedDoor b side).latch = (s.withdrawRequest (2 * b + 1) .unlock).latch) ∧
    ((s.bay b).state = .loading → (s.latchPosition (2 * b + 1)).side = .unlock → (s.door (2 * b + 1)).closed = true →
      (v.forcedDoor b side).latch = ((s.withdrawRequest (2 * b + 1) .unlock).requestLock (2 * b + 1)).latch) := by
  have hwithdrawn : ((noted v b side).enterWithdrawn b .forced).latch = s.latch := (enterWithdrawn_latch _ b _).trans latch
  refine ⟨fun hr hl => ?_, fun hr => ?_, fun hl hp => ?_, fun hl hp hc => ?_⟩
  · exact (forcedDoor_latch_of_other (by rw [bay]; exact hr) (by rw [bay]; exact hl)).trans latch
  · have hrel : (v.bay b).state = .releasing := by rw [bay]; exact hr
    rw [forcedDoor_of_held (.inr hrel)]
    exact Completions.frontReturned_congr (s' := noted v b side) latch (Completions.withdrawHeld_frontReturned .forced hrel)
  · rw [forcedDoor_of_loading (by rw [bay]; exact hl)]
    exact returnRearLatch_of_locked hwithdrawn hp
  · rw [forcedDoor_of_loading (by rw [bay]; exact hl)]
    refine returnRearLatch_of_unlocked hwithdrawn hp ?_
    have hdoor : ((noted v b side).enterWithdrawn b .forced).door (2 * b + 1) = v.door (2 * b + 1) := by
      rw [State.enterWithdrawn, State.changeBay_frame]
      rfl
    rw [hdoor, door hp]
    exact hc

end ForcedRow

/-- Settles O42: the forced bay by its state, the latches by their side. -/
theorem forcedDoor : Obligations.ForcedDoor := by
  unfold Obligations.ForcedDoor
  intro s d x t hr hd hc hx hlocked b st forced alarm withdrawn
  have hb : b < 48 := by omega
  have hexec := exec_doorOpened t hr hd hc hx
  have honly := opened_onlyBays (s := s) t hd
  have htaken : taken (s.advance t) d = (openedDoor (s.advance t) d).forcedDoor b (sideOfDoor d) := if_pos hlocked
  have hbay : (openedDoor (s.advance t) d).bay b = s.bay b := rfl
  have hlatch : (openedDoor (s.advance t) d).latch = s.latch := rfl
  have hdirectory : (openedDoor (s.advance t) d).directory = s.directory := rfl
  have hforced : ((openedDoor (s.advance t) d).notices b).raise (.doorForced (sideOfDoor d)) = forced := raise_doorForced _ d
  have hdoor : (s.latchPosition (2 * b + 1)).side = .unlock →
      (openedDoor (s.advance t) d).door (2 * b + 1) = s.door (2 * b + 1) := fun hu => by
    have hne : d ≠ 2 * b + 1 := fun h => by
      rw [← h, hlocked] at hu
      cases hu
    exact State.setDoor_door_ne _ _ _ _ hne
  obtain ⟨hother, hreleasing, hlocked', hunlocked⟩ :=
    forcedDoor_latches (s := s) (b := b) (side := sideOfDoor d) hlatch hbay hdoor
  rw [htaken] at hexec honly
  have hdoors := openedDoors_eq s d
  rw [hdoors] at honly
  generalize openedDoor (s.advance t) d = v at *
  refine ⟨_, hexec, by rw [hdoors]; exact honly, ?_, ?_, ?_, fun h => ?_, fun hh hrel hl => ?_, hother,
    fun h hp => (hreleasing h).locked (.inl hp), fun h hp => (hreleasing h).unlocked hp,
    fun h hp => hlocked' h (side_lock hp), fun h hp => hunlocked h (side_unlock hp)⟩
  · by_cases h : st = .holding ∨ st = .releasing ∨ st = .loading
    · exact (forcedDoor_forced (side := sideOfDoor d) hb (by rw [hbay]; exact h)).directory.trans hdirectory
    · simp only [not_or] at h
      rw [forcedDoor_of_other (by rw [hbay]; exact h.1) (by rw [hbay]; exact h.2.1) (by rw [hbay]; exact h.2.2)]
      exact hdirectory
  · exact Bool.and_eq_false_iff.mpr (.inr (State.cutRun_off _ b).1)
  · exact (State.cutRun_off _ b).2
  · have hf := forcedDoor_forced (side := sideOfDoor d) hb (v := v) (by rw [hbay]; exact h)
    refine ⟨hf.record.trans (by rw [hbay]), hf.notices.trans (by rw [hforced]), hf.round⟩
  · rw [forcedDoor_of_other (by rw [hbay]; exact hh) (by rw [hbay]; exact hrel) (by rw [hbay]; exact hl)]
    exact ⟨hbay, (noted_notices hb).trans hforced⟩

/-! ### Openings that are not forced (R64, R162, R163) -/

section Unforced

variable {v : State} {b : Nat}

/-- R162: the record of a bay whose collection begins. -/
def collectingAs (v : State) (b : Nat) : State :=
  (v.setBay b { v.bay b with state := .collecting, timer := none, restartPenaltyPending := 0, demand := 0 }).cutRun b

theorem beginCollection_of_held (h : (v.bay b).state = .holding ∨ (v.bay b).state = .releasing) :
    v.beginCollection b = collectingAs v b := by
  rw [State.beginCollection, State.changeBay_frame]
  obtain h | h := h <;> rw [h] <;> rfl

theorem openedUnforced_releasing (h : (v.bay b).state = .releasing) : v.openedUnforced b .front = collectingAs v b := by
  rw [← beginCollection_of_held (.inr h)]
  unfold State.openedUnforced
  rw [h]

theorem openedUnforced_holding (h : (v.bay b).state = .holding)
    (hp : v.latchPosition (2 * b) = .unlocked ∨ v.latchPosition (2 * b) = .locking) :
    v.openedUnforced b .front = (collectingAs v b).withdrawRequest (2 * b) .lock := by
  rw [← beginCollection_of_held (.inl h)]
  unfold State.openedUnforced
  rw [h]
  exact if_pos hp

theorem openedUnforced_held (h : (v.bay b).state = .holding)
    (hp : ¬ (v.latchPosition (2 * b) = .unlocked ∨ v.latchPosition (2 * b) = .locking)) : v.openedUnforced b .front = v := by
  unfold State.openedUnforced
  rw [h]
  exact if_neg hp

theorem openedUnforced_loading (h : (v.bay b).state = .loading) :
    v.openedUnforced b .rear = v.setBay b { v.bay b with rearOpened := true } := by
  unfold State.openedUnforced
  rw [h]

theorem openedUnforced_front_other (hr : (v.bay b).state ≠ .releasing) (hh : (v.bay b).state ≠ .holding) :
    v.openedUnforced b .front = v := by
  unfold State.openedUnforced
  cases hst : (v.bay b).state with
  | releasing => exact absurd hst hr
  | holding => exact absurd hst hh
  | _ => rfl

theorem openedUnforced_rear_other (h : (v.bay b).state ≠ .loading) : v.openedUnforced b .rear = v := by
  unfold State.openedUnforced
  cases hst : (v.bay b).state with
  | loading => exact absurd hst h
  | _ => rfl

/-- What an opening that is not forced leaves alone. -/
theorem openedUnforced_frame (v : State) (b : Nat) (side : Side) : v.openedUnforced b side = { v with
    bays := (v.openedUnforced b side).bays, heater := (v.openedUnforced b side).heater, latch := (v.openedUnforced b side).latch } := by
  cases side with
  | front =>
    by_cases hr : (v.bay b).state = .releasing
    · rw [openedUnforced_releasing hr]
      rfl
    · by_cases hh : (v.bay b).state = .holding
      · by_cases hp : v.latchPosition (2 * b) = .unlocked ∨ v.latchPosition (2 * b) = .locking
        · rw [openedUnforced_holding hh hp, withdrawRequest_eq_withLatch]
          rfl
        · rw [openedUnforced_held hh hp]
      · rw [openedUnforced_front_other hr hh]
  | rear =>
    by_cases hl : (v.bay b).state = .loading
    · rw [openedUnforced_loading hl]
      rfl
    · rw [openedUnforced_rear_other hl]

end Unforced

/-- Settles O43: each opening by its side and the bay's state. -/
theorem unforcedOpenings : Obligations.UnforcedOpenings := by
  unfold Obligations.UnforcedOpenings
  intro s d x t hr hd hc hx hlocked b st alarm collecting
  have hb : b < 48 := by omega
  have hexec := exec_doorOpened t hr hd hc hx
  have honly := opened_onlyBays (s := s) t hd
  have htaken : taken (s.advance t) d = (openedDoor (s.advance t) d).openedUnforced b (sideOfDoor d) := if_neg hlocked
  have hbay : (openedDoor (s.advance t) d).bay b = s.bay b := rfl
  have hlatch : (openedDoor (s.advance t) d).latch = s.latch := rfl
  have hother : (openedDoor (s.advance t) d).directory = s.directory ∧ (openedDoor (s.advance t) d).bayNotices = s.bayNotices ∧
      (openedDoor (s.advance t) d).scanner = s.scanner := ⟨rfl, rfl, rfl⟩
  rw [htaken] at hexec honly
  have hdoors := openedDoors_eq s d
  rw [hdoors] at honly
  generalize openedDoor (s.advance t) d = v at *
  have hposition : ∀ e, v.latchPosition e = s.latchPosition e := latchPosition_congr (s := v) (t := s) hlatch
  have hframe := openedUnforced_frame v b (sideOfDoor d)
  have hcollected : ∀ l, (withLatch (collectingAs v b) l).bay b = collecting := fun l =>
    (State.setBay_bay_self v b _ hb).trans (by rw [hbay])
  have hfront : d % 2 = 0 → sideOfDoor d = .front ∧ d = 2 * b := fun h => ⟨if_pos h, by omega⟩
  have hrear : d % 2 = 1 → sideOfDoor d = .rear := fun h => if_neg (by omega)
  refine ⟨_, hexec, by rw [hdoors]; exact honly, ?_, ?_, ?_, ?_, ?_, fun h hst => ?_, fun h hst hp => ?_, fun h hst => ?_,
    fun h h1 h2 => ?_, fun h h1 => ?_⟩
  · exact ((congrArg State.directory hframe).trans rfl).trans hother.1
  · exact ((congrArg State.bayNotices hframe).trans rfl).trans hother.2.1
  · exact ((congrArg State.scanner hframe).trans rfl).trans hother.2.2
  · exact Bool.and_eq_false_iff.mpr (.inr (State.cutRun_off _ b).1)
  · exact (State.cutRun_off _ b).2
  · rw [(hfront h).1, openedUnforced_releasing (by rw [hbay]; exact hst)]
    exact ⟨hcollected v.latch, hlatch⟩
  · obtain ⟨hside, hdoor⟩ := hfront h
    rw [hside, openedUnforced_holding (by rw [hbay]; exact hst) (by rw [hposition, ← hdoor]; exact hp), withdrawRequest_eq_withLatch,
      withdrawRequest_latch_congr (s := collectingAs v b) (t := s) hlatch, ← hdoor]
    exact ⟨hcollected (s.withdrawRequest d .lock).latch, rfl⟩
  · rw [hrear h, openedUnforced_loading (by rw [hbay]; exact hst)]
    exact ⟨(State.setBay_bay_self v b _ hb).trans (by rw [hbay]), hlatch⟩
  · rw [(hfront h).1, openedUnforced_front_other (by rw [hbay]; exact h1) (by rw [hbay]; exact h2)]
    exact ⟨hbay, hlatch⟩
  · rw [hrear h, openedUnforced_rear_other (by rw [hbay]; exact h1)]
    exact ⟨hbay, hlatch⟩

end Sys2Proof.Openings
end

section

-- One proof at a time: the proofs here together ask for more threads than the memory limit leaves room for.
set_option Elab.async false

/-! The start of a pass (R74 to R77, R81) and the conversion pair (R79, R150). -/

namespace Sys2Proof.Scanning

open Sys2Proof Sys2Proof.Machine Sys2Proof.Courses Sys2Proof.Pulses

/-! ### The start of a pass -/

section Start

variable {s : State}

/-- R74: the bays due at a pass start. -/
def dueBays (s : State) : List Nat := allBays.filter s.isDue

theorem mem_dueBays {b : Nat} : b ∈ dueBays s ↔ b < 48 ∧ (s.bay b).state ≠ .outOfService ∧ s.scanner.skip.getD b 0 = 0 := by
  simp [dueBays, allBays, State.isDue]

theorem dueBays_ascending : (dueBays s).Pairwise (· < ·) := List.pairwise_lt_range.filter _

/-- The state as a pass starts, before its first pair. -/
def passStarted (s : State) : State := { s with scanner := { s.scanner with
  skip := Vector.ofFn fun b : Fin 48 => s.skipAfter b, pass := some { due := dueBays s, remaining := dueBays s } } }

theorem startPass_none (h : dueBays s = []) : s.startPass = (passStarted s).endPass := if_pos h

theorem startPass_some (h : dueBays s ≠ []) : s.startPass = (passStarted s).nextPair.noteStarved := if_neg h

theorem passStarted_skip {b : Nat} (hb : b < 48) : (passStarted s).scanner.skip.getD b 0 = s.skipAfter b := by
  simp [passStarted, Vector.getD, hb]

theorem group_of_idle {st : BayState} (h : st = .vacant ∨ st = .booked ∨ st = .withdrawn) : st.group = some .idle := by
  obtain h | h | h := h <;> rw [h] <;> rfl

theorem group_of_profile {st : BayState} (hout : st ≠ .outOfService) (h : ¬ (st = .vacant ∨ st = .booked ∨ st = .withdrawn)) :
    st.group = some .profile := by
  simp only [not_or] at h
  obtain ⟨hv, hb, hw⟩ := h
  cases st with
  | vacant => exact absurd rfl hv
  | booked => exact absurd rfl hb
  | withdrawn => exact absurd rfl hw
  | outOfService => exact absurd rfl hout
  | preheating | ready | loading | holding | releasing | collecting => rfl

/-- R75: the counter of a bay at a pass start. -/
theorem skipAfter_eq (s : State) (b : Nat) : s.skipAfter b =
    if (s.bay b).state = .outOfService then s.scanner.skip.getD b 0
    else if s.scanner.skip.getD b 0 = 0 then
      (if (s.bay b).state = .vacant ∨ (s.bay b).state = .booked ∨ (s.bay b).state = .withdrawn then s.config.idleSkip
        else (s.boundProfile b).skip)
    else s.scanner.skip.getD b 0 - 1 := by
  unfold State.skipAfter
  by_cases hout : (s.bay b).state = .outOfService
  · rw [if_pos hout, if_pos hout]
  · rw [if_neg hout, if_neg hout]
    congr 1
    unfold State.skipValue
    by_cases hidle : (s.bay b).state = .vacant ∨ (s.bay b).state = .booked ∨ (s.bay b).state = .withdrawn
    · rw [if_pos hidle, group_of_idle hidle, if_neg (by decide)]
    · rw [if_neg hidle, group_of_profile hout hidle, if_pos rfl]

theorem noteStarved_of_free (h : s.heldOff = false) : s.noteStarved = s := by
  rw [State.noteStarved, State.starved, h, Bool.and_false]
  rfl

/-- R81, R149: a pass with a bay left starves under a pulse. -/
theorem noteStarved_of_heldOff {p : Pass} (hpass : s.scanner.pass = some p) (hleft : p.remaining ≠ []) (h : s.heldOff = true) :
    s.noteStarved = { s with latch := { s.latch with stallTimer := some (s.latch.stallTimer.getD s.clock) } } := by
  have hstarved : s.starved = true := by
    rw [State.starved, hpass, h, Option.any_some, Bool.and_true]
    cases hr : p.remaining with
    | nil => exact absurd hr hleft
    | cons => rfl
  rw [State.noteStarved, hstarved, Bool.true_and]
  cases ht : s.latch.stallTimer with
  | none => rfl
  | some x =>
    refine (if_neg (by simp)).trans ?_
    rw [Option.getD_some, ← ht]

/-- The state with the pass started and its first pair begun. -/
def firstPair (s : State) : State := { passStarted s with scanner := { (passStarted s).scanner with
  conversion := some { bay := (dueBays s).headD 0, phase := .settling, since := s.clock, filter := s.filterTime }
  discard := false } }

/-- R80: the scanner goes on at once with no pulse energised. -/
theorem startPass_free (hdue : dueBays s ≠ []) (hfree : s.energised = 0) : s.startPass = firstPair s := by
  have hheld : s.heldOff = false := decide_eq_false (by omega)
  obtain ⟨b, rest, hsplit⟩ := List.exists_cons_of_ne_nil hdue
  have hdueb : b ∈ dueBays s := by
    rw [hsplit]
    exact List.mem_cons_self ..
  have hserves : ((passStarted s).bay b).state ≠ .outOfService := (mem_dueBays.mp hdueb).2.1
  have hnext : (passStarted s).nextPair = firstPair s := by
    rw [nextPair_begins (s := passStarted s) (past := []) hheld rfl hsplit (fun _ h => nomatch h) hserves, firstPair, hsplit]
    simp only [passStarted, hsplit]
    rfl
  rw [startPass_some hdue, hnext]
  exact noteStarved_of_free (s := firstPair s) hheld

theorem startPass_heldOff (hdue : dueBays s ≠ []) (hheld : 0 < s.energised) : s.startPass = { passStarted s with
    latch := { s.latch with stallTimer := some (s.latch.stallTimer.getD s.clock) } } := by
  have hheldOff : (passStarted s).heldOff = true := decide_eq_true hheld
  rw [startPass_some hdue, nextPair_heldOff hheldOff, noteStarved_of_heldOff (s := passStarted s) rfl hdue hheldOff]
  rfl

end Start

theorem exec_passPeriodExpiry {s : State} (t : Nat) (hr : s.running = true) : exec (.passPeriodExpiry t) s =
    .next (if s.scanner.passTimer = 0 then
      (if s.scanner.pass.isSome = true then
        State.overrunPass { s.advance t with scanner := { s.scanner with passTimer := s.config.passPeriod } }
      else State.startPass { s.advance t with scanner := { s.scanner with passTimer := s.config.passPeriod } })
    else s.advance t) :=
  congrArg Host.Outcome.next (s.whenRunningAt_of_running t _ hr)

/-- Settles O29: no pass period over, an overrun, and a pass that starts with no bay due, at once, or held off. -/
theorem passPeriodExpiry : Obligations.PassPeriodExpiry := by
  unfold Obligations.PassPeriodExpiry
  intro s t hr now idle out
  have hexec := exec_passPeriodExpiry t hr
  refine ⟨fun h => ?_, fun h hp => ?_, fun h hp => ?_⟩
  · rw [hexec, if_neg h]
    rfl
  · rw [hexec, if_pos h, if_pos hp]
    rfl
  · rw [if_pos h, if_neg (by rw [hp]; exact Bool.false_ne_true)] at hexec
    generalize hv : ({ s.advance t with scanner := { s.scanner with passTimer := s.config.passPeriod } } : State) = v at hexec
    have hskip : ∀ b < 48, (passStarted v).scanner.skip.getD b 0 = if out b then s.scanner.skip.getD b 0
        else if s.scanner.skip.getD b 0 = 0 then (if idle b then s.config.idleSkip else (s.boundProfile b).skip)
        else s.scanner.skip.getD b 0 - 1 := fun b hb => by
      rw [passStarted_skip hb, skipAfter_eq, ← hv]
      rfl
    have hmem : ∀ b, b ∈ dueBays v ↔ b < 48 ∧ ¬ out b ∧ s.scanner.skip.getD b 0 = 0 := fun b => by
      rw [mem_dueBays, ← hv]
      rfl
    have hnow : v.clock = now ∧ v.filterTime = 4000 * 2 ^ s.config.filterCode := by
      rw [← hv]
      exact ⟨rfl, rfl⟩
    by_cases hdue : dueBays v = []
    · refine ⟨_, dueBays v, hexec, ?_, fun b hb => ?_, dueBays_ascending, hmem, fun _ => ?_, fun hne => absurd hdue hne⟩
      · rw [startPass_none hdue, ← hv]
        rfl
      · rw [startPass_none hdue]
        exact hskip b hb
      · rw [startPass_none hdue]
        exact ⟨rfl, rfl, rfl, rfl, rfl⟩
    · by_cases hfree : s.energised = 0
      · have heq := startPass_free hdue (show v.energised = 0 by rw [← hv]; exact hfree)
        refine ⟨_, dueBays v, hexec, ?_, fun b hb => ?_, dueBays_ascending, hmem, fun he => absurd he hdue, fun _ => ⟨?_, ?_, fun _ => ?_,
          fun hp => absurd hp (by omega)⟩⟩
        · rw [heq, ← hv]
          rfl
        · rw [heq]
          exact hskip b hb
        · rw [heq]
          rfl
        · rw [heq, ← hv]
          rfl
        · rw [heq, ← hnow.1, ← hnow.2]
          refine ⟨?_, rfl, rfl⟩
          rw [← hv]
          rfl
      · have heq := startPass_heldOff hdue (show 0 < v.energised by rw [← hv]; exact Nat.pos_of_ne_zero hfree)
        refine ⟨_, dueBays v, hexec, ?_, fun b hb => ?_, dueBays_ascending, hmem, fun he => absurd he hdue, fun _ => ⟨?_, ?_,
          fun h0 => absurd h0 hfree, fun _ => ?_⟩⟩
        · rw [heq, ← hv]
          rfl
        · rw [heq]
          exact hskip b hb
        · rw [heq]
          rfl
        · rw [heq, ← hv]
          rfl
        · rw [heq, ← hv]
          exact ⟨rfl, rfl, rfl⟩

/-! ### The conversion pair -/

section Pair

variable {s : State}

theorem takeSample_baysOnly (s : State) (b code : Nat) : BaysOnly s (s.takeSample b code) := by
  have hset : ∀ r, BaysOnly s (s.setRound b r) := fun _ => rfl
  unfold State.takeSample
  split
  · exact BaysOnly.refl s
  · split
    · exact (hset none).trans (Completions.faultRound_onlyBays _ b).1
    · dsimp only
      split
      · exact (hset none).trans (Completions.validRound_onlyBays _ b _).1
      · exact hset _

/-- R79, R150: the pair of the first bay of the pass is over. -/
def pairOver (v : State) : State :=
  (State.dropConversion { v with scanner := { v.scanner with pass := v.scanner.pass.map Pass.moveOn } }).clearStall

theorem endKept_eq (s : State) (b code : Nat) : s.endKept b code =
    (pairOver (if s.scanner.discard then s else s.takeSample b code)).nextPair := rfl

/-- R76, R80: what follows the pair of the bay at the head of a pass, once its sample has left `v`: the statement's own words. -/
def GoesOn (s : State) (now : Nat) (due rest : List Nat) (v u : State) : Prop :=
  let next := fun (pass : Option Pass) (conversion : Option Conversion) => { v with
    latch := { v.latch with stallTimer := none, guard := false }
    scanner := { v.scanner with pass := pass, conversion := conversion, discard := false } }
  (0 < s.energised → u = next (some { due := due, remaining := rest }) none) ∧
  (∀ (past : List Nat) (a : Nat) (left : List Nat), s.energised = 0 → rest = past ++ a :: left →
    (∀ x ∈ past, (v.bay x).state = .outOfService) → (v.bay a).state ≠ .outOfService →
    u = next (some { due := due, remaining := a :: left })
      (some { bay := a, phase := .settling, since := now, filter := 4000 * 2 ^ s.config.filterCode })) ∧
  (s.energised = 0 → (∀ a ∈ rest, (v.bay a).state = .outOfService) → u = next none none)

theorem goesOn_pairOver {v : State} {now b : Nat} {due rest : List Nat} (channels : v.latch.channels = s.latch.channels)
    (config : v.config = s.config) (clock : v.clock = now) (pass : v.scanner.pass = some { due := due, remaining := b :: rest }) :
    GoesOn s now due rest v (pairOver v).nextPair := by
  have henergised : (pairOver v).energised = s.energised := Budgets.energised_congr channels
  have hpass : (pairOver v).scanner.pass = some { due := due, remaining := rest } := by
    rw [pairOver, State.clearStall, State.dropConversion]
    dsimp only
    rw [pass]
    rfl
  have hover : pairOver v = { v with
      latch := { v.latch with stallTimer := none, guard := false }
      scanner := { v.scanner with pass := some { due := due, remaining := rest }, conversion := none, discard := false } } := by
    rw [← hpass]
    rfl
  have hfilter : (pairOver v).filterTime = 4000 * 2 ^ s.config.filterCode := by rw [← config]; rfl
  refine ⟨fun h => ?_, fun past a left h hsplit hpast ha => ?_, fun h hall => ?_⟩
  · rw [nextPair_heldOff (decide_eq_true (by rw [henergised]; exact h)), hover]
  · rw [nextPair_begins (s := pairOver v) (decide_eq_false (by rw [henergised]; omega)) hpass hsplit hpast ha,
      hfilter, hover, ← clock]
  · rw [nextPair_ends (s := pairOver v) (decide_eq_false (by rw [henergised]; omega)) hpass hall, hover]
    rfl

theorem takeSample_fault {b code : Nat} (hout : (s.bay b).state ≠ .outOfService) (hc : code ≤ 7 ∨ 1016 ≤ code) :
    s.takeSample b code = (s.setRound b none).faultRound b := by
  unfold State.takeSample
  rw [if_neg hout, if_pos]
  simpa [isFaultCode] using hc

/-- R87, R88: a good code of an idle bay is a valid round. -/
theorem takeSample_idle {b code : Nat} (hgroup : (s.bay b).state.group = some .idle) (hround : s.scanner.rounds.getD b none = none)
    (hlow : 8 ≤ code) (hhigh : code ≤ 1015) : s.takeSample b code = { s with
      bays := s.bays.setIfInBounds b { s.bay b with
        lastTemp := some (temperatureOf s.config.points code), lastRound := some s.bankTime, faultStreak := 0 }
      scanner := { s.scanner with rounds := s.scanner.rounds.setIfInBounds b none } } := by
  have hgood : isFaultCode code = false := by
    simp only [isFaultCode, Bool.or_eq_false_iff, decide_eq_false_iff_not]
    omega
  have hout : (s.bay b).state ≠ .outOfService := fun h => by
    rw [h] at hgroup
    cases hgroup
  have hreduction : s.reduction b = (1, .first) := if_neg (by rw [hgroup]; decide)
  unfold State.takeSample
  rw [if_neg hout, hgood, if_neg Bool.false_ne_true, hround, hreduction]
  refine (if_pos (Nat.le_refl 1)).trans ?_
  have hsame : ((s.setRound b none).bay b).state = (s.bay b).state := rfl
  unfold State.validRound
  cases hst : (s.bay b).state with
  | vacant | booked | withdrawn =>
    rw [hsame, hst]
    rfl
  | preheating | ready | loading | holding | releasing | collecting | outOfService =>
    rw [hst] at hgroup
    cases hgroup

theorem exec_settlingConversionEnd {c : Conversion} (t : Nat) (hr : s.running = true) (hc : s.scanner.conversion = some c) :
    exec (.settlingConversionEnd t) s = .next (if c.phase = .settling ∧ c.since + c.filter ≤ max s.clock t then
      { s.advance t with scanner := { s.scanner with conversion := some { c with phase := .kept, since := max s.clock t } } }
    else s.advance t) := by
  refine congrArg Host.Outcome.next ((s.whenRunningAt_of_running t _ hr).trans ?_)
  rw [State.advance_scanner, hc]
  exact if_congr (and_congr_right fun _ => Rows.elapsed_iff (s := s.advance t)) rfl rfl

theorem exec_keptConversionEnd {c : Conversion} {code : Nat} (t : Nat) (hcode : code < 1024) (hr : s.running = true)
    (hc : s.scanner.conversion = some c) : exec (.keptConversionEnd code t) s =
    .next (if c.phase = .kept ∧ c.since + c.filter ≤ max s.clock t then (s.advance t).endKept c.bay code else s.advance t) := by
  have hrow : exec (.keptConversionEnd code t) s = .next (match (s.advance t).scanner.conversion with
      | some c => if c.phase = .kept ∧ (s.advance t).elapsed c.since c.filter = true then (s.advance t).endKept c.bay code else s.advance t
      | none => s.advance t) := by
    rw [show exec (.keptConversionEnd code t) s = execKeptConversionEnd code t s from rfl, execKeptConversionEnd,
      s.whenRunningAt_of_running t _ hr, nextIf, decide_eq_true hcode]
    rfl
  rw [hrow, State.advance_scanner, hc]
  exact congrArg _ (if_congr (and_congr_right fun _ => Rows.elapsed_iff (s := s.advance t)) rfl rfl)

end Pair

/-- Settles O30: the settling conversion's end, and the kept one's, the pass going on from the state its sample leaves. -/
theorem conversionPair : Obligations.ConversionPair := by
  unfold Obligations.ConversionPair
  constructor
  · intro s c t hr hc now
    refine ⟨fun hphase h => ?_, fun h => ⟨?_, fun code hcode => ?_⟩⟩
    · rw [exec_settlingConversionEnd t hr hc, if_pos ⟨hphase, h⟩]
      rfl
    · rw [exec_settlingConversionEnd t hr hc, if_neg fun hn => absurd hn.2 (Nat.not_le.mpr h)]
      rfl
    · rw [exec_keptConversionEnd t hcode hr hc, if_neg fun hn => absurd hn.2 (Nat.not_le.mpr h)]
      rfl
  · intro s b code since filter t due rest hr hb hcode hc hover hpass now goesOn
    have hexec := (exec_keptConversionEnd (code := code) t (by omega) hr hc).trans (congrArg Host.Outcome.next (if_pos ⟨rfl, hover⟩))
    have hgoes : ∀ v, BaysOnly now v → goesOn v (pairOver v).nextPair := fun v hv =>
      goesOn_pairOver (s := s) (b := b) ((congrArg (fun u : State => u.latch.channels) (show v = _ from hv)).trans rfl)
        ((congrArg State.config (show v = _ from hv)).trans rfl) ((congrArg State.clock (show v = _ from hv)).trans rfl)
        ((congrArg (fun u : State => u.scanner.pass) (show v = _ from hv)).trans hpass)
    have htaken := hgoes _ (takeSample_baysOnly now b code)
    refine ⟨_, hexec, fun hd => ?_, fun hd => ?_⟩
    · rw [endKept_eq, show (s.advance t).scanner.discard = true from hd, if_pos rfl]
      exact hgoes now (BaysOnly.refl now)
    · rw [endKept_eq, show (s.advance t).scanner.discard = false from hd, if_neg Bool.false_ne_true]
      refine ⟨htaken, fun hout hfault => ?_, fun hgroup hround hlow hhigh => ?_⟩
      · rw [takeSample_fault (s := now) hout hfault] at htaken
        rw [show (s.advance t).takeSample b code = _ from takeSample_fault (s := now) hout hfault]
        exact htaken
      · rw [takeSample_idle (s := now) hgroup hround hlow hhigh] at htaken
        rw [show (s.advance t).takeSample b code = _ from takeSample_idle (s := now) hgroup hround hlow hhigh]
        exact htaken

end Sys2Proof.Scanning
end

section

-- One proof at a time: the proofs here together ask for more threads than the memory limit leaves room for.
set_option Elab.async false

/-! The receiver and the frames (R184 to R188, R191). -/

namespace Sys2Proof.Frames

open Sys2Proof Sys2Proof.Machine Sys2Proof.Courses

/-! ### The rows of the receiver -/

section Rows

variable {s : State}

/-- No reply is on the line at the present moment. -/
theorem silent_iff : s.transmits = false ↔ ∀ e, s.link.sending = some e → e ≤ s.clock := by
  rw [← Bool.not_eq_true, State.transmits_iff]
  constructor
  · exact fun h e he => Nat.not_lt.mp fun hlt => h ⟨e, he, hlt⟩
  · rintro h ⟨e, he, hlt⟩
    exact absurd (h e he) (Nat.not_le.mpr hlt)

/-- R184: the present moment, a character received at it. -/
def heardAt (s : State) (t : Nat) : State :=
  { s with clock := max s.clock t, link := { s.link with lastCharacter := some (max s.clock t) } }

theorem heard_advance (s : State) (t : Nat) : (s.advance t).heard = heardAt s t := rfl

theorem exec_listening {t : Nat} (f : State → State) (hr : s.running = true) (h : ∀ e, s.link.sending = some e → e ≤ max s.clock t) :
    s.whenRunningAt t (·.whenListening f) = f (heardAt s t) := by
  rw [s.whenRunningAt_of_running t _ hr, State.whenListening_of_silent _ _ (silent_iff.mpr h), heard_advance]

theorem exec_transmitting {t e : Nat} (f : State → State) (hr : s.running = true) (he : s.link.sending = some e)
    (h : max s.clock t < e) : s.whenRunningAt t (·.whenListening f) = { s with clock := max s.clock t } := by
  rw [s.whenRunningAt_of_running t _ hr,
    State.whenListening_of_transmits _ _ ((State.transmits_iff (s.advance t)).mpr ⟨e, he, h⟩)]
  rfl

theorem exec_linkAddressCharacter {t : Nat} (a : Byte) (hr : s.running = true) (h : ∀ e, s.link.sending = some e → e ≤ max s.clock t) :
    exec (.linkAddressCharacter a t) s = .next ((heardAt s t).takeAddress a) := congrArg _ (exec_listening _ hr h)

theorem exec_linkDataCharacter {t : Nat} (data : Byte) (stop : Bool) (hr : s.running = true)
    (h : ∀ e, s.link.sending = some e → e ≤ max s.clock t) : exec (.linkDataCharacter data stop t) s =
      .next (if s.link.receiver.phase = .asleep then heardAt s t else (heardAt s t).takeData data stop) :=
  congrArg _ (exec_listening _ hr h)

theorem exec_frameEnd {t : Nat} (low : Byte) (stop : Bool) (hr : s.running = true)
    (h : ∀ e, s.link.sending = some e → e ≤ max s.clock t) (hends : s.link.receiver.endsNext = true) :
    exec (.frameEnd low stop t) s = .next ((heardAt s t).takeData low stop) := by
  refine congrArg Host.Outcome.next ((s.whenRunningAt_of_running t _ hr).trans ?_)
  rw [show (s.advance t).link = s.link from rfl, hends, if_pos rfl, State.whenListening_of_silent _ _ (silent_iff.mpr h), heard_advance]

theorem exec_frameGapTimeout {t c : Nat} (hr : s.running = true) (hc : s.link.lastCharacter = some c) :
    exec (.frameGapTimeout t) s = .next (if c + 5000 ≤ max s.clock t then (s.advance t).abandonFrame else s.advance t) := by
  refine congrArg Host.Outcome.next ((s.whenRunningAt_of_running t _ hr).trans ?_)
  rw [show (s.advance t).link = s.link from rfl, hc]
  exact if_congr (Rows.elapsed_iff (s := s.advance t)) rfl rfl

end Rows

/-! ### What a character does to the receiver (R185, R186) -/

section Receiving

variable {s : State}

/-- R185: what an address character leaves. -/
theorem takeAddress_eq (s : State) (a : Byte) : s.takeAddress a = { s with link := { s.link with
    receiver := { phase := if a = 0 ∨ a.toNat = s.link.address then .receiving else .asleep, broadcast := decide (a = 0)
                  declared := none, expected := 0, crc := 0xFFFF, corrupt := false, buffer := [], crcHigh := 0 }
    truncated := s.link.truncated || decide (s.link.receiver.phase ≠ .asleep)
    truncatedCount := if s.link.receiver.phase = .asleep then s.link.truncatedCount else min (s.link.truncatedCount + 1) 65535 } } := by
  have hkept : s.abandonFrame.setReceiver Receiver.asleep = { s with link := { s.link with
      receiver := Receiver.asleep
      truncated := s.link.truncated || decide (s.link.receiver.phase ≠ .asleep)
      truncatedCount :=
        if s.link.receiver.phase = .asleep then s.link.truncatedCount else min (s.link.truncatedCount + 1) 65535 } } := by
    unfold State.abandonFrame
    by_cases h : s.link.receiver.phase = .asleep
    · simp only [if_pos h, h, ne_eq, not_true_eq_false, decide_false, Bool.or_false]
      rfl
    · simp only [if_neg h, h, ne_eq, not_false_eq_true, decide_true, Bool.or_true]
      rfl
  have haddress : s.abandonFrame.link.address = s.link.address := by
    unfold State.abandonFrame
    split <;> rfl
  have hset : ∀ r, s.abandonFrame.setReceiver r = (s.abandonFrame.setReceiver Receiver.asleep).setReceiver r := fun _ => rfl
  unfold State.takeAddress
  dsimp only
  rw [haddress, hset (Receiver.opened true), hset (Receiver.opened false), hkept]
  by_cases h0 : a = 0
  · rw [if_pos h0, if_pos (Or.inl h0)]
    simp only [h0, decide_true]
    rfl
  · rw [if_neg h0]
    simp only [h0, false_or, decide_false]
    by_cases ha : a.toNat = s.link.address
    · rw [if_pos ha, if_pos ha]
      rfl
    · rw [if_neg ha, if_neg ha]
      rfl

theorem abandonFrame_receiving (h : s.link.receiver.phase ≠ .asleep) : s.abandonFrame = { s with link := { s.link with
    receiver := Receiver.asleep, truncated := true, truncatedCount := min (s.link.truncatedCount + 1) 65535 } } := if_neg h

/-- R184: the receiver with the stop bit of a character taken into account. -/
def stopped (r : Receiver) (stop : Bool) : Receiver := { r with corrupt := r.corrupt || !stop }

variable {data : Byte} {stop : Bool}

theorem takeData_eq (s : State) (data : Byte) (stop : Bool) : s.takeData data stop =
    match s.link.receiver.declared with
    | none => s.setReceiver ((stopped s.link.receiver stop).takeLength data)
    | some l =>
      if 2 < s.link.receiver.expected then s.setReceiver ((stopped s.link.receiver stop).takeBody l data)
      else if s.link.receiver.expected = 2 then s.setReceiver ((stopped s.link.receiver stop).takeCrcHigh data)
      else s.judgeFrame (stopped s.link.receiver stop) data := rfl

theorem takeData_length (h : s.link.receiver.declared = none) :
    s.takeData data stop = s.setReceiver ((stopped s.link.receiver stop).takeLength data) := by rw [takeData_eq, h]

theorem takeData_body {l : Nat} (h : s.link.receiver.declared = some l) (he : 2 < s.link.receiver.expected) :
    s.takeData data stop = s.setReceiver ((stopped s.link.receiver stop).takeBody l data) := by
  rw [takeData_eq, h]
  exact if_pos he

theorem takeData_crcHigh {l : Nat} (h : s.link.receiver.declared = some l) (he : s.link.receiver.expected = 2) :
    s.takeData data stop = s.setReceiver ((stopped s.link.receiver stop).takeCrcHigh data) := by
  rw [takeData_eq, h]
  exact (if_neg (by omega)).trans (if_pos he)

theorem takeData_end {l : Nat} (h : s.link.receiver.declared = some l) (he : s.link.receiver.expected = 1) :
    s.takeData data stop = s.judgeFrame (stopped s.link.receiver stop) data := by
  rw [takeData_eq, h]
  exact (if_neg (by omega)).trans (if_neg (by omega))

/-- R186: a frame of fitting length stores every byte of its body. -/
theorem takeBody_receiving {r : Receiver} (l : Nat) (h : r.phase = .receiving) :
    r.takeBody l data = { r with expected := r.expected - 1, crc := crcByte r.crc data, buffer := r.buffer ++ [data] } := by
  unfold Receiver.takeBody
  rw [if_pos (Or.inl h)]

/-- R186: a frame being counted stores only its command byte. -/
theorem takeBody_counting {r : Receiver} (l : Nat) (h : r.phase = .counting) :
    r.takeBody l data = { r with
      expected := r.expected - 1, crc := crcByte r.crc data
      buffer := if r.expected = l + 2 then r.buffer ++ [data] else r.buffer } := by
  have hphase : ¬ r.phase = .receiving := by
    rw [h]
    decide
  unfold Receiver.takeBody
  simp only [hphase, false_or]

end Receiving

/-- Settles O11: each character by the receiver's state, and the gap. -/
theorem charactersFillTheFrame : Obligations.CharactersFillTheFrame := by
  unfold Obligations.CharactersFillTheFrame
  refine ⟨fun s t hr => ⟨fun a hs => ?_, fun c hc h hp => ?_, fun c hc h => ?_⟩, fun s data stop t e hr he h => ⟨?_, ?_, ?_⟩, ?_⟩
  · rw [exec_linkAddressCharacter a hr hs, takeAddress_eq]
    rfl
  · rw [exec_frameGapTimeout hr hc, if_pos h, abandonFrame_receiving (s := s.advance t) hp]
    rfl
  · rw [exec_frameGapTimeout hr hc, if_neg (Nat.not_le.mpr h)]
    rfl
  · exact congrArg _ (exec_transmitting _ hr he h)
  · exact congrArg _ (exec_transmitting _ hr he h)
  · refine congrArg Host.Outcome.next ((s.whenRunningAt_of_running t _ hr).trans ?_)
    rw [State.whenListening_of_transmits _ _ ((State.transmits_iff (s.advance t)).mpr ⟨e, he, h⟩), ite_self]
    rfl
  · intro s data stop t hr hs now r
    have hexec := exec_linkDataCharacter data stop hr hs
    have taken : r.phase ≠ .asleep → exec (.linkDataCharacter data stop t) s = .next ((heardAt s t).takeData data stop) := fun h =>
      hexec.trans (congrArg _ (if_neg h))
    refine ⟨fun h => ?_, fun h hd => ?_, fun l h hd he => ?_, fun l h hd he => ?_, fun l h hd he => ?_⟩
    · exact hexec.trans (congrArg _ (if_pos h))
    · rw [taken h, takeData_length (s := heardAt s t) hd]
      rfl
    · rw [taken (by rw [h]; decide), takeData_body (s := heardAt s t) hd he,
        takeBody_receiving (r := stopped (heardAt s t).link.receiver stop) l h]
      rfl
    · rw [taken (by rw [h]; decide), takeData_body (s := heardAt s t) hd he,
        takeBody_counting (r := stopped (heardAt s t).link.receiver stop) l h]
      rfl
    · rw [taken h, takeData_crcHigh (s := heardAt s t) hd he]
      rfl

/-! ### How a frame is judged (R187, R188, R191) -/

section Judging

variable {s : State} {r : Receiver} {low : Byte}

/-- The receiver asleep at the end of a frame. -/
def ended (s : State) : State := s.setReceiver Receiver.asleep

theorem judgeFrame_bad (h : r.passes low = false) : s.judgeFrame r low = { ended s with link := (ended s).link.noteCrcError } :=
  if_pos (by rw [h]; rfl)

theorem judgeFrame_good (h : r.passes low = true) : s.judgeFrame r low =
    if r.broadcast then
      match r.broadcastRestart with
      | some o => (ended s).offerFrame { broadcast := true, command := .restart o }
      | none => { ended s with link := (ended s).link.noteBroadcast }
    else (ended s).offerFrame { broadcast := false, command := r.command } := if_neg (by rw [h]; exact Bool.false_ne_true)

theorem broadcastRestart_some {o : Nat} (h : r.command = .restart o) : r.broadcastRestart = some o := by
  unfold Receiver.broadcastRestart
  rw [h]

theorem broadcastRestart_none (h : ∀ o, r.command ≠ .restart o) : r.broadcastRestart = none := by
  unfold Receiver.broadcastRestart
  split
  · next o hc => exact absurd hc (h o)
  · rfl

theorem judgeFrame_discarded (h : r.passes low = true) (hb : r.broadcast = true) (hc : ∀ o, r.command ≠ .restart o) :
    s.judgeFrame r low = { ended s with link := (ended s).link.noteBroadcast } := by
  rw [judgeFrame_good h, if_pos hb, broadcastRestart_none hc]

/-- R187: a good frame that is to be queued. -/
theorem judgeFrame_offered (h : r.passes low = true) (hq : r.broadcast = false ∨ ∃ o, r.command = .restart o) :
    s.judgeFrame r low = (ended s).offerFrame { broadcast := r.broadcast, command := r.command } := by
  rw [judgeFrame_good h]
  cases hb : r.broadcast with
  | false => exact if_neg Bool.false_ne_true
  | true =>
    obtain ⟨o, ho⟩ := hq.resolve_left (by rw [hb]; decide)
    rw [if_pos rfl, broadcastRestart_some ho, ho]

variable {f : QueuedFrame}

theorem offerFrame_full (h : 4 ≤ s.link.queue.length) : s.offerFrame f = { s with link := s.link.noteOverrun } := if_pos h

theorem offerFrame_empty (h : s.link.queue = []) : s.offerFrame f = s.serveFrames [f] :=
  (if_neg (by rw [h]; decide)).trans (if_pos h)

theorem offerFrame_behind (hne : s.link.queue ≠ []) (h : s.link.queue.length < 4) :
    s.offerFrame f = s.setFrames (s.link.queue ++ [f]) := (if_neg (Nat.not_le.mpr h)).trans (if_neg hne)

/-! ### The head of the queue (R189, R191, R192) -/

variable {rest : List QueuedFrame} {o : Nat} {c : Command}

theorem serveFrames_addressed : s.serveFrames ({ broadcast := false, command := c } :: rest) =
    (s.setFrames ({ broadcast := false, command := c } :: rest)).answer c := by
  rw [State.serveFrames]
  exact if_neg Bool.false_ne_true

/-- R192: a broadcast RESTART with an option of a start. -/
theorem serveFrames_restart (h : o ≤ 1) :
    s.serveFrames ({ broadcast := true, command := .restart o } :: rest) = s.beginStart (decide (o = 1)) := by
  rw [State.serveFrames, if_pos rfl]
  obtain rfl | rfl : o = 0 ∨ o = 1 := by omega
  · rfl
  · rfl

/-- R191: a broadcast RESTART with another option is discarded. -/
theorem serveFrames_badRestart (h : 1 < o) : s.serveFrames ({ broadcast := true, command := .restart o } :: rest) =
    { s with link := s.link.noteBroadcast }.serveFrames rest := by
  rw [State.serveFrames, if_pos rfl]
  split
  · next h0 => cases h0; omega
  · next h1 => cases h1; omega
  · rfl

theorem serveFrames_nil (h : s.link.queue = []) : s.serveFrames [] = s := by
  have hset : s.serveFrames [] = s.setFrames s.link.queue := by rw [h]; rfl
  rw [hset]
  rfl

end Judging

/-! ### A start begun (R206) -/

section Begun

variable {s : State} {cold : Bool}

/-- R206: a start keeps the contents of Retention Memory. -/
theorem beginStart_retained : SameRetained s (s.beginStart cold) := by
  constructor <;> simp only [State.beginStart, State.startBlocks] <;> rw [Acts.loseWrite_frame]

theorem beginStart_starting : (s.beginStart cold).starting = some cold := by simp only [State.beginStart]

theorem beginStart_link : (s.beginStart cold).link = OrderLink.start s.pins.straps := by
  simp only [State.beginStart, State.startBlocks, Latches.loseWrite_pins]

end Begun

/-- Settles O12: the frame by its check, its kind and the queue it meets. -/
theorem frameJudgedAtItsEnd : Obligations.FrameJudgedAtItsEnd := by
  unfold Obligations.FrameJudgedAtItsEnd
  intro s low stop t l hr hs hphase hd he now r good ended' command queued
  have hends : s.link.receiver.endsNext = true := by
    rw [Receiver.endsNext, hd, he, decide_eq_true hphase]
    rfl
  have hexec : exec (.frameEnd low stop t) s = .next ((heardAt s t).judgeFrame (stopped r stop) low) :=
    (exec_frameEnd low stop hr hs hends).trans (congrArg _ (takeData_end (s := heardAt s t) hd he))
  have hpasses : (stopped r stop).passes low = good := by
    show (!(r.corrupt || !stop) && _) = (!r.corrupt && stop && _)
    rw [Bool.not_or, Bool.not_not]
    rfl
  have hcommand : r.command = command := by
    rw [Receiver.command, Receiver.body, show r.declared = some l from hd]
    rfl
  have hrunning : ∀ link, ({ ended' with link := link } : State).running = true := fun _ => hr
  have hoffered : good = true → queued → exec (.frameEnd low stop t) s =
      .next (ended'.offerFrame { broadcast := r.broadcast, command := command }) := fun hg hq => by
    rw [hexec, judgeFrame_offered (hpasses.trans hg) (hq.imp id fun ⟨o, ho⟩ => ⟨o, hcommand.trans ho⟩)]
    exact congrArg (fun c => Host.Outcome.next (ended'.offerFrame { broadcast := r.broadcast, command := c })) hcommand
  refine ⟨fun hg => ?_, fun hg hb hc => ?_, fun o hg hb hc hq => ?_, fun hg hb hq => ?_, fun hg hk hne hlt => ?_, fun hg hk hfull => ?_⟩
  · rw [hexec, judgeFrame_bad (hpasses.trans hg)]
    rfl
  · rw [hexec, judgeFrame_discarded (hpasses.trans hg) hb hc]
    rfl
  · have hq' : ended'.link.queue = [] := hq
    have hserved := hoffered hg (.inr ⟨o, hcommand.symm.trans hc⟩)
    rw [offerFrame_empty hq', hb, ← hcommand, hc] at hserved
    refine ⟨fun ho => ?_, fun ho => ?_⟩
    · rw [serveFrames_restart ho] at hserved
      refine ⟨_, hserved, beginStart_starting, Latches.beginStart_running _, ?_, congrArg OrderLink.queue beginStart_link⟩
      obtain ⟨h1, h2, h3, h4, h5, h6⟩ := beginStart_retained (s := ended') (cold := decide (o = 1))
      exact ⟨h1, h2, h3, h4, h5, h6⟩
    · rw [hserved, serveFrames_badRestart ho]
      exact congrArg _ (serveFrames_nil (s := { ended' with link := ended'.link.noteBroadcast }) hq')
  · have hserved := hoffered hg (.inl hb)
    rw [offerFrame_empty (show ended'.link.queue = [] from hq), hb, serveFrames_addressed] at hserved
    exact hserved
  · refine ⟨_, (hoffered hg hk).trans (congrArg _ (offerFrame_behind (s := ended') hne hlt)), rfl, ?_⟩
    refine (congrArg (· && _) (hrunning _)).trans ((Bool.true_and _).trans ?_)
    show decide ((s.link.queue ++ [_]).length < 4) = _
    rw [List.length_append, List.length_singleton]
    exact decide_eq_decide.mpr (by omega)
  · refine ⟨_, (hoffered hg hk).trans (congrArg _ (offerFrame_full (s := ended') hfull)), rfl, ?_⟩
    exact Bool.and_eq_false_iff.mpr (.inr (decide_eq_false (Nat.not_lt.mpr hfull)))

end Sys2Proof.Frames
end

section

-- One proof at a time: the proofs here together ask for more threads than the memory limit leaves room for.
set_option Elab.async false

/-! Replies (R184, R190, R192). -/

namespace Sys2Proof.Frames

open Sys2Proof Sys2Proof.Machine Sys2Proof.Courses

section Replies

variable {s : State} {t : Nat}

theorem lineIdle_iff {c : Nat} (h : s.link.lastCharacter = some c) : s.lineIdle = true ↔ 22000000 ≤ 38400 * (s.clock - c) := by
  rw [State.lineIdle, h]
  exact decide_eq_true_iff

theorem exec_replySend {r : Reply} {c : Nat} (hr : s.running = true) (hreply : s.link.reply = some r) (hs : s.link.sending = none)
    (hc : s.link.lastCharacter = some c) : exec (.replySend t) s =
      .next (if 22000000 ≤ 38400 * (max s.clock t - c) then
        { s.advance t with link := { s.link with sending := some (max s.clock t + r.duration) } } else s.advance t) := by
  refine congrArg Host.Outcome.next ((s.whenRunningAt_of_running t _ hr).trans ?_)
  rw [show (s.advance t).link = s.link from rfl, hreply, hs]
  exact if_congr (lineIdle_iff (s := s.advance t) hc) rfl rfl

theorem length_frame (r : Reply) : r.frame.length = r.data.length + 5 := by
  simp only [Reply.frame, crcBytes, List.length_append, List.length_cons, length_bytesOf]

theorem duration_eq (r : Reply) : r.duration = (11000000 * (r.data.length + 6) + 38399) / 38400 := by
  rw [Reply.duration, length_frame]

/-- R190: what the line shows while a reply is sent. -/
theorem ltx_sending {r : Reply} {e : Nat} (hr : s.running = true) (hreply : s.link.reply = some r) (he : s.link.sending = some e)
    (hlt : s.clock < e) : s.ltx = .sends (r.characters s.link.address) := by
  have hpowered : s.powered = true := (Bool.and_eq_true_iff.mp hr).1
  rw [State.ltx, if_pos hpowered, (State.transmits_iff s).mpr ⟨e, he, hlt⟩, hreply]

theorem lde_sending {e : Nat} (hr : s.running = true) (he : s.link.sending = some e) (hlt : s.clock < e) : s.lde = true :=
  Bool.and_eq_true_iff.mpr ⟨hr, (State.transmits_iff s).mpr ⟨e, he, hlt⟩⟩

theorem exec_replyDone {e : Nat} (hr : s.running = true) (he : s.link.sending = some e) : exec (.replyDone t) s =
    .next (if e ≤ max s.clock t then (s.advance t).finishReply else s.advance t) := by
  refine congrArg Host.Outcome.next ((s.whenRunningAt_of_running t _ hr).trans ?_)
  rw [show (s.advance t).link = s.link from rfl, he, Option.any_some]
  exact if_congr decide_eq_true_iff rfl rfl

/-- The reply gone, its frame still in the queue. -/
def replyGone (s : State) : State := { s with link := { s.link with reply := none, sending := none } }

/-- R190: the end of a reply to no RESTART. -/
theorem finishReply_next {f : QueuedFrame} {rest : List QueuedFrame} (hq : s.link.queue = f :: rest)
    (hf : ∀ o, f.command ≠ .restart o) : s.finishReply = (replyGone s).serveFrames rest := by
  have hnone : s.link.restartAnswered = none := by
    rw [OrderLink.restartAnswered, hq]
    split
    · next o h _ => exact absurd (Option.some.inj h) (hf o)
    · rfl
  rw [State.finishReply, hnone, hq]
  rfl

end Replies

/-- Settles O13: the reply's start by the idle line, its end, and the frame behind it. -/
theorem repliesGoOutOneAtATime : Obligations.RepliesGoOutOneAtATime := by
  unfold Obligations.RepliesGoOutOneAtATime
  intro s t hr now
  refine ⟨fun r c hreply hs hc => ⟨fun h => ?_, fun h => ?_⟩, fun e he h => ?_, fun f e he h hq hf => ?_, fun f g rest e he h hq hf hg => ?_⟩
  · have hexec := (exec_replySend (t := t) hr hreply hs hc).trans (congrArg Host.Outcome.next (if_pos h))
    rw [duration_eq] at hexec
    have hlt : now < now + (11000000 * (r.data.length + 6) + 38399) / 38400 := by omega
    refine ⟨_, hexec, rfl, lde_sending (s := { s.advance t with link := _ }) hr rfl hlt, ?_⟩
    exact ltx_sending (s := { s.advance t with link := _ }) hr hreply rfl hlt
  · rw [exec_replySend hr hreply hs hc, if_neg (Nat.not_le.mpr h)]
    rfl
  · refine ⟨_, exec_replyDone hr he, ?_, ?_⟩
    · exact if_neg (Nat.not_le.mpr h)
    · rw [if_neg (Nat.not_le.mpr h)]
      exact lde_sending (s := s.advance t) hr he h
  · have hexec := (exec_replyDone (t := t) hr he).trans (congrArg Host.Outcome.next (if_pos h))
    rw [finishReply_next (s := s.advance t) hq hf] at hexec
    exact ⟨_, hexec, rfl, Bool.and_false _, Bool.and_eq_true_iff.mpr ⟨hr, rfl⟩⟩
  · have hexec := (exec_replyDone (t := t) hr he).trans (congrArg Host.Outcome.next (if_pos h))
    have hhead : g = { broadcast := false, command := g.command } := by rw [← hg]
    rw [finishReply_next (s := s.advance t) hq hf, hhead, serveFrames_addressed, ← hhead] at hexec
    exact hexec

end Sys2Proof.Frames
end

section

-- One proof at a time: the proofs here together ask for more threads than the memory limit leaves room for.
set_option Elab.async false

/-! A bay record resolved at a warm restart (R21). -/

namespace Sys2Proof.Starts

open Sys2Proof Sys2Proof.Machine Sys2Proof.Courses Sys2Proof.Acts Sys2Proof.Expiries

section Resolve

variable {s : State} {b : Nat}

/-- R5, R21: the bay with what no restart keeps cleared. -/
def retainedAt (s : State) (b : Nat) : State := s.setBay b (s.bay b).retained

theorem retainedAt_bay (hb : b < 48) : (retainedAt s b).bay b = (s.bay b).retained := s.setBay_bay_self b _ hb

theorem resolveBay_eq (s : State) (b : Nat) : s.resolveBay b = match ((retainedAt s b).bay b).state with
    | .vacant | .booked | .withdrawn | .outOfService => retainedAt s b
    | .preheating | .ready => (retainedAt s b).setBay b { (retainedAt s b).bay b with demand := 16 }
    | .loading => if ((retainedAt s b).bay b).rearOpened then (retainedAt s b).enterWithdrawn b .restart
      else (retainedAt s b).changeBay b fun r => { r with state := .preheating }
    | .holding => (retainedAt s b).setBay b
        { (retainedAt s b).bay b with demand := 16, restartPenaltyPending := (retainedAt s b).config.restartPenalty }
    | .releasing => (retainedAt s b).changeBay b fun r =>
        { r with state := .holding, demand := 16, restartPenaltyPending := (retainedAt s b).config.restartPenalty }
    | .collecting =>
      if ((retainedAt s b).door (doorOf b .front)).closed then ((retainedAt s b).raiseBay b .collected).sendToVacant b
      else retainedAt s b := rfl

theorem retainedAt_state (hb : b < 48) : ((retainedAt s b).bay b).state = (s.bay b).state := by
  rw [retainedAt_bay hb]
  rfl

theorem resolveBay_kept (hb : b < 48) (h : (s.bay b).state = .vacant ∨ (s.bay b).state = .booked ∨ (s.bay b).state = .withdrawn ∨
    (s.bay b).state = .outOfService) : s.resolveBay b = retainedAt s b := by
  rw [resolveBay_eq, retainedAt_state hb]
  obtain h | h | h | h := h <;> rw [h]

theorem resolveBay_heated (hb : b < 48) (h : (s.bay b).state = .preheating ∨ (s.bay b).state = .ready) :
    s.resolveBay b = (retainedAt s b).setBay b { (s.bay b).retained with demand := 16 } := by
  rw [resolveBay_eq, retainedAt_state hb, retainedAt_bay hb]
  obtain h | h := h <;> rw [h]

theorem resolveBay_opened (hb : b < 48) (h : (s.bay b).state = .loading) (ho : (s.bay b).rearOpened = true) :
    s.resolveBay b = (retainedAt s b).enterWithdrawn b .restart := by
  rw [resolveBay_eq, retainedAt_state hb, retainedAt_bay hb, h]
  exact if_pos ho

theorem resolveBay_unopened (hb : b < 48) (h : (s.bay b).state = .loading) (ho : (s.bay b).rearOpened = false) :
    s.resolveBay b = (retainedAt s b).changeBay b fun r => { r with state := .preheating } := by
  rw [resolveBay_eq, retainedAt_state hb, retainedAt_bay hb, h]
  exact if_neg (by rw [show (s.bay b).retained.rearOpened = false from ho]; exact Bool.false_ne_true)

theorem resolveBay_collected (hb : b < 48) (h : (s.bay b).state = .collecting) (hd : (s.door (2 * b)).closed = true) :
    s.resolveBay b = ((retainedAt s b).raiseBay b .collected).sendToVacant b := by
  rw [resolveBay_eq, retainedAt_state hb, h]
  exact if_pos hd

theorem resolveBay_collecting (hb : b < 48) (h : (s.bay b).state = .collecting) (hd : (s.door (2 * b)).closed = false) :
    s.resolveBay b = retainedAt s b := by
  rw [resolveBay_eq, retainedAt_state hb, h]
  exact if_neg (by rw [show ((retainedAt s b).door (doorOf b .front)).closed = false from hd]; exact Bool.false_ne_true)

/-- R21: a bay that a warm restart holds. -/
def heldAgain (s : State) (b : Nat) : Bay := { (s.bay b).retained with
  state := .holding, demand := 16, restartPenaltyPending := s.config.restartPenalty }

theorem resolveBay_held (hb : b < 48) (h : (s.bay b).state = .holding ∨ (s.bay b).state = .releasing) :
    (s.resolveBay b).bay b = heldAgain s b ∧ (s.resolveBay b).notices b = s.notices b ∧ (s.resolveBay b).directory = s.directory := by
  rw [resolveBay_eq, retainedAt_state hb, retainedAt_bay hb]
  obtain h | h := h
  · rw [h]
    refine ⟨(State.setBay_bay_self _ b _ hb).trans ?_, rfl, rfl⟩
    have hst : (s.bay b).retained = { (s.bay b).retained with state := .holding } := by rw [← h]; rfl
    rw [heldAgain, hst]
    rfl
  · rw [h]
    refine ⟨(State.changeBay_bay_self _ b _ hb).trans ?_, changeBay_notices (s := retainedAt s b) _ b, changeBay_directory _⟩
    rw [retainedAt_bay hb, heldAgain]
    simp only [demandAfter, BayState.heating, if_true, show (s.bay b).retained.state = .releasing from h]
    rfl

end Resolve

/-- Settles O59: the record, the notices and the directory by the retained state. -/
theorem warmRestartResolvesBays : Obligations.WarmRestartResolvesBays := by
  unfold Obligations.WarmRestartResolvesBays
  intro s b hb r t kept held
  refine ⟨(resolveBay_course (g := ⟨True, False⟩) id).onlyBays, resolveBay_latch s b, fun h => ?_, fun h => ?_, fun h ho => ?_,
    fun h ho => ?_, fun h => resolveBay_held hb h, fun h hd => ?_, fun h hd => ?_⟩
  · rw [show t = _ from resolveBay_kept hb (h.imp_right fun h => h)]
    exact ⟨retainedAt_bay hb, rfl, rfl⟩
  · rw [show t = _ from resolveBay_heated hb h]
    exact ⟨State.setBay_bay_self _ b _ hb, rfl, rfl⟩
  · rw [show t = _ from resolveBay_opened hb h ho]
    refine ⟨(State.enterWithdrawn_bay_self _ b _ hb).trans ?_, Cancelling.enterWithdrawn_notices hb .restart, changeBay_directory _⟩
    rw [retainedAt_bay hb]
    rfl
  · rw [show t = _ from resolveBay_unopened hb h ho]
    refine ⟨(State.changeBay_bay_self _ b _ hb).trans ?_, changeBay_notices (s := retainedAt s b) _ b, changeBay_directory _⟩
    rw [retainedAt_bay hb]
    simp only [demandAfter, BayState.heating, if_true, show (s.bay b).retained.state = .loading from h]
    rfl
  · rw [show t = _ from resolveBay_collected hb h hd]
    refine ⟨retired_congr (s' := (retainedAt s b).raiseBay b .collected) rfl rfl (sendToVacant_retired hb), ?_⟩
    exact (sendToVacant_notices b).trans (State.setNotices_notices_self _ b _ hb)
  · rw [show t = _ from resolveBay_collecting hb h hd]
    exact ⟨retainedAt_bay hb, rfl⟩

end Sys2Proof.Starts
end

section

-- One proof at a time: the proofs here together ask for more threads than the memory limit leaves room for.
set_option Elab.async false

/-! What a start leaves (R20 to R22, R38, R94, R133, R134, R138, R151, R152, R170, R195, R198, R207). -/

namespace Sys2Proof.Starts

open Sys2Proof Sys2Proof.Machine Sys2Proof.Courses Sys2Proof.Acts Sys2Proof.Latches

/-! ### The blocks begun afresh -/

section Blocks

variable {s : State} {cold : Bool}

/-- R198: the configuration that a start puts in effect. -/
def chosen (s : State) : BankConfig := if s.configurationGood then configOf s.store.configuration else BankConfig.defaults

theorem begunAfresh_warm (h : s.startsWarm cold = true) :
    begunAfresh s cold = s.chooseConfiguration.readSwitches.startBlocks := by
  unfold begunAfresh
  rw [if_pos h]

theorem begunAfresh_cold (h : s.startsWarm cold = false) :
    begunAfresh s cold = s.chooseConfiguration.emptyRecords.readSwitches.startBlocks := by
  unfold begunAfresh
  rw [if_neg (by rw [h]; exact Bool.false_ne_true)]

/-- What the blocks that keep nothing in Retention Memory hold, with the moment, the pins and the store as they were. -/
structure Afresh (s u : State) : Prop where
  clock : u.clock = s.clock
  pins : u.pins = s.pins
  store : u.store = s.store
  config : u.config = chosen s
  link : u.link = OrderLink.start s.pins.straps
  ka : u.ka = KioskPort.start
  kb : u.kb = KioskPort.start
  mains : u.mains = MainsMonitor.start
  heater : u.heater = HeaterAllocator.start (budgetOf (chosen s))
  scanner : u.scanner = Scanner.start (chosen s).passPeriod
  records : ∀ d < 96, u.latchRecord d = s.latchAtStart d
  channels : u.latch.channels = Vector.replicate 4 none
  stall : u.latch.stallTimer = none ∧ u.latch.guard = false
  doors : ∀ d < 96, u.door d = { closed := s.pins.switches.getD d true, candidate := none
                                 alarm := if s.pins.switches.getD d true then none else some (u.after (u.alarmSeconds (sideOfDoor d))) }

/-- The blocks from a state whose configuration is chosen. -/
theorem startBlocks_afresh {v : State} (clock : v.clock = s.clock) (pins : v.pins = s.pins) (store : v.store = s.store)
    (config : v.config = chosen s) : Afresh s v.readSwitches.startBlocks where
  clock := by simp only [State.startBlocks, State.readSwitches, clock]
  pins := by simp only [State.startBlocks, State.readSwitches, pins]
  store := by simp only [State.startBlocks, State.readSwitches, store]
  config := by simp only [State.startBlocks, State.readSwitches, config]
  link := by simp only [State.startBlocks, State.readSwitches, pins]
  ka := by simp only [State.startBlocks]
  kb := by simp only [State.startBlocks]
  mains := by simp only [State.startBlocks]
  heater := by simp only [State.startBlocks, State.readSwitches, config]
  scanner := by simp only [State.startBlocks, State.readSwitches, config]
  records d hd := by
    rw [startBlocks_record _ hd]
    simp only [State.latchAtStart, readSwitches_pins, pins]
  channels := by rw [startBlocks_latch]; rfl
  stall := by rw [startBlocks_latch]; exact ⟨rfl, rfl⟩
  doors d hd := by
    have hafter : v.readSwitches.startBlocks.after (v.readSwitches.startBlocks.alarmSeconds (sideOfDoor d)) =
        v.after (v.alarmSeconds (sideOfDoor d)) := by
      cases sideOfDoor d <;>
        simp only [State.after, State.alarmSeconds, State.startBlocks, State.readSwitches]
    rw [hafter, startBlocks_door, readSwitches_door v hd, ← pins]
    rfl

theorem begunAfresh_afresh (s : State) (cold : Bool) : Afresh s (begunAfresh s cold) := by
  cases h : s.startsWarm cold with
  | true =>
    rw [begunAfresh_warm h]
    exact startBlocks_afresh rfl rfl rfl rfl
  | false =>
    rw [begunAfresh_cold h]
    exact startBlocks_afresh rfl rfl rfl rfl

end Blocks

/-! ### Courses of bays on blocks begun afresh -/

section Idle

variable {g : Rules} {s t : State} {b : Nat} {bs : List Nat}

/-- No round, no conversion and no heater run. -/
def Idle (s : State) : Prop := (∃ n, s.scanner = Scanner.start n) ∧ ∃ x, s.heater = HeaterAllocator.start x

theorem setIfInBounds_replicate {α : Type} (n i : Nat) (x : α) : (Vector.replicate n x).setIfInBounds i x = Vector.replicate n x := by
  ext j hj
  simp

theorem cutRun_idle (h : Idle s) : (s.cutRun b).heater = s.heater := by
  obtain ⟨-, x, hx⟩ := h
  unfold State.cutRun
  dsimp only
  rw [hx]
  simp only [HeaterAllocator.start, List.map_nil, setIfInBounds_replicate]

theorem dropRound_idle (h : Idle s) : { s.scanner with rounds := s.scanner.rounds.setIfInBounds b none } = s.scanner := by
  obtain ⟨⟨n, hn⟩, -⟩ := h
  rw [hn]
  simp only [Scanner.start, setIfInBounds_replicate]

theorem changeBay_idle (f : Bay → Bay) (h : Idle s) :
    (s.changeBay b f).scanner = s.scanner ∧ (s.changeBay b f).heater = s.heater := by
  constructor
  · rw [State.changeBay_frame]
    dsimp only
    split
    · rfl
    · exact dropRound_idle h
  · rw [changeBay_heater]
    split
    · exact cutRun_idle h
    · rfl

theorem move_idle (hm : Move g b s t) (h : Idle s) : t.scanner = s.scanner ∧ t.heater = s.heater := by
  cases hm with
  | write | notice => exact ⟨rfl, rfl⟩
  | change f => exact changeBay_idle f h
  | leave f =>
    have hleft : (s.leaveEntry b).scanner = s.scanner ∧ (s.leaveEntry b).heater = s.heater := by
      rw [State.leaveEntry_frame]
      exact ⟨rfl, rfl⟩
    have hidle : Idle (s.leaveEntry b) := by
      unfold Idle
      rw [hleft.1, hleft.2]
      exact h
    obtain ⟨h1, h2⟩ := changeBay_idle (s := s.leaveEntry b) (b := b) f hidle
    exact ⟨h1.trans hleft.1, h2.trans hleft.2⟩
  | mark =>
    obtain ⟨⟨n, hn⟩, -⟩ := h
    rw [markDiscard_of_other (by rw [hn]; exact fun c hc => nomatch hc)]
    exact ⟨rfl, rfl⟩
  | cut => exact ⟨rfl, cutRun_idle h⟩
  | request d a c =>
    rw [State.request_frame]
    exact ⟨rfl, rfl⟩
  | withdraw d a =>
    rw [State.withdrawRequest_frame]
    exact ⟨rfl, rfl⟩

theorem course_idle (hc : Course g bs s t) (h : Idle s) : t.scanner = s.scanner ∧ t.heater = s.heater := by
  induction hc with
  | refl => exact ⟨rfl, rfl⟩
  | @tail v _ _ hm ih =>
    obtain ⟨b, -, hm⟩ := hm
    have hidle : Idle v := by
      unfold Idle
      rw [ih.1, ih.2]
      exact h
    obtain ⟨h1, h2⟩ := move_idle hm hidle
    exact ⟨h1.trans ih.1, h2.trans ih.2⟩

theorem Afresh.idle {u : State} (h : Afresh s u) : Idle u := ⟨⟨_, h.scanner⟩, _, h.heater⟩

/-- The blocks stand through the resolution of the bays. -/
theorem Afresh.course {u v : State} (h : Afresh s u) (hc : Course g bs u v) : Afresh s v := by
  obtain ⟨hscanner, hheater⟩ := course_idle hc h.idle
  have hall : v = _ := hc.baysOnly
  have hafter : ∀ side, v.after (v.alarmSeconds side) = u.after (u.alarmSeconds side) := fun side =>
    (congrArg (fun w : State => w.after (w.alarmSeconds side)) hall).trans rfl
  refine ⟨((congrArg State.clock hall).trans rfl).trans h.clock, ((congrArg State.pins hall).trans rfl).trans h.pins,
    ((congrArg State.store hall).trans rfl).trans h.store, ((congrArg State.config hall).trans rfl).trans h.config,
    ((congrArg State.link hall).trans rfl).trans h.link, ((congrArg State.ka hall).trans rfl).trans h.ka,
    ((congrArg State.kb hall).trans rfl).trans h.kb, ((congrArg State.mains hall).trans rfl).trans h.mains,
    hheater.trans h.heater, hscanner.trans h.scanner, fun d hd => ?_, ?_, ?_, fun d hd => ?_⟩
  · exact ((congrArg (fun w : State => w.latchRecord d) hall).trans rfl).trans (h.records d hd)
  · exact ((congrArg (fun w : State => w.latch.channels) hall).trans rfl).trans h.channels
  · exact ⟨((congrArg (fun w : State => w.latch.stallTimer) hall).trans rfl).trans h.stall.1,
      ((congrArg (fun w : State => w.latch.guard) hall).trans rfl).trans h.stall.2⟩
  · rw [hafter]
    exact ((congrArg (fun w : State => w.door d) hall).trans rfl).trans (h.doors d hd)

/-- The blocks read neither notices nor marks. -/
theorem Afresh.noted {u : State} (h : Afresh s u) (n : BankNotices) (x : Option Bool) (w : Bool) :
    Afresh s { u with bankNotices := n, starting := x, retentionAgrees := w } :=
  ⟨h.clock, h.pins, h.store, h.config, h.link, h.ka, h.kb, h.mains, h.heater, h.scanner, h.records, h.channels, h.stall, h.doors⟩

end Idle

/-! ### The resolution (R20, R21, R38) -/

section Resolution

variable {s : State} {cold : Bool}

/-- The state that a start resolves, up to its notices. -/
def toResolve (s : State) (cold : Bool) : State :=
  if s.startsWarm cold then (begunAfresh s cold).resolveAll else begunAfresh s cold

/-- R20, R38, R198: the bank set once a start's resolution is written. -/
def startNotices (s : State) (cold : Bool) : BankNotices :=
  if s.startsWarm cold then
    { s.bankNotices with warmStart := true, configDefaulted := s.bankNotices.configDefaulted || !s.configurationGood }
  else { BankNotices.empty with coldStart := true, configDefaulted := !s.configurationGood }

theorem defaulted_eq (u : State) (good : Bool) :
    { if good = true then u else u.raiseBank .configDefaulted with retentionAgrees := true } =
      { u with bankNotices := { u.bankNotices with configDefaulted := u.bankNotices.configDefaulted || !good }
               retentionAgrees := true } := by
  cases good with
  | true =>
    rw [if_pos rfl, Bool.not_true, Bool.or_false]
  | false =>
    rw [if_neg Bool.false_ne_true, Bool.not_false, Bool.or_true]
    rfl

theorem resolveAll_bankNotices (u : State) : u.resolveAll.bankNotices = u.bankNotices :=
  (congrArg State.bankNotices (show u.resolveAll = _ from (resolveAll_course (g := ⟨True, False⟩) u id).baysOnly)).trans rfl

theorem resolved_eq (s : State) (cold : Bool) :
    s.resolved cold = { toResolve s cold with bankNotices := startNotices s cold, retentionAgrees := true } := by
  unfold State.resolved toResolve startNotices
  cases h : s.startsWarm cold with
  | true =>
    simp only [if_true]
    rw [begunAfresh_warm h, defaulted_eq, State.warmRestart, State.raiseBank]
    dsimp only
    rw [resolveAll_bankNotices]
    simp only [State.startBlocks, State.readSwitches, State.chooseConfiguration, BankNotices.raise]
  | false =>
    simp only [Bool.false_eq_true, if_false]
    rw [begunAfresh_cold h, defaulted_eq, State.coldStart, State.raiseBank]
    simp only [State.startBlocks, State.readSwitches, State.emptyRecords, BankNotices.raise, BankNotices.empty, Bool.false_or]

theorem toResolve_afresh (s : State) (cold : Bool) : Afresh s (toResolve s cold) := by
  unfold toResolve
  split
  · exact (begunAfresh_afresh s cold).course (resolveAll_course (g := ⟨True, False⟩) _ id)
  · exact begunAfresh_afresh s cold

theorem toResolve_latch (s : State) (cold : Bool) : (toResolve s cold).latch = (begunAfresh s cold).latch := by
  unfold toResolve
  split
  · exact resolveAll_latch _
  · rfl

end Resolution

end Sys2Proof.Starts
end

section

-- One proof at a time: the proofs here together ask for more threads than the memory limit leaves room for.
set_option Elab.async false

/-! The end of a start: the relock sweep and the expiries already reached (R22, R152, R207). -/

namespace Sys2Proof.Starts

open Sys2Proof Sys2Proof.Machine Sys2Proof.Courses Sys2Proof.Acts Sys2Proof.Latches Sys2Proof.Expiries

/-! ### The expiries already reached (R22) -/

section Reached

variable {s : State} {b : Nat}

theorem takeReached_onlyBays (s : State) (b : Nat) : OnlyBays s (s.takeReached b) [b] :=
  (takeReached_course (g := ⟨True, False⟩) False.elim).onlyBays

theorem takePreheatStart_latch : (s.takePreheatStart b).latch = s.latch := by
  unfold State.takePreheatStart State.preheatIfReached
  split
  · split
    · exact changeBay_latch s b _
    · rfl
  · rfl

theorem takeLapse_latch : (s.takeLapse b).latch = s.latch := by
  unfold State.takeLapse
  split
  · exact lapse_latch
  · rfl

theorem takeDeadline_latch (h : (s.bay b).state ≠ .releasing) : (s.takeDeadline b).latch = s.latch := by
  unfold State.takeDeadline
  split
  · exact (congrArg State.latch (if_neg h)).trans (enterWithdrawn_latch s b _)
  · rfl

/-- What the three expiries do to a record that is not timed. -/
structure Untimed (r : Bay) : Prop where
  timer : r.timer = none
  clearing : r.clearing = false

theorem takePreheatStart_record (hb : b < 48) : (s.takePreheatStart b).bay b = s.bay b ∨ (s.bay b).state = .booked ∧
    (s.takePreheatStart b).bay b = { s.bay b with state := .preheating, preheatStart := none, lastTemp := none, demand := 16 } := by
  unfold State.takePreheatStart State.preheatIfReached
  split
  · next h =>
    split
    · refine .inr ⟨h, ?_⟩
      rw [enterPreheating_eq h]
      exact State.setBay_bay_self s b _ hb
    · exact .inl rfl
  · exact .inl rfl

theorem takeLapse_record : s.takeLapse b = s ∨ (s.takeLapse b) = s.lapse b := by
  unfold State.takeLapse
  split
  · exact .inr rfl
  · exact .inl rfl

theorem lapse_untimed (hb : b < 48) (h : Untimed (s.bay b)) :
    Untimed ((s.lapse b).bay b) ∧ ((s.lapse b).bay b).state ≠ .releasing := by
  rw [(lapse_retired hb).record]
  refine ⟨⟨if_neg (by rw [h.clearing]; exact Bool.false_ne_true), h.clearing⟩, ?_⟩
  dsimp only
  split <;> decide

theorem takeDeadline_untimed (hb : b < 48) (h : Untimed (s.bay b)) : Untimed ((s.takeDeadline b).bay b) := by
  unfold State.takeDeadline
  split
  · next hw =>
    rw [Bool.and_eq_true] at hw
    rw [(Completions.withdrawHeld_withdrawn .deadline (watchesDeadline_iff.mp hw.1)).record]
    exact ⟨rfl, h.clearing⟩
  · exact h

/-- The bay before its deadline is looked at. -/
theorem takeLapse_untimed (hb : b < 48) (h : Untimed (s.bay b)) (hr : (s.bay b).state ≠ .releasing) :
    Untimed (((s.takePreheatStart b).takeLapse b).bay b) ∧ (((s.takePreheatStart b).takeLapse b).bay b).state ≠ .releasing := by
  have hpre : Untimed ((s.takePreheatStart b).bay b) ∧ ((s.takePreheatStart b).bay b).state ≠ .releasing := by
    obtain heq | ⟨-, heq⟩ := takePreheatStart_record (s := s) hb
    · rw [heq]
      exact ⟨h, hr⟩
    · rw [heq]
      exact ⟨⟨h.timer, h.clearing⟩, fun hn => nomatch hn⟩
  obtain heq | heq := takeLapse_record (s := s.takePreheatStart b) (b := b)
  · rw [heq]
    exact hpre
  · rw [heq]
    exact lapse_untimed hb hpre.1

theorem takeReached_untimed (hb : b < 48) (h : Untimed (s.bay b)) (hr : (s.bay b).state ≠ .releasing) :
    Untimed ((s.takeReached b).bay b) := takeDeadline_untimed hb (takeLapse_untimed hb h hr).1

theorem takeReached_latch (hb : b < 48) (h : Untimed (s.bay b)) (hr : (s.bay b).state ≠ .releasing) :
    (s.takeReached b).latch = s.latch :=
  (takeDeadline_latch (takeLapse_untimed hb h hr).2).trans (takeLapse_latch.trans takePreheatStart_latch)

/-- A bay that watches none of the expiries. -/
theorem takeReached_same (hbooked : (s.bay b).state ≠ .booked) (hlapse : (s.bay b).state.watchesLapse = false)
    (hdeadline : (s.bay b).state.watchesDeadline = false ∨ s.reached (s.bay b).deadline = false) : s.takeReached b = s := by
  have hpre : s.takePreheatStart b = s := if_neg hbooked
  have hlap : s.takeLapse b = s := if_neg (by rw [hlapse]; exact Bool.false_ne_true)
  unfold State.takeReached
  rw [hpre, hlap]
  refine if_neg ?_
  rw [Bool.and_eq_true]
  rintro ⟨hw, hre⟩
  obtain h | h := hdeadline
  · rw [h] at hw
    cases hw
  · rw [h] at hre
    cases hre

theorem takeAllReached_latch {bs : List Nat} (distinct : bs.Nodup) (within : ∀ b ∈ bs, b < 48)
    (h : ∀ b ∈ bs, Untimed (s.bay b) ∧ (s.bay b).state ≠ .releasing) : (s.forBays bs State.takeReached).latch = s.latch := by
  induction bs generalizing s with
  | nil => rfl
  | cons b bs ih =>
    obtain ⟨hb, hdistinct⟩ := List.nodup_cons.mp distinct
    obtain ⟨hu, hr⟩ := h b (List.mem_cons_self ..)
    refine (ih hdistinct (fun c hc => within c (List.mem_cons_of_mem _ hc)) fun c hc => ?_).trans
      (takeReached_latch (within b (List.mem_cons_self ..)) hu hr)
    rw [((takeReached_onlyBays s b).2.1 c (by simp only [List.mem_singleton]; exact fun he => hb (he ▸ hc))).record]
    exact h c (List.mem_cons_of_mem _ hc)

end Reached

/-! ### The bays resolved (R21) -/

section Resolved

variable {s : State} {b : Nat}

/-- A bay resolved is neither timed nor RELEASING. -/
theorem resolveBay_untimed (hb : b < 48) : Untimed ((s.resolveBay b).bay b) ∧ ((s.resolveBay b).bay b).state ≠ .releasing := by
  have kept : (s.bay b).state ≠ .releasing → Untimed ((retainedAt s b).bay b) ∧ ((retainedAt s b).bay b).state ≠ .releasing := fun h => by
    rw [retainedAt_bay hb]
    exact ⟨⟨rfl, rfl⟩, h⟩
  cases hst : (s.bay b).state with
  | vacant | booked | withdrawn | outOfService =>
    rw [resolveBay_kept hb (by simp [hst])]
    exact kept (by rw [hst]; decide)
  | preheating | ready =>
    rw [resolveBay_heated hb (by simp [hst]), State.setBay_bay_self _ b _ hb]
    exact ⟨⟨rfl, rfl⟩, by rw [show ({ (s.bay b).retained with demand := 16 } : Bay).state = _ from hst]; decide⟩
  | loading =>
    cases ho : (s.bay b).rearOpened with
    | true =>
      rw [resolveBay_opened hb hst ho, State.enterWithdrawn_bay_self _ b _ hb, retainedAt_bay hb]
      exact ⟨⟨rfl, rfl⟩, by simp [Bay.withdrawnFor]⟩
    | false =>
      rw [resolveBay_unopened hb hst ho, State.changeBay_bay_self _ b _ hb, retainedAt_bay hb]
      exact ⟨⟨rfl, rfl⟩, by simp⟩
  | holding | releasing =>
    rw [(resolveBay_held hb (by simp [hst])).1]
    exact ⟨⟨rfl, rfl⟩, by simp [heldAgain]⟩
  | collecting =>
    cases hd : (s.door (2 * b)).closed with
    | true =>
      rw [resolveBay_collected hb hst hd,
        (sendToVacant_retired (s := (retainedAt s b).raiseBay b .collected) hb).record]
      have hbay : ((retainedAt s b).raiseBay b .collected).bay b = (s.bay b).retained := retainedAt_bay hb
      rw [hbay]
      refine ⟨⟨rfl, rfl⟩, ?_⟩
      dsimp only
      split <;> decide
    | false =>
      rw [resolveBay_collecting hb hst hd]
      exact kept (by rw [hst]; decide)

theorem allBays_nodup : allBays.Nodup := List.nodup_range

theorem mem_allBays : b ∈ allBays ↔ b < 48 := List.mem_range

/-- What the resolution of all bays leaves of one of them. -/
theorem resolveAll_at (hb : b < 48) (s : State) :
    ∃ v : State, v.bay b = s.bay b ∧ v.config = s.config ∧ s.resolveAll.bay b = (v.resolveBay b).bay b := by
  obtain ⟨v, hall, hkept, hleft⟩ := Cancelling.forBays_at
    (fun s b => (resolveBay_course (g := ⟨True, False⟩) (s := s) (b := b) id).onlyBays) allBays_nodup (mem_allBays.mpr hb) s
  exact ⟨v, hkept.record, (congrArg State.config (show v = _ from hall)).trans rfl, hleft.record⟩

theorem takeAllReached_at (hb : b < 48) (s : State) :
    ∃ v : State, v.bay b = s.bay b ∧ v.bankTime = s.bankTime ∧ s.takeAllReached.bay b = (v.takeReached b).bay b := by
  obtain ⟨v, hall, hkept, hleft⟩ := Cancelling.forBays_at takeReached_onlyBays allBays_nodup (mem_allBays.mpr hb) s
  exact ⟨v, hkept.record, (congrArg State.bankTime (show v = _ from hall)).trans rfl, hleft.record⟩

end Resolved

/-! ### The end of the start -/

section Ended

variable {s : State} {cold : Bool}

theorem relockSweep_eq_withLatch (s : State) : s.relockSweep = withLatch s s.relockSweep.latch := by
  suffices ∀ (l : List Nat) (u : State), ∃ x, l.foldl (fun s d => if (s.door d).closed then s.requestLock d else s) u = withLatch u x by
    obtain ⟨x, hx⟩ := this (List.range 96) s
    rw [State.relockSweep, hx]
    rfl
  intro l
  induction l with
  | nil => exact fun u => ⟨u.latch, rfl⟩
  | cons d l ih =>
    intro u
    rw [List.foldl_cons]
    split
    · obtain ⟨x, hx⟩ := ih (u.requestLock d)
      exact ⟨x, hx.trans (by rw [requestLock_eq_withLatch]; rfl)⟩
    · exact ih u

/-- The records and latches at the end of a start, its mark still standing. -/
def ended (s : State) (cold : Bool) : State :=
  if s.startsWarm cold then (s.resolved cold).relockSweep.takeAllReached else (s.resolved cold).relockSweep

theorem endStart_eq (s : State) (cold : Bool) : s.endStart cold = { ended s cold with starting := none } := rfl

theorem ended_course (s : State) (cold : Bool) : Course ⟨True, False⟩ allBays (s.resolved cold) (ended s cold) := by
  unfold ended
  split
  · exact (relockSweep_course _).trans (takeAllReached_course _ False.elim)
  · exact relockSweep_course _

theorem resolved_afresh (s : State) (cold : Bool) : Afresh s (s.resolved cold) := by
  rw [resolved_eq]
  exact (toResolve_afresh s cold).noted _ _ _

theorem endStart_afresh (s : State) (cold : Bool) : Afresh s (s.endStart cold) := by
  rw [endStart_eq]
  exact ((resolved_afresh s cold).course (ended_course s cold)).noted _ _ _

/-- What a start keeps or sets outside bays and blocks. -/
structure Retaken (s u : State) (cold : Bool) : Prop where
  bankTime : u.bankTime = if s.startsWarm cold then s.bankTime else 0
  lockedOut : u.lockedOut = if s.startsWarm cold then s.lockedOut else Vector.replicate 12 false
  notices : u.bankNotices = startNotices s cold
  agrees : u.retentionAgrees = true
  pending : u.pending = s.pending

theorem begunAfresh_retaken (s : State) (cold : Bool) :
    (begunAfresh s cold).bankTime = (if s.startsWarm cold then s.bankTime else 0) ∧
    (begunAfresh s cold).lockedOut = (if s.startsWarm cold then s.lockedOut else Vector.replicate 12 false) ∧
    (begunAfresh s cold).pending = s.pending := by
  cases h : s.startsWarm cold with
  | true =>
    rw [begunAfresh_warm h]
    simp only [State.startBlocks, State.readSwitches, State.chooseConfiguration, if_true, and_self]
  | false =>
    rw [begunAfresh_cold h]
    simp only [State.startBlocks, State.readSwitches, State.emptyRecords, State.chooseConfiguration, Bool.false_eq_true, if_false, and_self]

theorem toResolve_baysOnly (s : State) (cold : Bool) : BaysOnly (begunAfresh s cold) (toResolve s cold) := by
  unfold toResolve
  split
  · exact (resolveAll_course (g := ⟨True, False⟩) _ id).baysOnly
  · exact BaysOnly.refl _

theorem resolved_retaken (s : State) (cold : Bool) : Retaken s (s.resolved cold) cold := by
  have hall : toResolve s cold = _ := toResolve_baysOnly s cold
  obtain ⟨h1, h2, h3⟩ := begunAfresh_retaken s cold
  rw [resolved_eq]
  generalize toResolve s cold = v at *
  generalize begunAfresh s cold = u at *
  exact ⟨((congrArg State.bankTime hall).trans rfl).trans h1, ((congrArg State.lockedOut hall).trans rfl).trans h2, rfl, rfl,
    ((congrArg State.pending hall).trans rfl).trans h3⟩

theorem endStart_retaken (s : State) (cold : Bool) : Retaken s (s.endStart cold) cold := by
  have hall : ended s cold = _ := (ended_course s cold).baysOnly
  obtain ⟨h1, h2, h3, h4, h5⟩ := resolved_retaken s cold
  rw [endStart_eq]
  generalize ended s cold = v at *
  generalize s.resolved cold = u at *
  exact ⟨((congrArg State.bankTime hall).trans rfl).trans h1, ((congrArg State.lockedOut hall).trans rfl).trans h2,
    ((congrArg State.bankNotices hall).trans rfl).trans h3, ((congrArg State.retentionAgrees hall).trans rfl).trans h4,
    ((congrArg State.pending hall).trans rfl).trans h5⟩

/-- R20: a cold start empties the records. -/
theorem endStart_cold (h : s.startsWarm cold = false) :
    (s.endStart cold).directory = { entries := [], generation := 0 } ∧ (∀ b < 48, (s.endStart cold).bay b = Bay.empty) ∧
      ∀ b < 48, (s.endStart cold).notices b = BayNotices.empty := by
  have hended : ended s cold = (s.resolved cold).relockSweep := if_neg (by rw [h]; exact Bool.false_ne_true)
  have hresolve : toResolve s cold = begunAfresh s cold := if_neg (by rw [h]; exact Bool.false_ne_true)
  rw [endStart_eq, hended, relockSweep_eq_withLatch, resolved_eq, hresolve, begunAfresh_cold h]
  generalize (State.relockSweep _).latch = l
  have hdirectory : s.chooseConfiguration.emptyRecords.readSwitches.startBlocks.directory = { entries := [], generation := 0 } := by
    simp only [State.startBlocks, State.readSwitches, State.emptyRecords]
  have hbays : s.chooseConfiguration.emptyRecords.readSwitches.startBlocks.bays = Vector.replicate 48 Bay.empty := by
    simp only [State.startBlocks, State.readSwitches, State.emptyRecords]
  have hnotices : s.chooseConfiguration.emptyRecords.readSwitches.startBlocks.bayNotices = Vector.replicate 48 BayNotices.empty := by
    simp only [State.startBlocks, State.readSwitches, State.emptyRecords]
  generalize s.chooseConfiguration.emptyRecords.readSwitches.startBlocks = u at *
  refine ⟨hdirectory, fun b hb => ?_, fun b hb => ?_⟩
  · simp [State.bay, withLatch, hbays, Vector.getD, hb]
  · simp [State.notices, withLatch, hnotices, Vector.getD, hb]

/-- R21, R22: a bay at the end of a warm restart: resolved as R21 gives, then its expiries already reached. -/
theorem endStart_bay (h : s.startsWarm cold = true) {b : Nat} (hb : b < 48) : ∃ v w : State, v.bay b = s.bay b ∧
    v.config = chosen s ∧ w.bay b = (v.resolveBay b).bay b ∧ w.bankTime = s.bankTime ∧
    (s.endStart cold).bay b = (w.takeReached b).bay b := by
  have hended : ended s cold = (s.resolved cold).relockSweep.takeAllReached := if_pos h
  have hresolve : toResolve s cold = (begunAfresh s cold).resolveAll := if_pos h
  obtain ⟨v, hv, hconfig, hresolved⟩ := resolveAll_at hb (begunAfresh s cold)
  obtain ⟨w, hw, htime, hreached⟩ := takeAllReached_at hb (s.resolved cold).relockSweep
  have hbay : (begunAfresh s cold).bay b = s.bay b := by
    rw [begunAfresh_warm h]
    simp only [State.bay, State.startBlocks, State.readSwitches, State.chooseConfiguration]
  refine ⟨v, w, hv.trans hbay, hconfig.trans (begunAfresh_afresh s cold).config, ?_, ?_, ?_⟩
  · rw [hw, relockSweep_eq_withLatch, withLatch_bay, ← hresolved, resolved_eq, hresolve]
    generalize (begunAfresh s cold).resolveAll = x
    rfl
  · rw [htime, relockSweep_eq_withLatch]
    exact ((resolved_retaken s cold).bankTime).trans (if_pos h)
  · rw [← hended] at hreached
    rw [endStart_eq]
    generalize ended s cold = x at *
    exact hreached

/-- R152: the latch requests at the end of a start. -/
theorem endStart_queue (s : State) (cold : Bool) :
    ∃ n, (s.endStart cold).latch.queue = lockRequests n ((List.range 96).filter fun d => s.pins.switches.getD d true) := by
  have hfresh := begunAfresh_fresh s cold
  have hlatch : (s.resolved cold).latch = (begunAfresh s cold).latch := by
    rw [resolved_eq]
    exact toResolve_latch s cold
  have hswept := relockSweep_latch (s := s.resolved cold)
    (fun d hd => (latchPosition_congr hlatch d).trans (hfresh.records d hd)) ((congrArg LatchArbiter.queue hlatch).trans hfresh.queue)
  have hdoors : ((List.range 96).filter fun d => ((s.resolved cold).door d).closed) =
      (List.range 96).filter fun d => s.pins.switches.getD d true :=
    List.filter_congr fun d hd => by rw [(resolved_afresh s cold).doors d (List.mem_range.mp hd)]
  have hended : (ended s cold).latch = (s.resolved cold).relockSweep.latch := by
    unfold ended
    split
    · next h =>
      refine takeAllReached_latch allBays_nodup (fun b hb => mem_allBays.mp hb) fun b hb => ?_
      obtain ⟨v, -, -, hresolved⟩ := resolveAll_at (mem_allBays.mp hb) (begunAfresh s cold)
      have hbay : (s.resolved cold).relockSweep.bay b = (v.resolveBay b).bay b := by
        rw [relockSweep_eq_withLatch, withLatch_bay, ← hresolved, resolved_eq, toResolve, if_pos h]
        generalize (begunAfresh s cold).resolveAll = x
        rfl
      rw [hbay]
      exact resolveBay_untimed (mem_allBays.mp hb)
    · rfl
  refine ⟨(s.resolved cold).latch.nextArrival, ?_⟩
  rw [endStart_eq, ← hdoors]
  exact (congrArg LatchArbiter.queue (hended.trans hswept)).trans rfl

end Ended

end Sys2Proof.Starts
end

section

-- One proof at a time: the proofs here together ask for more threads than the memory limit leaves room for.
set_option Elab.async false

/-! The supplies' rows (R198, R205 to R207), and RESTART (R192). -/

namespace Sys2Proof.Starts

open Sys2Proof Sys2Proof.Machine Sys2Proof.Courses Sys2Proof.Acts Sys2Proof.Latches

/-! ### A row that comes during a start (R207, log 15) -/

section Awake

variable {s : State}

theorem receiveCommand_awake (s : State) (broadcast : Bool) (c : Command) :
    s.receiveCommand broadcast c = s.awake.receiveCommand broadcast c := (s.whenRunning_awake _).symm

/-- R189: a server command's row is the arrival of its frame. -/
theorem exec_arrives {i : Instr} {c : Command} (hw : i.wellFormed = true) (hc : Instr.serverCommand i = some c) (s : State) :
    exec i s = .next (s.receiveCommand false c) := by
  have fits : ∀ (b : Bool) (t : State), b = true → nextIf b s t = .next t := fun b t h => by rw [h]; rfl
  cases i with
  | book ref code slots offset =>
    cases hc
    have hlength : ¬ 48 < slots.length := by
      simp only [Instr.wellFormed, Bool.and_eq_true, decide_eq_true_eq] at hw
      omega
    exact (if_neg hlength).trans (fits _ _ hw)
  | configure bs =>
    cases hc
    exact congrArg _ (if_pos (by simpa [Instr.wellFormed] using hw))
  | profileWrite n bs =>
    cases hc
    simp only [Instr.wellFormed, Bool.and_eq_true] at hw
    exact (fits _ _ hw.1).trans (congrArg _ (if_pos (by simpa using hw.2)))
  | unknownCommand c =>
    cases hc
    refine congrArg _ (if_neg ?_)
    simpa [Instr.wellFormed] using hw
  | restart broadcast option => cases broadcast <;> cases hc; exact fits _ _ hw
  | amendNewCode | amendExtend | amendNewLoad | cancel | load | clear | openOrder | lockout | restore | query | scan | status | profileRead =>
    cases hc
    exact fits _ _ hw
  | _ => cases hc

/-- R207: a row that is no supply event is taken from the moment the start has ended. -/
theorem exec_awake {i : Instr} (hw : i.wellFormed = true) (hs : Instr.isSupply i = false) : exec i s = exec i s.awake := by
  have fits : ∀ {b : Bool} {t u : State}, b = true → t = u → nextIf b s t = nextIf b s.awake u := fun hb h => by rw [hb, h]; rfl
  cases hc : Instr.serverCommand i with
  | some c => rw [exec_arrives hw hc, exec_arrives hw hc, receiveCommand_awake]
  | none =>
    cases i with
    | powerOn | resetnLow | resetnRelease | lossOfVdd | lossOfVret => cases hs
    | book | amendNewCode | amendExtend | amendNewLoad | cancel | load | clear | openOrder | lockout | restore | query | scan | status
    | configure | profileWrite | profileRead | unknownCommand => cases hc
    | restart broadcast option => exact fits hw (receiveCommand_awake s broadcast _)
    | linkAddressCharacter _ t | linkDataCharacter _ _ t | frameEnd _ _ t | frameGapTimeout t | replySend t | replyDone t | latchGrant t
    | stallTimerExpiry t | passPeriodExpiry t | settlingConversionEnd t | zcCrossing t | absenceWatchExpiry t | storeWriteComplete t =>
      exact congrArg Host.Outcome.next (s.whenRunningAt_awake t _).symm
    | kioskCharacter | kioskEntry | kioskFrameTimeout | kioskReplyDone | bankTimeTick =>
      exact congrArg Host.Outcome.next (s.whenRunning_awake _).symm
    | doorOpened _ t | doorClosed _ t | unlockPulseEnd _ t | lockPulseEnd _ t | keptConversionEnd _ t =>
      exact fits hw (s.whenRunningAt_awake t _).symm
    | doorAlarmExpiry | preheatStartExpiry | lapseExpiry | loadWindowExpiry | deadlineExpiry | releaseTimerExpiry | clearingWindowExpiry =>
      exact fits hw (s.whenRunning_awake _).symm
    | doorSwitchChange d closed t =>
      refine fits hw ?_
      rw [s.awake_awake]

theorem awake_starting {cold : Bool} (hp : s.powered = true) (h : s.starting = some cold) : s.awake = s.endStart cold := by
  rw [State.awake, h]
  exact if_pos hp

theorem endStart_running {cold : Bool} (hp : s.powered = true) : (s.endStart cold).running = true := by
  have hpins := (endStart_afresh s cold).pins
  refine Bool.and_eq_true_iff.mpr ⟨?_, rfl⟩
  rw [State.powered, hpins]
  exact hp

end Awake

/-! ### What a start leaves, in the words of the statements -/

section Left

variable {s v : State} {cold : Bool}

theorem startsWarm_iff : s.startsWarm cold = true ↔ cold = false ∧ s.retentionAgrees = true := by
  rw [State.startsWarm, Bool.and_eq_true, Bool.not_eq_true']
  exact and_comm

/-- R20, R21, R38: the retained contents after a start. -/
theorem endStart_summary (s : State) (cold : Bool) :
    if cold = false ∧ s.retentionAgrees = true then
      (s.endStart cold).bankNotices.warmStart = true ∧ (s.endStart cold).bankTime = s.bankTime
    else (s.endStart cold).bankNotices.coldStart = true ∧ (s.endStart cold).bankTime = 0 ∧
      (s.endStart cold).directory = { entries := [], generation := 0 } ∧
      ∀ b < 48, (s.endStart cold).bay b = Bay.empty ∧ (s.endStart cold).notices b = BayNotices.empty := by
  obtain ⟨htime, -, hnotices, -, -⟩ := endStart_retaken s cold
  by_cases h : cold = false ∧ s.retentionAgrees = true
  · have hwarm := startsWarm_iff.mpr h
    rw [if_pos h, hnotices, htime, startNotices, hwarm]
    exact ⟨rfl, rfl⟩
  · have hcold : s.startsWarm cold = false := Bool.eq_false_iff.mpr fun hw => h (startsWarm_iff.mp hw)
    obtain ⟨hdirectory, hbays, hempty⟩ := endStart_cold hcold
    rw [if_neg h, hnotices, htime, startNotices, hcold]
    exact ⟨rfl, rfl, hdirectory, fun b hb => ⟨hbays b hb, hempty b hb⟩⟩

end Left

end Sys2Proof.Starts
end

section

-- One proof at a time: the proofs here together ask for more threads than the memory limit leaves room for.
set_option Elab.async false

/-! RESTART (R192), POWER_ON, RESETN_RELEASE and LOSS_OF_VRET (R205 to R207). -/

namespace Sys2Proof.Starts

open Sys2Proof Sys2Proof.Machine Sys2Proof.Courses Sys2Proof.Acts Sys2Proof.Latches Sys2Proof.Frames

/-! ### RESTART -/

section Restart

variable {s x : State} {cold : Bool}

theorem running_powered (h : s.running = true) : s.powered = true := (Bool.and_eq_true_iff.mp h).1

theorem beginStart_pins : (s.beginStart cold).pins = s.pins := by
  simp only [State.beginStart, State.startBlocks, loseWrite_pins]

theorem sameRetained_trans {s t u : State} (h : SameRetained s t) (h' : SameRetained t u) : SameRetained s u := by
  obtain ⟨h1, h2, h3, h4, h5, h6⟩ := h
  obtain ⟨g1, g2, g3, g4, g5, g6⟩ := h'
  exact ⟨g1.trans h1, g2.trans h2, g3.trans h3, g4.trans h4, g5.trans h5, g6.trans h6⟩

/-- R192, R206, R207: a start begun from `x`, which holds what `s` holds in Retention Memory, and its end at the next step on an empty
queue. -/
theorem restarts_of_begun (hr : x.running = true) (same : SameRetained s x) (agrees : x.retentionAgrees = s.retentionAgrees) :
    (x.beginStart cold).starting = some cold ∧ (x.beginStart cold).running = false ∧ SameRetained s (x.beginStart cold) ∧
    (x.beginStart cold).link.queue = [] ∧ (x.beginStart cold).link.reply = none ∧ (x.beginStart cold).link.sending = none ∧
    ∃ u, step { x.beginStart cold with pending := [] } = .next u ∧ u.running = true ∧
      (if cold = false ∧ s.retentionAgrees = true then u.bankNotices.warmStart = true ∧ u.bankTime = s.bankTime
       else u.bankNotices.coldStart = true ∧ u.bankTime = 0 ∧ u.directory = { entries := [], generation := 0 } ∧
         ∀ b < 48, u.bay b = Bay.empty ∧ u.notices b = BayNotices.empty) := by
  have hsame : SameRetained s (x.beginStart cold) := sameRetained_trans same beginStart_retained
  have hlink := beginStart_link (s := x) (cold := cold)
  have hstarting := beginStart_starting (s := x) (cold := cold)
  have hpins := beginStart_pins (s := x) (cold := cold)
  have hagrees := (Acts.beginStart_agrees x cold).trans agrees
  refine ⟨hstarting, beginStart_running _, hsame, congrArg OrderLink.queue hlink, congrArg OrderLink.reply hlink,
    congrArg OrderLink.sending hlink, ?_⟩
  generalize x.beginStart cold = t at *
  have hpowered : ({ t with pending := [] } : State).powered = true := by
    have hx := running_powered hr
    rw [State.powered, ← hpins] at hx
    exact hx
  refine ⟨_, congrArg Host.Outcome.next (awake_starting hpowered hstarting), endStart_running hpowered, ?_⟩
  rw [← hagrees, ← hsame.bankTime]
  exact endStart_summary { t with pending := [] } cold

theorem receiveCommand_broadcast (hs : s.AtRest) (c : Command) :
    s.receiveCommand true c = s.heard.serveFrames [{ broadcast := true, command := c }] := by
  rw [State.receiveCommand, s.whenRunning_of_running _ hs.running, State.whenListening_of_silent _ _ (by simp [State.transmits, hs.silent])]
  dsimp only
  rw [s.heard.abandonFrame_asleep hs.asleep]
  exact (if_neg fun h => nomatch h.1).trans (offerFrame_empty (s := s.heard) hs.empty)

theorem exec_restart_broadcast {o : Nat} (hs : s.AtRest) (ho : o < 256) :
    exec (.restart true o) s = .next (s.heard.serveFrames [{ broadcast := true, command := .restart o }]) := by
  have hw : (Instr.restart true o).wellFormed = true := by simpa [Instr.wellFormed] using ho
  rw [← receiveCommand_broadcast hs]
  exact congrArg Host.Outcome.next (if_pos hw)

theorem restartAnswered_some {o : Nat} {r : Reply} (hreply : s.link.reply = some r) (hdone : r.result = .done)
    (hq : s.link.queue.head? = some { broadcast := false, command := .restart o }) :
    s.link.restartAnswered = some (decide (o = 1)) := by
  rw [OrderLink.restartAnswered, hq, hreply, Option.map_some, Option.map_some, hdone]

end Restart

/-- Settles O14: UNKNOWN_COMMAND and the misfit, RESTART addressed and broadcast, and the start after its reply. -/
theorem unknownAndRestart : Obligations.UnknownAndRestart := by
  unfold Obligations.UnknownAndRestart
  intro restarts
  refine ⟨fun s c hs => ⟨fun h => ?_, fun h => ?_⟩, fun s o hs ho => ⟨?_, fun h => ?_, fun h => ?_⟩,
    fun s o t e hr he hle ho => ⟨fun r hreply hdone hq => ?_, fun f rest hf hq => ?_⟩⟩
  · exact Commands.exec_refused (c := .unknown c) rfl hs (by simpa [Instr.wellFormed] using h) rfl
  · rw [show exec (.unknownCommand c) s = .next (s.receiveMisfit c 1) from congrArg _ (if_pos h),
      Commands.receiveMisfit_short hs (by omega)]
  · have hw : (Instr.restart false o).wellFormed = true := by simpa [Instr.wellFormed] using ho
    by_cases h : o ≤ 1
    · rw [if_pos h]
      exact Commands.exec_served (c := .restart o) (u := s.joined (.restart o)) rfl hs hw (if_neg (Nat.not_lt.mpr h)) rfl
    · rw [if_neg h]
      exact Commands.exec_refused (c := .restart o) rfl hs hw (if_pos (Nat.not_le.mp h))
  · refine ⟨_, exec_restart_broadcast hs ho, ?_⟩
    rw [serveFrames_restart h]
    exact restarts_of_begun (x := s.heard) hs.running ⟨rfl, rfl, rfl, rfl, rfl, rfl⟩ rfl
  · rw [exec_restart_broadcast hs ho, serveFrames_badRestart h]
    exact congrArg _ (serveFrames_nil (s := { s.heard with link := s.heard.link.noteBroadcast }) hs.empty)
  · have hexec := (exec_replyDone (t := t) hr he).trans (congrArg Host.Outcome.next (if_pos hle))
    refine ⟨_, hexec, ?_⟩
    rw [State.finishReply, show (s.advance t).link.restartAnswered = _ from restartAnswered_some hreply hdone hq]
    exact restarts_of_begun (x := s.advance t) hr ⟨rfl, rfl, rfl, rfl, rfl, rfl⟩ rfl
  · have hexec := (exec_replyDone (t := t) hr he).trans (congrArg Host.Outcome.next (if_pos hle))
    refine ⟨_, hexec, ?_⟩
    rw [finishReply_next (s := s.advance t) hq hf, serveFrames_restart ho]
    exact restarts_of_begun (x := replyGone (s.advance t)) hr ⟨rfl, rfl, rfl, rfl, rfl, rfl⟩ rfl

/-! ### POWER_ON and RESETN_RELEASE -/

section Power

variable {s v : State}

theorem attn_eq_true_iff (vdd : s.pins.vdd = true) :
    s.attn = true ↔ s.bankNotices ≠ BankNotices.empty ∨ ∃ b < 48, s.notices b ≠ BayNotices.empty := by
  have hbays : (s.bayNotices.toList.any fun n => !n.isEmpty) = true ↔ ∃ b < 48, s.notices b ≠ BayNotices.empty := by
    rw [List.any_eq_true]
    constructor
    · rintro ⟨n, hn, hne⟩
      obtain ⟨b, hb, rfl⟩ := List.getElem_of_mem hn
      have hlt : b < 48 := by simpa using hb
      refine ⟨b, hlt, ?_⟩
      simpa [State.notices, Vector.getD, hlt, BayNotices.isEmpty] using hne
    · rintro ⟨b, hlt, hne⟩
      refine ⟨s.bayNotices.toList[b]'(by simpa using hlt), List.getElem_mem _, ?_⟩
      simpa [State.notices, Vector.getD, hlt, BayNotices.isEmpty] using hne
  rw [State.attn, vdd, Bool.true_and, Bool.or_eq_true, hbays]
  simp [BankNotices.isEmpty]

/-- R38: the start's notice stands. -/
theorem endStart_attn {cold : Bool} (vdd : s.pins.vdd = true) : (s.endStart cold).attn = true := by
  have hpins := (endStart_afresh s cold).pins
  refine (attn_eq_true_iff (by rw [hpins]; exact vdd)).mpr (.inl ?_)
  rw [(endStart_retaken s cold).notices, startNotices]
  intro h
  split at h
  · exact absurd (congrArg BankNotices.warmStart h) (by simp [BankNotices.empty])
  · exact absurd (congrArg BankNotices.coldStart h) (by simp [BankNotices.empty])

/-- R206: with no store write in flight a start begun changes no record of the store. -/
theorem beginStart_idle {cold : Bool} (hw : s.store.write = none) :
    (s.beginStart cold).store = s.store ∧ (s.beginStart cold).pending = s.pending ∧ (s.beginStart cold).clock = s.clock := by
  have hlose : s.loseWrite = s := by
    unfold State.loseWrite
    rw [hw]
  simp only [State.beginStart, hlose, State.startBlocks, and_self]

/-- What a warm restart has left of the bays. -/
theorem warm_bays (h : s.startsWarm false = true) :
    (∀ b < 48, ((s.endStart false).bay b).timer = none ∧ ((s.endStart false).bay b).clearing = false) ∧
    (∀ b < 48, (s.bay b).state = .withdrawn →
      (s.endStart false).bay b = { s.bay b with lastTemp := none, timer := none, clearing := false }) ∧
    (∀ b < 48, ∀ d, (s.bay b).state = .holding ∨ (s.bay b).state = .releasing → (s.bay b).deadline = some d → s.bankTime < d →
      (s.endStart false).bay b = { s.bay b with
        state := .holding, lastTemp := none, timer := none, clearing := false, demand := 16
        restartPenaltyPending := (chosen s).restartPenalty }) := by
  refine ⟨fun b hb => ?_, fun b hb hst => ?_, fun b hb d hst hd hlt => ?_⟩
  · obtain ⟨v, w, hv, -, hw, -, hend⟩ := endStart_bay h hb
    obtain ⟨hu, hr⟩ := resolveBay_untimed (s := v) hb
    rw [hend]
    have := takeReached_untimed (s := w) hb (by rw [hw]; exact hu) (by rw [hw]; exact hr)
    exact ⟨this.timer, this.clearing⟩
  · obtain ⟨v, w, hv, -, hw, -, hend⟩ := endStart_bay h hb
    have hkept : w.bay b = (s.bay b).retained := by
      rw [hw, resolveBay_kept hb (by rw [hv]; simp [hst]), retainedAt_bay hb, hv]
    have hstate : (w.bay b).state = .withdrawn := by rw [hkept]; exact hst
    rw [hend, takeReached_same (by rw [hstate]; decide) (by rw [hstate]; rfl) (.inl (by rw [hstate]; rfl)), hkept]
    rfl
  · obtain ⟨v, w, hv, hconfig, hw, htime, hend⟩ := endStart_bay h hb
    have hheld : w.bay b = heldAgain v b := by
      rw [hw, (resolveBay_held hb (by rw [hv]; exact hst)).1]
    have hstate : (w.bay b).state = .holding := by rw [hheld]; rfl
    have hdeadline : (w.bay b).deadline = some d := by
      rw [hheld]
      exact (congrArg Bay.deadline hv).trans hd
    have hahead : w.reached (w.bay b).deadline = false := by
      rw [hdeadline, State.reached, htime]
      exact decide_eq_false (Nat.not_le.mpr hlt)
    rw [hend, takeReached_same (by rw [hstate]; decide) (by rw [hstate]; rfl) (.inr hahead), hheld, heldAgain, hv, hconfig]
    rfl

/-- What begins a start: a supply's row on a part without a store write in flight. -/
theorem exec_begins {i : Instr} (hi : (i = .powerOn ∧ s.pins.vdd = false ∧ s.pins.resetn = true) ∨
    (i = .resetnRelease ∧ s.pins.vdd = true ∧ s.pins.resetn = false)) :
    ∃ p : Pins, p.vdd = true ∧ p.resetn = true ∧ p.straps = s.pins.straps ∧ p.switches = s.pins.switches ∧
      exec i s = .next (State.beginStart { s with pins := p } false) := by
  obtain ⟨rfl, hv, hr⟩ | ⟨rfl, hv, hr⟩ := hi
  · refine ⟨{ s.pins with vdd := true }, rfl, hr, rfl, rfl, congrArg Host.Outcome.next ?_⟩
    rw [hv]
    exact (if_neg Bool.false_ne_true).trans (if_pos hr)
  · refine ⟨{ s.pins with resetn := true }, hv, rfl, rfl, rfl, congrArg Host.Outcome.next ?_⟩
    rw [hr]
    exact (if_neg Bool.false_ne_true).trans (if_pos hv)

end Power

/-- LOSS_OF_VRET leaves free contents (log 13). -/
theorem exec_lossOfVret (s : State) : ∃ t, exec .lossOfVret s = .next t ∧
    t = { s with
      bankTime := t.bankTime, bays := t.bays, lockedOut := t.lockedOut, directory := t.directory, bankNotices := t.bankNotices
      bayNotices := t.bayNotices, retentionAgrees := false, freeCount := s.freeCount + 1 } ∧
    t.bankTime ≤ 4294967295 ∧ t.directory.generation ≤ 65535 := by
  refine ⟨s.loseRetention, rfl, rfl, ?_, ?_⟩
  · exact Nat.le_of_lt_succ (Config.lostRetention s.freeCount).bankTime.isLt
  · exact Nat.le_of_lt_succ (Config.lostRetention s.freeCount).generation.isLt

section Ended

variable {s v : State}

/-- A state on which a start has begun as it stands in Retention Memory, the store and the switches, all else begun afresh. -/
structure Begun (s v : State) : Prop where
  starting : v.starting = some false
  powered : v.powered = true
  retained : SameRetained s v
  agrees : v.retentionAgrees = s.retentionAgrees
  store : v.store = s.store
  clock : v.clock = s.clock
  straps : v.pins.straps = s.pins.straps
  switches : v.pins.switches = s.pins.switches

theorem Begun.bay (h : Begun s v) (b : Nat) : v.bay b = s.bay b := by simp only [State.bay, h.retained.bays]

theorem Begun.warm (h : Begun s v) : v.startsWarm false = s.retentionAgrees := by
  rw [State.startsWarm, h.agrees, Bool.not_false, Bool.and_true]

theorem Begun.good (h : Begun s v) : v.configurationGood = checkAgrees 37 s.store.configuration := by
  rw [State.configurationGood, h.store]

theorem Begun.config (h : Begun s v) : (checkAgrees 37 s.store.configuration = true →
      (v.endStart false).config = configOf s.store.configuration) ∧
    (¬ checkAgrees 37 s.store.configuration = true → (v.endStart false).config = BankConfig.defaults) := by
  rw [(endStart_afresh v false).config, chosen, h.good, h.store]
  exact ⟨fun hg => if_pos hg, fun hg => if_neg hg⟩

/-- R21, R38: a warm start's retained contents. -/
theorem Begun.warmly (h : Begun s v) (ha : s.retentionAgrees = true) :
    (v.endStart false).bankTime = s.bankTime ∧ (v.endStart false).lockedOut = s.lockedOut ∧
    (v.endStart false).bankNotices = { s.bankNotices with
      warmStart := true
      configDefaulted := s.bankNotices.configDefaulted || decide (¬ checkAgrees 37 s.store.configuration = true) } ∧
    (∀ b < 48, ((v.endStart false).bay b).timer = none ∧ ((v.endStart false).bay b).clearing = false) ∧
    (∀ b < 48, (s.bay b).state = .withdrawn →
      (v.endStart false).bay b = { s.bay b with lastTemp := none, timer := none, clearing := false }) ∧
    (∀ b < 48, ∀ d, (s.bay b).state = .holding ∨ (s.bay b).state = .releasing → (s.bay b).deadline = some d →
      s.bankTime < d → (v.endStart false).bay b = { s.bay b with
        state := .holding, lastTemp := none, timer := none, clearing := false, demand := 16
        restartPenaltyPending := (v.endStart false).config.restartPenalty }) := by
  have hwarm : v.startsWarm false = true := h.warm.trans ha
  obtain ⟨htime, hlocked, hnotices, -, -⟩ := endStart_retaken v false
  obtain ⟨hkept, hwithdrawn, hheld⟩ := warm_bays hwarm
  refine ⟨?_, ?_, ?_, hkept, fun b hb hst => ?_, fun b hb d hst hd hlt => ?_⟩
  · rw [htime, if_pos hwarm, h.retained.bankTime]
  · rw [hlocked, if_pos hwarm, h.retained.lockedOut]
  · rw [hnotices, startNotices, if_pos hwarm, h.retained.bankNotices, h.good]
    simp
  · rw [hwithdrawn b hb (by rw [h.bay]; exact hst), h.bay]
  · rw [hheld b hb d (by rw [h.bay]; exact hst) (by rw [h.bay]; exact hd) (by rw [h.retained.bankTime]; exact hlt), h.bay,
      (endStart_afresh v false).config]

/-- R20, R38: a cold start's. -/
theorem Begun.coldly (h : Begun s v) (ha : s.retentionAgrees = false) :
    (v.endStart false).bankTime = 0 ∧ (v.endStart false).directory = { entries := [], generation := 0 } ∧
    (v.endStart false).bankNotices = { BankNotices.empty with
      coldStart := true, configDefaulted := decide (¬ checkAgrees 37 s.store.configuration = true) } ∧
    (∀ b < 48, (v.endStart false).bay b = Bay.empty ∧ (v.endStart false).notices b = BayNotices.empty) ∧
    ∀ m < 12, (v.endStart false).lockedOut.getD m true = false := by
  have hcold : v.startsWarm false = false := h.warm.trans ha
  have hne : ¬ v.startsWarm false = true := by rw [hcold]; exact Bool.false_ne_true
  obtain ⟨htime, hlocked, hnotices, -, -⟩ := endStart_retaken v false
  obtain ⟨hdirectory, hbays, hempty⟩ := endStart_cold hcold
  refine ⟨?_, hdirectory, ?_, fun b hb => ⟨hbays b hb, hempty b hb⟩, fun m hm => ?_⟩
  · rw [htime, if_neg hne]
  · rw [hnotices, startNotices, if_neg hne, h.good]
    simp
  · rw [hlocked, if_neg hne]
    simp [Vector.getD, hm]

/-- R94, R133, R134, R138, R151, R152, R170, R195: the blocks begun afresh. -/
theorem Begun.blocks (h : Begun s v) :
    (v.endStart false).link = OrderLink.start s.pins.straps ∧ (v.endStart false).ka = KioskPort.start ∧
    (v.endStart false).kb = KioskPort.start ∧ (v.endStart false).mains = MainsMonitor.start ∧
    (v.endStart false).heater = HeaterAllocator.start (v.endStart false).heater.budget ∧
    (v.endStart false).heater.budget.b = (v.endStart false).config.budget ∧
    (v.endStart false).heater.budget.lmaxEff = min (v.endStart false).config.lmax ((v.endStart false).config.budget - 1) ∧
    (v.endStart false).scanner = {
      passTimer := (v.endStart false).config.passPeriod, pass := none, conversion := none, discard := false
      skip := Vector.replicate 48 0, rounds := Vector.replicate 48 none, overruns := 0 } ∧
    (v.endStart false).latch.channels = Vector.replicate 4 none ∧ (v.endStart false).latch.stallTimer = none ∧
    (v.endStart false).latch.guard = false ∧
    (v.endStart false).latch.queue.map LatchRequest.door = ((List.range 96).filter fun d => s.pins.switches.getD d true) ∧
    (∀ r ∈ (v.endStart false).latch.queue, r.action = .lock ∧ r.cls = .lock) := by
  have ha := endStart_afresh v false
  obtain ⟨n, hqueue⟩ := endStart_queue v false
  rw [h.switches] at hqueue
  refine ⟨by rw [ha.link, h.straps], ha.ka, ha.kb, ha.mains, ?_, ?_, ?_, ?_, ha.channels, ha.stall.1, ha.stall.2, ?_, fun r hr => ?_⟩
  · rw [ha.heater]
    rfl
  · rw [ha.heater, ha.config]
    rfl
  · rw [ha.heater, ha.config]
    rfl
  · rw [ha.scanner, ha.config]
    rfl
  · rw [hqueue, lockRequests_doors]
  · rw [hqueue] at hr
    exact (mem_lockRequests hr).2

theorem Begun.door (h : Begun s v) {d : Nat} (hd : d < 96) :
    (v.endStart false).latchRecord d = { position := .unlocked, openAfterFailedLock := !s.pins.switches.getD d true } ∧
    (v.endStart false).door d = {
      closed := s.pins.switches.getD d true, candidate := none
      alarm := if s.pins.switches.getD d true then none else
        some (min ((v.endStart false).bankTime +
          10 * (if d % 2 = 0 then (v.endStart false).config.alarmFront else (v.endStart false).config.alarmRear)) 4294967295) } := by
  have ha := endStart_afresh v false
  refine ⟨?_, ?_⟩
  · rw [ha.records d hd, State.latchAtStart, h.switches]
  · rw [ha.doors d hd, h.switches]
    generalize v.endStart false = u
    have halarm : u.after (u.alarmSeconds (sideOfDoor d)) =
        min (u.bankTime + 10 * (if d % 2 = 0 then u.config.alarmFront else u.config.alarmRear)) 4294967295 := by
      unfold sideOfDoor
      by_cases hside : d % 2 = 0
      · rw [if_pos hside, if_pos hside]
        rfl
      · rw [if_neg hside, if_neg hside]
        rfl
    rw [halarm]

end Ended

/-- R206: a start begun from a part that does not run. -/
theorem begins_facts {s : State} {i : Instr} (hw : s.store.write = none)
    (hi : (i = .powerOn ∧ s.pins.vdd = false ∧ s.pins.resetn = true) ∨
      (i = .resetnRelease ∧ s.pins.vdd = true ∧ s.pins.resetn = false)) :
    ∃ t, exec i s = .next t ∧ t.starting = some false ∧ t.running = false ∧ SameRetained s t ∧
      (t.attn = true ↔ s.bankNotices ≠ BankNotices.empty ∨ ∃ b < 48, s.notices b ≠ BayNotices.empty) ∧
      t.retentionAgrees = s.retentionAgrees ∧ t.pending = s.pending ∧ t.store = s.store ∧ t.pins.vdd = true ∧
      Begun s { t with pending := [] } := by
  obtain ⟨p, hvdd, hresetn, hstraps, hswitches, hexec⟩ := exec_begins hi
  have hsame : SameRetained s (State.beginStart { s with pins := p } false) :=
    sameRetained_trans (t := { s with pins := p }) ⟨rfl, rfl, rfl, rfl, rfl, rfl⟩ beginStart_retained
  have hstarting := beginStart_starting (s := { s with pins := p }) (cold := false)
  have hrunning := beginStart_running (s := { s with pins := p }) false
  have hagrees := Acts.beginStart_agrees { s with pins := p } false
  have hpins := beginStart_pins (s := { s with pins := p }) (cold := false)
  obtain ⟨hstore, hpending, hclock⟩ := beginStart_idle (s := { s with pins := p }) (cold := false) hw
  generalize State.beginStart { s with pins := p } false = t at *
  refine ⟨t, hexec, hstarting, hrunning, hsame, ?_, hagrees, hpending, hstore, by rw [hpins]; exact hvdd, hstarting, ?_,
    ⟨hsame.1, hsame.2, hsame.3, hsame.4, hsame.5, hsame.6⟩, hagrees, hstore, hclock, by rw [← hstraps]; exact congrArg Pins.straps hpins,
    by rw [← hswitches]; exact congrArg Pins.switches hpins⟩
  · rw [attn_eq_true_iff (by rw [hpins]; exact hvdd), hsame.bankNotices]
    simp only [State.notices, hsame.bayNotices]
  · show (t.pins.vdd && t.pins.resetn) = true
    rw [hpins]
    exact Bool.and_eq_true_iff.mpr ⟨hvdd, hresetn⟩

/-- Settles O58: the loss of VRET, a row that comes during a start, and the start that a supply's row begins, to its end. -/
theorem startsAreWarmOrCold : Obligations.StartsAreWarmOrCold := by
  unfold Obligations.StartsAreWarmOrCold
  refine ⟨exec_lossOfVret, fun s i cold hp hst hw hs => ⟨?_, exec_awake hw hs⟩, ?_⟩
  · rw [awake_starting hp hst]
    exact endStart_running hp
  · intro s i hw hi good
    obtain ⟨t, hexec, hstarting, hrunning, hsame, hattn, hagrees, hpending, hstore, hvdd, hb⟩ := begins_facts hw hi
    have ha := endStart_afresh { t with pending := [] } false
    have hr := endStart_retaken { t with pending := [] } false
    have hrun := endStart_running (cold := false) hb.powered
    have hattn' := endStart_attn (s := { t with pending := [] }) (cold := false) hvdd
    have hstep : step { t with pending := [] } = .next (State.endStart { t with pending := [] } false) :=
      congrArg Host.Outcome.next (awake_starting hb.powered hb.starting)
    obtain ⟨hgood, hbad⟩ := hb.config
    have hwarm := hb.warmly
    have hcold := hb.coldly
    obtain ⟨h1, h2, h3, h4, h5, h6, h7, h8, h9, h10, h11, h12, h13⟩ := hb.blocks
    have hdoor : ∀ d < 96, _ := fun d hd => hb.door hd
    have hclock := ha.clock.trans hb.clock
    have hstore' := ha.store.trans hb.store
    have hstraps := (congrArg Pins.straps ha.pins).trans hb.straps
    have hswitches := (congrArg Pins.switches ha.pins).trans hb.switches
    have hagrees' := hr.agrees
    clear ha hr hb
    generalize State.endStart { t with pending := [] } false = u at *
    exact ⟨t, u, hexec, hstarting, hrunning, hsame, hattn, hagrees, hpending, hstore, hstep, hrun, hclock, hstore', hstraps, hswitches,
      hagrees', hattn', hgood, hbad, hwarm, hcold, h1, h2, h3, h4, h5, h6, h7, h8, h9, h10, h11, h12, h13, hdoor⟩

end Sys2Proof.Starts
end

section

-- One proof at a time: the proofs here together ask for more threads than the memory limit leaves room for.
set_option Elab.async false

/-! RESETN low and the loss of VDD (R205 to R207): what a start's resolution reads of the supplies, what an interrupted store write
leaves, and the outputs of a part that does not run. -/

namespace Sys2Proof.Starts

open Sys2Proof Sys2Proof.Machine Sys2Proof.Courses Sys2Proof.Acts

/-! ### A start's resolution does not read the supplies -/

/-- A state with VDD and RESETN at other levels. -/
def withSupply (s : State) (v r : Bool) : State := { s with pins := { s.pins with vdd := v, resetn := r } }

section Supply

variable (s : State) (v r : Bool) (b : Nat)

@[simp] theorem withSupply_bay : (withSupply s v r).bay b = s.bay b := rfl
@[simp] theorem withSupply_scanner : (withSupply s v r).scanner = s.scanner := rfl

theorem changeBay_withSupply (f : Bay → Bay) : (withSupply s v r).changeBay b f = withSupply (s.changeBay b f) v r := by
  rw [State.changeBay_frame, State.changeBay_frame]
  rfl

theorem leaveEntry_withSupply : (withSupply s v r).leaveEntry b = withSupply (s.leaveEntry b) v r := by
  unfold State.leaveEntry
  rw [withSupply_bay]
  cases (s.bay b).entry <;> rfl

theorem markDiscard_withSupply : (withSupply s v r).markDiscard b = withSupply (s.markDiscard b) v r := by
  unfold State.markDiscard
  rw [withSupply_scanner]
  cases s.scanner.conversion.any fun c => c.bay = b <;> rfl

theorem enterWithdrawn_withSupply (why : WithdrawReason) :
    (withSupply s v r).enterWithdrawn b why = withSupply (s.enterWithdrawn b why) v r := by
  unfold State.enterWithdrawn
  rw [changeBay_withSupply]
  rfl

theorem sendToVacant_withSupply : (withSupply s v r).sendToVacant b = withSupply (s.sendToVacant b) v r := by
  unfold State.sendToVacant State.enterOutOfService State.enterVacant
  simp only [leaveEntry_withSupply, changeBay_withSupply, markDiscard_withSupply, withSupply_bay]
  split
  · rfl
  · split <;> rfl

theorem retainedAt_withSupply : retainedAt (withSupply s v r) b = withSupply (retainedAt s b) v r := rfl

theorem resolveBay_withSupply : (withSupply s v r).resolveBay b = withSupply (s.resolveBay b) v r := by
  rw [resolveBay_eq, resolveBay_eq, retainedAt_withSupply]
  generalize retainedAt s b = u
  rw [withSupply_bay]
  cases (u.bay b).state with
  | vacant | booked | withdrawn | outOfService | preheating | ready | holding => rfl
  | loading =>
    dsimp only
    split
    · exact enterWithdrawn_withSupply u v r b _
    · exact changeBay_withSupply u v r b _
  | releasing => exact changeBay_withSupply u v r b _
  | collecting =>
    dsimp only
    rw [show (withSupply u v r).door = u.door from rfl]
    split
    · exact sendToVacant_withSupply (u.raiseBay b .collected) v r b
    · rfl

theorem resolveAll_withSupply : (withSupply s v r).resolveAll = withSupply s.resolveAll v r := by
  unfold State.resolveAll State.forBays
  generalize allBays = bs
  induction bs generalizing s with
  | nil => rfl
  | cons b bs ih => rw [List.foldl_cons, List.foldl_cons, resolveBay_withSupply, ih]

theorem begunAfresh_withSupply (cold : Bool) : begunAfresh (withSupply s v r) cold = withSupply (begunAfresh s cold) v r := by
  cases h : s.startsWarm cold with
  | true =>
    rw [begunAfresh_warm (s := withSupply s v r) h, begunAfresh_warm h]
    rfl
  | false =>
    rw [begunAfresh_cold (s := withSupply s v r) h, begunAfresh_cold h]
    rfl

theorem resolved_withSupply (cold : Bool) : (withSupply s v r).resolved cold = withSupply (s.resolved cold) v r := by
  have htoResolve : toResolve (withSupply s v r) cold = withSupply (toResolve s cold) v r := by
    unfold toResolve
    rw [show (withSupply s v r).startsWarm cold = s.startsWarm cold from rfl, begunAfresh_withSupply]
    split
    · exact resolveAll_withSupply _ v r
    · rfl
  rw [resolved_eq, resolved_eq, htoResolve]
  rfl

end Supply

/-! ### What an interrupted store write leaves (R207) -/

theorem spoilCheck_append (l : List Byte) (x : Byte) : spoilCheck (l ++ [x]) = l ++ [x ^^^ 0xFF] := by
  simp [spoilCheck]

theorem flipped_ne (x : Byte) : x ^^^ 0xFF ≠ x := by
  revert x
  decide

/-- The last byte is one of the check value's, so a check value that agreed agrees no longer. -/
theorem checkAgrees_spoilCheck {n : Nat} {l : List Byte} (hl : l.length = n + 2) (h : checkAgrees n l = true) :
    checkAgrees n (spoilCheck l) = false := by
  obtain ⟨k, x, rfl⟩ : ∃ k x, l = k ++ [x] := by
    have hne : l ≠ [] := by
      rintro rfl
      cases hl
    exact ⟨l.dropLast, l.getLast hne, (List.dropLast_append_getLast hne).symm⟩
  have hk : k.length = n + 1 := by simpa using hl
  have htake : ∀ y : Byte, (k ++ [y]).take n = k.take n := fun y => List.take_append_of_le_length (by omega)
  have hdrop : ∀ y : Byte, ((k ++ [y]).drop n).take 2 = k.drop n ++ [y] := fun y => by
    rw [List.drop_append_of_le_length (by omega), List.take_of_length_le]
    simp [hk]
  rw [spoilCheck_append]
  unfold checkAgrees at h ⊢
  rw [htake, hdrop] at h ⊢
  have hx := of_decide_eq_true h
  rw [decide_eq_false_iff_not, ← hx]
  intro hy
  exact flipped_ne x (by simpa using hy)

theorem interruptedSlot_condition (n : Nat) : conditionOf (interruptedSlot n) ≠ .inService := by
  unfold interruptedSlot
  dsimp only
  have hlength : ((List.range 25).map (Config.interruptedByte n)).length = 23 + 2 := by simp
  generalize (List.range 25).map (Config.interruptedByte n) = l at *
  split
  · next h =>
    have hagrees : checkAgrees 23 l = true := by
      unfold conditionOf at h
      split at h
      · cases h
      · split at h
        · assumption
        · cases h
    have hspoilt := checkAgrees_spoilCheck hlength hagrees
    unfold conditionOf
    rw [hspoilt]
    split <;> exact fun h => nomatch h
  · assumption

theorem interruptedConfiguration_check (n : Nat) : checkAgrees 37 (interruptedConfiguration n) = false := by
  unfold interruptedConfiguration
  dsimp only
  have hlength : ((List.range 39).map (Config.interruptedByte n)).length = 37 + 2 := by simp
  generalize (List.range 39).map (Config.interruptedByte n) = l at *
  split
  · next h => exact checkAgrees_spoilCheck hlength h
  · next h => exact Bool.eq_false_iff.mpr h

/-- R207: a store write lost with the part's stop. -/
structure WriteLost (s t : State) : Prop where
  ended : t.store.write = none
  kept : ∀ n < 16, (∀ w, s.store.write = some w → w.target ≠ .slot n) → t.slotRecord n = s.slotRecord n
  slot : ∀ (n : Nat) (w : StoreWrite), n < 16 → s.store.write = some w → w.target = .slot n → t.slotCondition n ≠ .inService
  configuration : ∀ w : StoreWrite, s.store.write = some w → w.target = .configuration →
    checkAgrees 37 t.store.configuration = false

theorem loseWrite_lost (s : State) : WriteLost s s.loseWrite := by
  unfold State.loseWrite
  cases hw : s.store.write with
  | none =>
    refine ⟨hw, fun _ _ _ => rfl, fun _ w _ h => ?_, fun w h => ?_⟩ <;> rw [hw] at h <;> cases h
  | some w =>
    rcases w with ⟨target, contents⟩
    cases target with
    | slot m =>
      dsimp only [ProfileStore.put]
      refine ⟨rfl, fun n hn hother => ?_, fun n w hn h h' => ?_, fun w h h' => ?_⟩
      · have hne : m ≠ n := fun h => hother _ hw (h ▸ rfl)
        simp [State.slotRecord, Vector.getD, hn, hne]
      · rw [hw] at h
        cases h
        cases h'
        simpa [State.slotCondition, State.slotRecord, Vector.getD, hn] using interruptedSlot_condition s.freeCount
      · rw [hw] at h
        cases h
        cases h'
    | configuration =>
      dsimp only [ProfileStore.put]
      refine ⟨rfl, fun n hn hother => rfl, fun n w hn h h' => ?_, fun w h h' => interruptedConfiguration_check _⟩
      rw [hw] at h
      cases h
      cases h'

/-! ### A part stopped (R205, R206) -/

section Stopped

variable {s u : State} {w : Bool}

theorem stoppedAt_retained : SameRetained u (stoppedAt u w) := by
  rw [stoppedAt, loseWrite_frame]
  exact ⟨rfl, rfl, rfl, rfl, rfl, rfl⟩

theorem WriteLost.congr {s' t' : State} (h : WriteLost s t) (hs : s'.store = s.store) (ht : t'.store = t.store) : WriteLost s' t' := by
  have hslot : ∀ n, s'.slotRecord n = s.slotRecord n := fun n => congrArg (fun st : ProfileStore => st.slots.getD n []) hs
  have hslot' : ∀ n, t'.slotRecord n = t.slotRecord n := fun n => congrArg (fun st : ProfileStore => st.slots.getD n []) ht
  obtain ⟨hended, hkept, hwritten, hconfiguration⟩ := h
  refine ⟨by rw [ht]; exact hended, fun n hn hw => ?_, fun n x hn hx => ?_, fun x hx => ?_⟩
  · rw [hslot, hslot']
    exact hkept n hn (by rwa [hs] at hw)
  · rw [State.slotCondition, hslot']
    exact hwritten n x hn (by rwa [hs] at hx)
  · rw [ht]
    exact hconfiguration x (by rwa [hs] at hx)

theorem stoppedAt_lost (h : u.store = s.store) : WriteLost s (stoppedAt u w) :=
  (loseWrite_lost u).congr h.symm (by simp only [stoppedAt, withMarks, State.startBlocks])

/-- The outputs of a part that does not run, without VDD or with RESETN low (R134, R151, R170, R195, log 22). -/
structure Silent (t : State) : Prop where
  rdy : t.rdy = false
  lde : t.lde = false
  gate : ∀ b, t.gate b = false
  lsel : ∀ d, t.lsel d = false
  drive : ∀ c, t.lda c = false ∧ t.ldb c = false
  ltx : t.ltx = .level false
  katx : t.katx = .level true
  kbtx : t.kbtx = .level true

theorem silent_of_not_powered {t : State} (h : t.powered = false) : Silent t := by
  have hr : t.running = false := by rw [State.running, h, Bool.false_and]
  refine ⟨?_, ?_, fun b => ?_, fun d => ?_, fun c => ⟨?_, ?_⟩, ?_, ?_, ?_⟩
  · rw [State.rdy, hr, Bool.false_and]
  · rw [State.lde, hr, Bool.false_and]
  · rw [State.gate, hr, Bool.false_and]
  · rw [State.lsel, hr, Bool.false_and]
  · rw [State.lda, hr, Bool.false_and]
  · rw [State.ldb, hr, Bool.false_and]
  · rw [State.ltx, h, if_neg Bool.false_ne_true]
  · rw [State.katx, State.kioskTx, hr]
    rfl
  · rw [State.kbtx, State.kioskTx, hr]
    rfl

/-- The state stopped: as the part stood, or, where a start's resolution had been written, as that left it. -/
theorem stopPart_eq (s : State) (m : StopMoment) : ∃ u x, s.stopPart m = stoppedAt u x ∧ u.store = s.store ∧
    (m ≠ .resolutionWritten ∨ s.starting = none → u = s ∧ x = decide (m ≠ .withinStep)) ∧
    ∀ cold, m = .resolutionWritten → s.starting = some cold → u = s.resolved cold ∧ x = true := by
  by_cases h : s.starting = none ∨ m ≠ .resolutionWritten
  · refine ⟨s, _, stopPart_of_not_resolved s m h, rfl, fun _ => ⟨rfl, rfl⟩, fun cold hm hst => ?_⟩
    rcases h with h | h
    · rw [hst] at h
      cases h
    · exact absurd hm h
  · obtain ⟨hst, hm⟩ := not_or.mp h
    obtain ⟨cold, hcold⟩ := Option.ne_none_iff_exists'.mp hst
    obtain rfl := not_not.mp hm
    exact ⟨s.resolved cold, true, stopPart_of_resolved s cold hcold, (resolved_afresh s cold).store, fun h' => absurd h'.symm h,
      fun c _ hc => by rw [hcold] at hc; cases hc; exact ⟨rfl, rfl⟩⟩

theorem exec_stops {s : State} {i : Instr} {m : StopMoment} (hp : s.powered = true) (hi : i = .resetnLow m ∨ i = .lossOfVdd m) :
    exec i s = .next ((withSupply s (decide (i = .resetnLow m)) (decide (i = .lossOfVdd m))).stopPart m) := by
  obtain ⟨hvdd, hresetn⟩ := Bool.and_eq_true_iff.mp hp
  rcases hi with rfl | rfl
  · refine congrArg Host.Outcome.next ((if_pos hresetn).trans ((if_pos hvdd).trans ?_))
    unfold withSupply
    rw [decide_eq_true rfl, decide_eq_false (by simp), ← hvdd]
  · refine congrArg Host.Outcome.next ((if_pos hvdd).trans ((if_pos hresetn).trans ?_))
    unfold withSupply
    rw [decide_eq_true rfl, decide_eq_false (by simp), ← hresetn]

end Stopped

/-- R205, R206: what a stop leaves. -/
theorem stopPart_keeps (s : State) (v r : Bool) (m : StopMoment) :
    (m ≠ .resolutionWritten ∨ s.starting = none →
      SameRetained s ((withSupply s v r).stopPart m) ∧
      ((withSupply s v r).stopPart m).retentionAgrees = (s.retentionAgrees && decide (m ≠ .withinStep))) ∧
    (∀ cold, m = .resolutionWritten → s.starting = some cold →
      ((withSupply s v r).stopPart m).retentionAgrees = true ∧ SameRetained (s.resolved cold) ((withSupply s v r).stopPart m)) ∧
    WriteLost s ((withSupply s v r).stopPart m) ∧ ((withSupply s v r).stopPart m).starting = none := by
  obtain ⟨u, x, heq, hstore, hplain, hresolved⟩ := stopPart_eq (withSupply s v r) m
  rw [heq]
  refine ⟨fun h => ?_, fun cold hm hst => ?_, stoppedAt_lost hstore, rfl⟩
  · obtain ⟨rfl, rfl⟩ := hplain h
    exact ⟨sameRetained_trans (t := withSupply s v r) ⟨rfl, rfl, rfl, rfl, rfl, rfl⟩ stoppedAt_retained, stoppedAt_agrees _ _⟩
  · obtain ⟨hu, rfl⟩ := hresolved cold hm hst
    rw [resolved_withSupply] at hu
    have hsame : SameRetained (s.resolved cold) u := by
      rw [hu]
      generalize s.resolved cold = y
      exact ⟨rfl, rfl, rfl, rfl, rfl, rfl⟩
    have hagrees : u.retentionAgrees = true := by
      rw [hu]
      exact (resolved_retaken s cold).agrees
    exact ⟨by rw [stoppedAt_agrees, hagrees]; rfl, sameRetained_trans hsame stoppedAt_retained⟩

/-- R20, R21, R38: the bank set and bank time once a start's resolution is written. -/
theorem resolved_summary {s t : State} {cold : Bool} (h : SameRetained (s.resolved cold) t) :
    if s.retentionAgrees = true ∧ cold = false then t.bankNotices.warmStart = true ∧ t.bankTime = s.bankTime
    else t.bankNotices.coldStart = true ∧ t.bankTime = 0 := by
  obtain ⟨htime, -, hnotices, -, -⟩ := resolved_retaken s cold
  rw [h.bankNotices, h.bankTime, hnotices, htime, startNotices]
  by_cases hw : s.retentionAgrees = true ∧ cold = false
  · rw [if_pos hw, startsWarm_iff.mpr hw.symm]
    exact ⟨rfl, rfl⟩
  · have hcold : s.startsWarm cold = false := Bool.eq_false_iff.mpr fun h' => hw (startsWarm_iff.mp h').symm
    rw [if_neg hw, hcold]
    exact ⟨rfl, rfl⟩

theorem attn_of_no_vdd {t : State} (h : t.pins.vdd = false) : t.attn = false := by
  rw [State.attn, h, Bool.false_and]

/-- Settles O60: a stop keeps what Retention Memory holds, or what a start's resolution had written of it (`stopPart_keeps`), loses the
write in flight (`WriteLost`), and every output stands at its level of rest (`silent_of_not_powered`). -/
theorem stopsKeepRetention : Obligations.StopsKeepRetention := by
  refine ⟨fun s i m hs hi => ?_, fun s hr => congrArg Host.Outcome.next (s.whenRunning_of_running _ hr)⟩
  have hp : s.powered = true := hs.elim running_powered And.left
  obtain ⟨hplain, hresolved, hlost, hstarting⟩ := stopPart_keeps s (decide (i = .resetnLow m)) (decide (i = .lossOfVdd m)) m
  have hpins := Latches.stopPart_pins (s := withSupply s (decide (i = .resetnLow m)) (decide (i = .lossOfVdd m))) m
  refine ⟨_, exec_stops hp hi, ?_⟩
  generalize (withSupply s (decide (i = .resetnLow m)) (decide (i = .lossOfVdd m))).stopPart m = t at *
  have hvdd : t.pins.vdd = decide (i = .resetnLow m) := (congrArg Pins.vdd hpins).trans rfl
  have hresetn : t.pins.resetn = decide (i = .lossOfVdd m) := (congrArg Pins.resetn hpins).trans rfl
  have hpowered : t.powered = false := by
    rw [State.powered, hvdd, hresetn]
    rcases hi with rfl | rfl <;> simp
  have hrunning : t.running = false := by rw [State.running, hpowered, Bool.false_and]
  have hsilent := silent_of_not_powered hpowered
  refine ⟨hrunning, hstarting, hvdd, hresetn, hplain,
    fun cold hm hst => ⟨(hresolved cold hm hst).1, (hresolved cold hm hst).2, resolved_summary (hresolved cold hm hst).2⟩, ?_,
    hsilent.rdy, hsilent.lde, hsilent.gate, hsilent.lsel, hsilent.drive, hsilent.ltx, hsilent.katx, hsilent.kbtx,
    hlost.ended, hlost.kept, hlost.slot, hlost.configuration, congrArg Host.Outcome.next (t.whenRunning_of_stopped _ hrunning hstarting)⟩
  by_cases h : i = .resetnLow m
  · exact (attn_eq_true_iff (hvdd.trans (decide_eq_true h))).trans ⟨fun hn => ⟨h, hn⟩, And.right⟩
  · rw [attn_of_no_vdd (hvdd.trans (decide_eq_false h))]
    exact ⟨fun hn => absurd hn Bool.false_ne_true, fun hn => absurd hn.1 h⟩

end Sys2Proof.Starts
end

section

-- One proof at a time: the proofs here together ask for more threads than the memory limit leaves room for.
set_option Elab.async false

/-! The characters of a command's frame, one after another (R184 to R187, 11.8). -/

namespace Sys2Proof.Frames

open Sys2Proof Sys2Proof.Machine Sys2Proof.Courses

/-- The family `Laws.CommandBytes`, for every command. -/
theorem bytes_spell (i : Instr) : Laws.CommandBytes.Statement i := by
  cases i with
  | book r c ss o => exact Laws.CommandBytes.book r c ss o
  | amendNewCode r v => exact Laws.CommandBytes.amendNewCode r v
  | amendExtend r v => exact Laws.CommandBytes.amendExtend r v
  | amendNewLoad r v => exact Laws.CommandBytes.amendNewLoad r v
  | cancel r => exact Laws.CommandBytes.cancel r
  | load r b f => exact Laws.CommandBytes.load r b f
  | clear b => exact Laws.CommandBytes.clear b
  | openOrder k v => exact Laws.CommandBytes.openOrder k v
  | lockout b => exact Laws.CommandBytes.lockout b
  | restore b => exact Laws.CommandBytes.restore b
  | query k v => exact Laws.CommandBytes.query k v
  | scan o c => exact Laws.CommandBytes.scan o c
  | status o => exact Laws.CommandBytes.status o
  | configure bs => exact Laws.CommandBytes.configure bs
  | profileWrite n bs => exact Laws.CommandBytes.profileWrite n bs
  | profileRead n => exact Laws.CommandBytes.profileRead n
  | restart b o => exact Laws.CommandBytes.restart b o
  | unknownCommand c => exact Laws.CommandBytes.unknownCommand c
  | _ => exact fun _ _ h => nomatch h

/-! ### The receiver while the frame comes in -/

section Incoming

variable {s : State} {r : Receiver} {l : Nat} {taken : List Byte} {data : Byte}

/-- The bank at the present moment, a character just received, its receiver in the midst of a frame. -/
def hearing (s : State) (r : Receiver) : State := { s with link := { s.link with lastCharacter := some s.clock, receiver := r } }

/-- R185: an addressed frame opened. -/
def opened : Receiver := Receiver.opened false

/-- R186: an addressed frame of declared length `l` with the bytes `taken` after its length. -/
def holding (l : Nat) (taken : List Byte) : Receiver :=
  { phase := .receiving, broadcast := false, declared := some l, expected := l + 2 - taken.length
    crc := crcOf (byteOf l :: taken), corrupt := false, buffer := byteOf l :: taken, crcHigh := 0 }

/-- R186: a whole frame but its last CRC byte. -/
def closing (bs : List Byte) (high : Byte) : Receiver :=
  { holding bs.length bs with expected := 1, buffer := byteOf bs.length :: bs ++ [high], crcHigh := high }

theorem crcOf_append (bs : List Byte) (b : Byte) : crcByte (crcOf bs) b = crcOf (bs ++ [b]) := by
  rw [crcOf, crcOf, List.foldl_append]
  rfl

theorem stopped_good (r : Receiver) : stopped r true = r := by
  rw [stopped, Bool.not_true, Bool.or_false]

theorem exec_address (hs : s.AtRest) (ha : s.link.receiver = Receiver.asleep) (h31 : s.link.address ≤ 31) :
    exec (.linkAddressCharacter (byteOf s.link.address) s.clock) s = .next (hearing s opened) := by
  have hnat : (byteOf s.link.address).toNat = s.link.address := toNat_byteOf _ (by omega)
  have hne : byteOf s.link.address ≠ 0 := fun h => hs.addressed (by rw [← hnat, h]; rfl)
  have hphase : (heardAt s s.clock).link.receiver.phase = .asleep := hs.asleep
  refine (exec_linkAddressCharacter _ hs.running (by simp [hs.silent])).trans (congrArg Host.Outcome.next ?_)
  unfold State.takeAddress
  dsimp only
  rw [State.abandonFrame, if_pos hphase, if_neg hne, if_pos (show _ = (heardAt s s.clock).link.address from hnat), heardAt, Nat.max_self]
  rfl

/-- R184: a data character taken in the midst of a frame. -/
theorem exec_data (hs : s.AtRest) (hr : r.phase ≠ .asleep) :
    exec (.linkDataCharacter data true s.clock) (hearing s r) = .next ((hearing s r).takeData data true) := by
  have hrunning : (hearing s r).running = true := hs.running
  have hsilent : ∀ e, (hearing s r).link.sending = some e → e ≤ max (hearing s r).clock s.clock := fun e he => by
    rw [show (hearing s r).link.sending = s.link.sending from rfl, hs.silent] at he
    cases he
  have hheard : heardAt (hearing s r) s.clock = hearing s r := by
    rw [heardAt, show (hearing s r).clock = s.clock from rfl, Nat.max_self]
    rfl
  rw [exec_linkDataCharacter data true hrunning hsilent, hheard]
  exact congrArg Host.Outcome.next (if_neg hr)

theorem exec_length (hs : s.AtRest) (hl : l ≤ 59) :
    exec (.linkDataCharacter (byteOf l) true s.clock) (hearing s opened) = .next (hearing s (holding l [])) := by
  have hnat : (byteOf l).toNat = l := toNat_byteOf l (by omega)
  have hlength : opened.takeLength (byteOf l) = holding l [] := by
    rw [Receiver.takeLength, hnat, if_pos hl]
    rfl
  rw [exec_data hs ReceiverPhase.noConfusion, takeData_length rfl, stopped_good]
  exact congrArg (fun r => Host.Outcome.next (hearing s r)) hlength

theorem exec_body (hs : s.AtRest) (ht : taken.length < l) :
    exec (.linkDataCharacter data true s.clock) (hearing s (holding l taken)) = .next (hearing s (holding l (taken ++ [data]))) := by
  have hexpected : 2 < l + 2 - taken.length := by omega
  have hbody : (holding l taken).takeBody l data = holding l (taken ++ [data]) := by
    rw [takeBody_receiving l rfl, holding, holding]
    dsimp only
    rw [crcOf_append, List.length_append, List.length_singleton, List.cons_append, Nat.sub_sub]
  rw [exec_data hs ReceiverPhase.noConfusion, takeData_body rfl hexpected, stopped_good]
  exact congrArg (fun r => Host.Outcome.next (hearing s r)) hbody

theorem exec_crcHigh (hs : s.AtRest) (bs : List Byte) :
    exec (.linkDataCharacter data true s.clock) (hearing s (holding bs.length bs)) = .next (hearing s (closing bs data)) := by
  have hexpected : bs.length + 2 - bs.length = 2 := by omega
  rw [exec_data hs ReceiverPhase.noConfusion, takeData_crcHigh rfl hexpected, stopped_good]
  rfl

/-- R186: the bytes 1 to L, one after another. -/
theorem execAll_body (hs : s.AtRest) (rest : List Byte) (ht : taken.length + rest.length ≤ l) (tail : List Instr) :
    execAll ((rest.map fun data => .linkDataCharacter data true s.clock) ++ tail) (hearing s (holding l taken)) =
      execAll tail (hearing s (holding l (taken ++ rest))) := by
  induction rest generalizing taken with
  | nil => rw [List.append_nil]; rfl
  | cons b rest ih =>
    rw [List.length_cons] at ht
    rw [List.map_cons, List.cons_append, execAll, exec_body hs (by omega)]
    dsimp only
    rw [ih (by simp; omega), List.append_assoc, List.singleton_append]

end Incoming

section End

variable {s : State} {bs : List Byte} {high low : Byte}

theorem closing_command (hl : bs.length ≤ 59) : (closing bs high).command = parseCommand bs := by
  have hbody : (closing bs high).body = bs := by
    show ((byteOf bs.length :: bs ++ [high]).drop 1).take bs.length = bs
    simp
  rw [Receiver.command, hbody]
  exact if_neg (Nat.not_lt.mpr hl)

/-- R187, R189: the second CRC byte ends the frame, and its command is carried out. -/
theorem exec_crcLow (hs : s.AtRest) (ha : s.link.receiver = Receiver.asleep) (hl : bs.length ≤ 59)
    (hcrc : crcBytes (crcOf (byteOf bs.length :: bs)) = [high, low]) :
    exec (.linkDataCharacter low true s.clock) (hearing s (closing bs high)) =
      .next ((s.joined (parseCommand bs)).answer (parseCommand bs)) := by
  have hpasses : (closing bs high).passes low = true := decide_eq_true hcrc
  have hended : ended (hearing s (closing bs high)) = s.heard := by
    rw [ended, show Receiver.asleep = s.link.receiver from ha.symm]
    rfl
  have hempty : s.heard.link.queue = [] := hs.empty
  rw [exec_data hs ReceiverPhase.noConfusion, takeData_end (l := bs.length) rfl rfl, stopped_good,
    show (hearing s (closing bs high)).link.receiver = closing bs high from rfl,
    judgeFrame_offered (r := closing bs high) hpasses (.inl rfl), closing_command hl, hended, offerFrame_empty hempty]
  exact congrArg Host.Outcome.next serveFrames_addressed

end End

/-- Settles O9: the address opens the frame, its length and its bytes fill it, and its CRC closes it with the command that the bytes
spell (`bytes_spell`); a command's row at a link at rest is that command answered (`exec_atRest`). -/
theorem charactersMakeTheCommand : Obligations.CharactersMakeTheCommand := by
  intro s i c hw hc hs ha h31
  obtain ⟨hspell, -, hl⟩ := bytes_spell i c hw hc
  rw [exec_atRest s i c hw hc hs]
  generalize Command.bytes c = bs at *
  subst hspell
  obtain ⟨high, low, hcrc⟩ : ∃ high low, crcBytes (crcOf (byteOf bs.length :: bs)) = [high, low] := ⟨_, _, rfl⟩
  have hframe : frameOf bs = byteOf bs.length :: (bs ++ [high, low]) := by rw [frameOf, hcrc]; rfl
  rw [hframe, execAll, exec_address hs ha h31]
  dsimp only
  rw [List.map_cons, execAll, exec_length hs hl]
  dsimp only
  rw [List.map_append, execAll_body hs bs (by simp) _, List.nil_append]
  simp only [List.map_cons, List.map_nil, execAll]
  rw [exec_crcHigh hs bs]
  dsimp only
  rw [exec_crcLow hs ha hl hcrc]

end Sys2Proof.Frames
end

section

-- One proof at a time: the proofs here together ask for more threads than the memory limit leaves room for.
set_option Elab.async false

/-! The counts in their ranges (R16, R31, R74, R114, R118, R153, R188, R193): act by act. -/

namespace Sys2Proof.Acts

open Sys2Proof Sys2Proof.Machine Sys2Proof.Courses

section

variable {g : Rules} {b : Nat} {bs : List Nat} {s t : State}

/-! ### Changes of bays -/

/-- What a course of bays may do counts nothing but the generation. -/
theorem counts_of_baysOnly (h : BaysOnly s t) (hg : t.directory.generation ≤ 65535) (hs : s.CountsInRange) : t.CountsInRange := by
  rw [show t = _ from h]
  exact ⟨hs.bankTime, hg, hs.overruns, hs.rotation, hs.settle, hs.position, hs.frames, hs.counters, hs.kiosks⟩

theorem leaveEntry_generation (hs : s.directory.generation ≤ 65535) : (s.leaveEntry b).directory.generation ≤ 65535 := by
  unfold State.leaveEntry
  cases (s.bay b).entry with
  | none => exact hs
  | some code => exact nextGeneration_le _

/-- R31: a bay's leaving its entry is the one change of the generation. -/
theorem move_generation (h : Move g b s t) (hs : s.directory.generation ≤ 65535) : t.directory.generation ≤ 65535 := by
  cases h with
  | write | notice => exact hs
  | change f =>
    rw [Courses.changeBay_directory]
    exact hs
  | leave f =>
    rw [Courses.changeBay_directory]
    exact leaveEntry_generation hs
  | mark =>
    rw [Courses.markDiscard_directory]
    exact hs
  | cut => exact hs
  | request d a c =>
    rw [State.request_frame]
    exact hs
  | withdraw d a =>
    rw [State.withdrawRequest_frame]
    exact hs

theorem course_counts (h : Course g bs s t) (hs : s.CountsInRange) : t.CountsInRange :=
  counts_of_baysOnly h.baysOnly
    (h.keeps (P := fun u => u.directory.generation ≤ 65535) (fun _ _ _ _ hm => move_generation hm) hs.generation) hs

theorem carryOut_counts (c : Command) (hs : s.CountsInRange) : (carryOut s c).state.CountsInRange :=
  (carryOut_handling s c).keeps (P := State.CountsInRange)
    (fun _ _ _ h => course_counts (h ⟨False, False⟩ False.elim False.elim)) (fun _ _ h _ => h.counts) hs

/-! ### Mains and the pulses -/

/-- A window begun, gone on with or abandoned. -/
theorem counts_of_window {p : Option Nat} {a : HeaterAllocator} (hp : ∀ h, p = some h → h < 16) (ha : a.rotation = s.heater.rotation)
    (hs : s.CountsInRange) : { s with mains := { s.mains with position := p }, heater := a }.CountsInRange :=
  ⟨hs.bankTime, hs.generation, hs.overruns, ha ▸ hs.rotation, hs.settle, hp, hs.frames, hs.counters, hs.kiosks⟩

theorem position_lt {k : Nat} (hk : k < 16) (h : Nat) (hh : some k = some h) : h < 16 := Option.some.inj hh ▸ hk

theorem startWindow_counts (hs : s.CountsInRange) : s.startWindow.CountsInRange := by
  rw [Allocation.startWindow_frame]
  exact counts_of_window (position_lt (by decide)) rfl hs

theorem beginHalfCycle_counts {k : Nat} (hk : k < 16) (hs : s.CountsInRange) : (s.beginHalfCycle k).CountsInRange := by
  unfold State.beginHalfCycle
  exact counts_of_window (position_lt hk) rfl hs

theorem abandonWindow_counts (hs : s.CountsInRange) : s.abandonWindow.CountsInRange := by
  unfold State.abandonWindow
  exact counts_of_window (fun _ hh => (nomatch hh)) rfl hs

theorem loseMains_counts (hs : s.CountsInRange) : s.loseMains.CountsInRange := by
  have habsent : ∀ m : MainsMonitor, m.settle = 0 → m.settle ≤ 8 ∧ (m.present = false → m.settle < 8) := fun m h => by
    rw [h]
    exact ⟨by decide, fun _ => by decide⟩
  unfold State.loseMains
  dsimp only
  split
  · exact ⟨hs.bankTime, hs.generation, hs.overruns, hs.rotation, habsent _ rfl, fun _ hh => (nomatch hh), hs.frames, hs.counters, hs.kiosks⟩
  · exact ⟨hs.bankTime, hs.generation, hs.overruns, hs.rotation, habsent _ rfl, hs.position, hs.frames, hs.counters, hs.kiosks⟩

/-- The counts do not speak of doors, latches and marks. -/
theorem counts_congr {d : Vector Door 96} {l : LatchArbiter} (hs : s.CountsInRange) : { s with doors := d, latch := l }.CountsInRange :=
  ⟨hs.bankTime, hs.generation, hs.overruns, hs.rotation, hs.settle, hs.position, hs.frames, hs.counters, hs.kiosks⟩

/-! ### Starts and stops -/

/-- The blocks at a start (R94, R133, R134, R170, R195). -/
theorem startBlocks_counts (ht : s.bankTime ≤ 4294967295) (hg : s.directory.generation ≤ 65535) : s.startBlocks.CountsInRange := by
  unfold State.startBlocks
  exact ⟨ht, hg, Nat.zero_le _, (by decide : 0 < 48), ⟨Nat.zero_le _, fun _ => (by decide : 0 < 8)⟩, fun _ hh => (nomatch hh), Nat.zero_le _,
    ⟨Nat.zero_le _, Nat.zero_le _, Nat.zero_le _, Nat.zero_le _⟩, fun
      | .ka => ⟨Nat.zero_le _, Nat.zero_le _⟩
      | .kb => ⟨Nat.zero_le _, Nat.zero_le _⟩⟩

theorem marked_counts {n : BankNotices} {x : Option Bool} {w : Bool} (hs : s.CountsInRange) :
    { s with bankNotices := n, starting := x, retentionAgrees := w }.CountsInRange :=
  ⟨hs.bankTime, hs.generation, hs.overruns, hs.rotation, hs.settle, hs.position, hs.frames, hs.counters, hs.kiosks⟩

theorem loseWrite_startBlocks_counts (hs : s.CountsInRange) : s.loseWrite.startBlocks.CountsInRange := by
  rw [loseWrite_frame]
  exact startBlocks_counts hs.bankTime hs.generation

theorem begunAfresh_counts (cold : Bool) (hs : s.CountsInRange) : (begunAfresh s cold).CountsInRange := by
  cases h : s.startsWarm cold with
  | true =>
    rw [Starts.begunAfresh_warm h]
    refine startBlocks_counts ?_ ?_
    · simp only [State.readSwitches, State.chooseConfiguration]
      exact hs.bankTime
    · simp only [State.readSwitches, State.chooseConfiguration]
      exact hs.generation
  | false =>
    rw [Starts.begunAfresh_cold h]
    refine startBlocks_counts ?_ ?_
    · simp only [State.readSwitches, State.emptyRecords]
      exact Nat.zero_le _
    · simp only [State.readSwitches, State.emptyRecords]
      exact Nat.zero_le _

theorem resolved_counts (cold : Bool) (hs : s.CountsInRange) : (s.resolved cold).CountsInRange := by
  obtain ⟨u, hu, -, n, hn⟩ := resolved_course (g := ⟨True, False⟩) s cold id
  rw [hn]
  exact marked_counts (s := u) (course_counts hu (begunAfresh_counts cold hs))

theorem endStart_counts (cold : Bool) (hs : s.CountsInRange) : (s.endStart cold).CountsInRange := by
  rw [Starts.endStart_eq]
  exact marked_counts (course_counts (Starts.ended_course s cold) (resolved_counts cold hs))

theorem stopPart_counts (m : StopMoment) (hs : s.CountsInRange) : (s.stopPart m).CountsInRange := by
  have hstopped : ∀ (u : State) (w : Bool), u.CountsInRange → (stoppedAt u w).CountsInRange := fun u w hu =>
    marked_counts (loseWrite_startBlocks_counts hu)
  by_cases h : ∃ cold, s.starting = some cold ∧ m = .resolutionWritten
  · obtain ⟨cold, hst, rfl⟩ := h
    rw [stopPart_of_resolved s cold hst]
    exact hstopped _ _ (resolved_counts cold hs)
  · rw [stopPart_of_not_resolved s m (by cases hst : s.starting with
      | none => exact .inl rfl
      | some cold => exact .inr fun hm => h ⟨cold, hst, hm⟩)]
    exact hstopped s _ hs

/-- A loss of VRET leaves a free value in 32 bits and one in 16 (log 13). -/
theorem loseRetention_counts (hs : s.CountsInRange) : s.loseRetention.CountsInRange :=
  ⟨Nat.le_of_lt_succ (BitVec.isLt _), Nat.le_of_lt_succ (BitVec.isLt _), hs.overruns, hs.rotation, hs.settle, hs.position, hs.frames,
    hs.counters, hs.kiosks⟩

/-! ### An act, a step -/

theorem act_counts (h : Act s t) (hs : s.CountsInRange) : t.CountsInRange := by
  cases h with
  | aside h => exact h.counts hs
  | course h => exact course_counts (h ⟨True, False⟩ False.elim) hs
  | serve c => exact carryOut_counts c hs
  | window => exact startWindow_counts hs
  | halfCycle k next => exact beginHalfCycle_counts next hs
  | abandon => exact abandonWindow_counts hs
  | returned settle within =>
    exact ⟨hs.bankTime, hs.generation, hs.overruns, hs.rotation, ⟨within hs, fun h => (nomatch h)⟩, hs.position, hs.frames, hs.counters,
      hs.kiosks⟩
  | lost => exact loseMains_counts hs
  | opened d =>
    obtain ⟨u, hu, alarm, heq⟩ := doorOpenedStep_course (g := ⟨True, False⟩) s d False.elim
    have hu' : u.CountsInRange := course_counts hu (counts_congr (s := s) hs)
    rw [heq]
    exact ⟨hu'.bankTime, hu'.generation, hu'.overruns, hu'.rotation, hu'.settle, hu'.position, hu'.frames, hu'.counters, hu'.kiosks⟩
  | closed d hd =>
    obtain ⟨u, hu, heq⟩ := doorClosedStep_course (g := ⟨True, False⟩) s d hd id
    rw [heq]
    exact counts_congr (s := u) (course_counts hu (counts_congr (s := s) hs))
  | granted r c => exact (grantPulse_aside s r c).counts (counts_congr (s := s) hs)
  | unlocked p c =>
    obtain ⟨u, hu, hlast⟩ := endUnlock_course (g := ⟨True, False⟩) s c p.door
    exact hlast.counts (course_counts hu (counts_congr (s := s) hs))
  | locked p c =>
    obtain ⟨u, hu, hlast⟩ := endLock_course (g := ⟨True, False⟩) s c p.door
    have hended : (endedLock s c p.door).CountsInRange := by
      unfold endedLock
      split <;> exact counts_congr (s := s) hs
    exact hlast.counts (course_counts hu hended)
  | begun pins cold =>
    refine marked_counts (loseWrite_startBlocks_counts (s := { s with pins := pins }) ?_)
    exact ⟨hs.bankTime, hs.generation, hs.overruns, hs.rotation, hs.settle, hs.position, hs.frames, hs.counters, hs.kiosks⟩
  | ended cold => exact endStart_counts cold hs
  | stopped pins m =>
    refine stopPart_counts (s := { s with pins := pins }) m ?_
    exact ⟨hs.bankTime, hs.generation, hs.overruns, hs.rotation, hs.settle, hs.position, hs.frames, hs.counters, hs.kiosks⟩
  | forgotten => exact loseRetention_counts hs

end

/-- Settles O8: every act keeps the counts in their ranges (`act_counts`), and a step is a chain of acts (`step_keeps`). -/
theorem countInvariantKept : Obligations.CountInvariantKept := fun s _ hs h =>
  step_keeps s (P := State.CountsInRange) (fun _ _ ha => act_counts ha) h hs

end Sys2Proof.Acts
end
